-- ==== Sys2Proof/Word.lean ====
section
/-!
DEFINITION. The word types of PA-RISC 1.1 (spec/00_scope.md R10, spec/20_memory.md R161).
The manual numbers the bits of a word from the left: bit 0 is the most significant one.
-/

namespace Sys2Proof

/-- An 8-bit byte, the smallest addressable unit (R161). -/
abbrev Byte := BitVec 8

/-- A 32-bit word: a general register, an address, an instruction (R41, R160, R300). -/
abbrev Word := BitVec 32

/-- A 64-bit doubleword: a floating-point register (R741). -/
abbrev Dword := BitVec 64

/-- A 5-bit register number (R317). -/
abbrev Reg := BitVec 5

end Sys2Proof
end

