-- ==== Sys2Proof/Machine/Bits.lean ====
section
/-!
DEFINITION. Bit fields in the manual's numbering, sign extension and the assembly of split
immediates (spec/00_scope.md R10, spec/30_encoding.md R310 to R316).
-/

namespace Sys2Proof

/-- The `n` bits of `w` that begin at manual bit `i` (bit 0 leftmost, R10): `w{i..i+n-1}`. -/
def field (w : Word) (i n : Nat) : BitVec n := w.extractLsb' (32 - i - n) n

/-- Manual bit `i` of a word: `w{i}`. -/
def mbit (w : Word) (i : Nat) : Bool := w.getLsbD (31 - i)

/-- `w` with manual bit `i` set to `b`. -/
def setMbit (w : Word) (i : Nat) (b : Bool) : Word :=
  if b then w ||| (1#32 <<< (31 - i)) else w &&& ~~~(1#32 <<< (31 - i))

/-- `w` with the `n` bits that begin at manual bit `i` replaced by `v`. -/
def setField (w : Word) (i n : Nat) (v : BitVec n) : Word :=
  (w &&& ~~~((BitVec.allOnes n).setWidth 32 <<< (32 - i - n))) ||| (v.setWidth 32 <<< (32 - i - n))

/-- A one-bit field as a truth value. -/
def isOne (b : BitVec 1) : Bool := b == 1#1

/-- A truth value as a bit. -/
def ofBool1 (b : Bool) : BitVec 1 := if b then 1#1 else 0#1

/-- `sign_ext` to 32 bits (R310). -/
def signExt {n : Nat} (x : BitVec n) : Word := x.signExtend 32

/-- `zero_ext` to 32 bits (R310). -/
def zeroExt {n : Nat} (x : BitVec n) : Word := x.setWidth 32

/-- `low_sign_ext` of a 5-bit field (R311): the sign is the rightmost bit. -/
def lowSignExt5 (x : BitVec 5) : Word :=
  signExt (x.extractLsb' 0 1 ++ x.extractLsb' 1 4 : BitVec 5)

/-- `low_sign_ext` of an 11-bit field (R311). -/
def lowSignExt11 (x : BitVec 11) : Word :=
  signExt (x.extractLsb' 0 1 ++ x.extractLsb' 1 10 : BitVec 11)

/-- `low_sign_ext` of a 14-bit field (R311). -/
def lowSignExt14 (x : BitVec 14) : Word :=
  signExt (x.extractLsb' 0 1 ++ x.extractLsb' 1 13 : BitVec 14)

/-- `lshift(sign_ext(assemble_12(w1,w),12),2)`: the displacement of a conditional branch (R312). -/
def branchDisp12 (w1 : BitVec 11) (w : BitVec 1) : Word :=
  signExt (w ++ w1.extractLsb' 0 1 ++ w1.extractLsb' 1 10 : BitVec 12) <<< 2

/-- `lshift(sign_ext(assemble_17(w1,w2,w),17),2)`: the displacement of BL, GATE, BE and BLE (R313). -/
def branchDisp17 (w1 : BitVec 5) (w2 : BitVec 11) (w : BitVec 1) : Word :=
  signExt (w ++ w1 ++ w2.extractLsb' 0 1 ++ w2.extractLsb' 1 10 : BitVec 17) <<< 2

/-- `assemble_3`: the space register number of a 3-bit `s` field, top bit last (R314). -/
def assemble3 (s : BitVec 3) : BitVec 3 := s.extractLsb' 0 1 ++ s.extractLsb' 1 2

/-- `lshift(assemble_21(x),11)`: the immediate of LDIL and ADDIL (R315); `x{i}` is bit `20-i`. -/
def longImm21 (x : BitVec 21) : Word :=
  x.extractLsb' 0 1 ++ x.extractLsb' 1 11 ++ x.extractLsb' 14 2 ++ x.extractLsb' 16 5
    ++ x.extractLsb' 12 2 ++ 0#11

end Sys2Proof
end

