-- ==== Sys2Proof/Syntax.lean ====
section
/-!
DEFINITION. The instructions of PA-RISC 1.1: one constructor for each row of
spec/opcode_table.json, with the row's operand fields in their order in the word, as they stand in
it (spec/30_encoding.md R302, R303). Reserved fields (`rv`) are no operands (R301 (3)).
-/

namespace Sys2Proof

/-- An instruction. Each constructor's docstring gives the row's mnemonic and the rule that holds
its meaning; a field `x : BitVec n` is the field of that name. -/
inductive Instr
  /-- LDW (R412) -/
  | ldw (b : BitVec 5) (t : BitVec 5) (s : BitVec 2) (im14 : BitVec 14)
  /-- LDH (R413) -/
  | ldh (b : BitVec 5) (t : BitVec 5) (s : BitVec 2) (im14 : BitVec 14)
  /-- LDB (R414) -/
  | ldb (b : BitVec 5) (t : BitVec 5) (s : BitVec 2) (im14 : BitVec 14)
  /-- LDWM (R418) -/
  | ldwm (b : BitVec 5) (t : BitVec 5) (s : BitVec 2) (im14 : BitVec 14)
  /-- STW (R415) -/
  | stw (b : BitVec 5) (r : BitVec 5) (s : BitVec 2) (im14 : BitVec 14)
  /-- STH (R416) -/
  | sth (b : BitVec 5) (r : BitVec 5) (s : BitVec 2) (im14 : BitVec 14)
  /-- STB (R417) -/
  | stb (b : BitVec 5) (r : BitVec 5) (s : BitVec 2) (im14 : BitVec 14)
  /-- STWM (R419) -/
  | stwm (b : BitVec 5) (r : BitVec 5) (s : BitVec 2) (im14 : BitVec 14)
  /-- LDWX (R420) -/
  | ldwx (b : BitVec 5) (x : BitVec 5) (s : BitVec 2) (u : BitVec 1) (cc : BitVec 2) (m : BitVec 1) (t : BitVec 5)
  /-- LDHX (R421) -/
  | ldhx (b : BitVec 5) (x : BitVec 5) (s : BitVec 2) (u : BitVec 1) (cc : BitVec 2) (m : BitVec 1) (t : BitVec 5)
  /-- LDBX (R422) -/
  | ldbx (b : BitVec 5) (x : BitVec 5) (s : BitVec 2) (u : BitVec 1) (cc : BitVec 2) (m : BitVec 1) (t : BitVec 5)
  /-- LDCWX (R424) -/
  | ldcwx (b : BitVec 5) (x : BitVec 5) (s : BitVec 2) (u : BitVec 1) (cc : BitVec 2) (m : BitVec 1) (t : BitVec 5)
  /-- LDWAX (R423) -/
  | ldwax (b : BitVec 5) (x : BitVec 5) (u : BitVec 1) (cc : BitVec 2) (m : BitVec 1) (t : BitVec 5)
  /-- LDWS (R426) -/
  | ldws (b : BitVec 5) (im5 : BitVec 5) (s : BitVec 2) (a : BitVec 1) (cc : BitVec 2) (m : BitVec 1) (t : BitVec 5)
  /-- LDHS (R427) -/
  | ldhs (b : BitVec 5) (im5 : BitVec 5) (s : BitVec 2) (a : BitVec 1) (cc : BitVec 2) (m : BitVec 1) (t : BitVec 5)
  /-- LDBS (R428) -/
  | ldbs (b : BitVec 5) (im5 : BitVec 5) (s : BitVec 2) (a : BitVec 1) (cc : BitVec 2) (m : BitVec 1) (t : BitVec 5)
  /-- LDCWS (R430) -/
  | ldcws (b : BitVec 5) (im5 : BitVec 5) (s : BitVec 2) (a : BitVec 1) (cc : BitVec 2) (m : BitVec 1) (t : BitVec 5)
  /-- LDWAS (R429) -/
  | ldwas (b : BitVec 5) (im5 : BitVec 5) (a : BitVec 1) (cc : BitVec 2) (m : BitVec 1) (t : BitVec 5)
  /-- STWS (R431) -/
  | stws (b : BitVec 5) (r : BitVec 5) (s : BitVec 2) (a : BitVec 1) (cc : BitVec 2) (m : BitVec 1) (im5 : BitVec 5)
  /-- STBYS (R432) -/
  | stbys (b : BitVec 5) (r : BitVec 5) (s : BitVec 2) (a : BitVec 1) (cc : BitVec 2) (m : BitVec 1) (im5 : BitVec 5)
  /-- STHS (R433) -/
  | sths (b : BitVec 5) (r : BitVec 5) (s : BitVec 2) (a : BitVec 1) (cc : BitVec 2) (m : BitVec 1) (im5 : BitVec 5)
  /-- STBS (R434) -/
  | stbs (b : BitVec 5) (r : BitVec 5) (s : BitVec 2) (a : BitVec 1) (cc : BitVec 2) (m : BitVec 1) (im5 : BitVec 5)
  /-- STWAS (R435) -/
  | stwas (b : BitVec 5) (r : BitVec 5) (a : BitVec 1) (cc : BitVec 2) (m : BitVec 1) (im5 : BitVec 5)
  /-- LDO (R471) -/
  | ldo (b : BitVec 5) (t : BitVec 5) (im14 : BitVec 14)
  /-- LDIL (R472) -/
  | ldil (t : BitVec 5) (im21 : BitVec 21)
  /-- ADDIL (R473) -/
  | addil (r : BitVec 5) (im21 : BitVec 21)
  /-- BL (R484) -/
  | bl (t : BitVec 5) (w1 : BitVec 5) (w2 : BitVec 11) (n : BitVec 1) (w : BitVec 1)
  /-- GATE (R485) -/
  | gate (t : BitVec 5) (w1 : BitVec 5) (w2 : BitVec 11) (n : BitVec 1) (w : BitVec 1)
  /-- BLR (R486) -/
  | blr (t : BitVec 5) (x : BitVec 5) (n : BitVec 1)
  /-- BV (R487) -/
  | bv (b : BitVec 5) (x : BitVec 5) (n : BitVec 1)
  /-- BE (R488) -/
  | be (b : BitVec 5) (w1 : BitVec 5) (s : BitVec 3) (w2 : BitVec 11) (n : BitVec 1) (w : BitVec 1)
  /-- BLE (R489) -/
  | ble (b : BitVec 5) (w1 : BitVec 5) (s : BitVec 3) (w2 : BitVec 11) (n : BitVec 1) (w : BitVec 1)
  /-- MOVB (R500) -/
  | movb (r2 : BitVec 5) (r1 : BitVec 5) (c : BitVec 3) (w1 : BitVec 11) (n : BitVec 1) (w : BitVec 1)
  /-- COMBT (R502) -/
  | combt (r2 : BitVec 5) (r1 : BitVec 5) (c : BitVec 3) (w1 : BitVec 11) (n : BitVec 1) (w : BitVec 1)
  /-- COMBF (R503) -/
  | combf (r2 : BitVec 5) (r1 : BitVec 5) (c : BitVec 3) (w1 : BitVec 11) (n : BitVec 1) (w : BitVec 1)
  /-- ADDBT (R506) -/
  | addbt (r2 : BitVec 5) (r1 : BitVec 5) (c : BitVec 3) (w1 : BitVec 11) (n : BitVec 1) (w : BitVec 1)
  /-- ADDBF (R507) -/
  | addbf (r2 : BitVec 5) (r1 : BitVec 5) (c : BitVec 3) (w1 : BitVec 11) (n : BitVec 1) (w : BitVec 1)
  /-- MOVIB (R501) -/
  | movib (r : BitVec 5) (im5 : BitVec 5) (c : BitVec 3) (w1 : BitVec 11) (n : BitVec 1) (w : BitVec 1)
  /-- COMIBT (R504) -/
  | comibt (r : BitVec 5) (im5 : BitVec 5) (c : BitVec 3) (w1 : BitVec 11) (n : BitVec 1) (w : BitVec 1)
  /-- COMIBF (R505) -/
  | comibf (r : BitVec 5) (im5 : BitVec 5) (c : BitVec 3) (w1 : BitVec 11) (n : BitVec 1) (w : BitVec 1)
  /-- ADDIBT (R508) -/
  | addibt (r : BitVec 5) (im5 : BitVec 5) (c : BitVec 3) (w1 : BitVec 11) (n : BitVec 1) (w : BitVec 1)
  /-- ADDIBF (R509) -/
  | addibf (r : BitVec 5) (im5 : BitVec 5) (c : BitVec 3) (w1 : BitVec 11) (n : BitVec 1) (w : BitVec 1)
  /-- BVB (R510) -/
  | bvb (r : BitVec 5) (c : BitVec 3) (w1 : BitVec 11) (n : BitVec 1) (w : BitVec 1)
  /-- BB (R511) -/
  | bb (p : BitVec 5) (r : BitVec 5) (c : BitVec 3) (w1 : BitVec 11) (n : BitVec 1) (w : BitVec 1)
  /-- ADD (R533) -/
  | add (r2 : BitVec 5) (r1 : BitVec 5) (c : BitVec 3) (f : BitVec 1) (t : BitVec 5)
  /-- ADDL (R534) -/
  | addl (r2 : BitVec 5) (r1 : BitVec 5) (c : BitVec 3) (f : BitVec 1) (t : BitVec 5)
  /-- ADDO (R535) -/
  | addo (r2 : BitVec 5) (r1 : BitVec 5) (c : BitVec 3) (f : BitVec 1) (t : BitVec 5)
  /-- ADDC (R536) -/
  | addc (r2 : BitVec 5) (r1 : BitVec 5) (c : BitVec 3) (f : BitVec 1) (t : BitVec 5)
  /-- ADDCO (R537) -/
  | addco (r2 : BitVec 5) (r1 : BitVec 5) (c : BitVec 3) (f : BitVec 1) (t : BitVec 5)
  /-- SH1ADD (R538) -/
  | sh1add (r2 : BitVec 5) (r1 : BitVec 5) (c : BitVec 3) (f : BitVec 1) (t : BitVec 5)
  /-- SH1ADDL (R539) -/
  | sh1addl (r2 : BitVec 5) (r1 : BitVec 5) (c : BitVec 3) (f : BitVec 1) (t : BitVec 5)
  /-- SH1ADDO (R540) -/
  | sh1addo (r2 : BitVec 5) (r1 : BitVec 5) (c : BitVec 3) (f : BitVec 1) (t : BitVec 5)
  /-- SH2ADD (R541) -/
  | sh2add (r2 : BitVec 5) (r1 : BitVec 5) (c : BitVec 3) (f : BitVec 1) (t : BitVec 5)
  /-- SH2ADDL (R542) -/
  | sh2addl (r2 : BitVec 5) (r1 : BitVec 5) (c : BitVec 3) (f : BitVec 1) (t : BitVec 5)
  /-- SH2ADDO (R543) -/
  | sh2addo (r2 : BitVec 5) (r1 : BitVec 5) (c : BitVec 3) (f : BitVec 1) (t : BitVec 5)
  /-- SH3ADD (R544) -/
  | sh3add (r2 : BitVec 5) (r1 : BitVec 5) (c : BitVec 3) (f : BitVec 1) (t : BitVec 5)
  /-- SH3ADDL (R545) -/
  | sh3addl (r2 : BitVec 5) (r1 : BitVec 5) (c : BitVec 3) (f : BitVec 1) (t : BitVec 5)
  /-- SH3ADDO (R546) -/
  | sh3addo (r2 : BitVec 5) (r1 : BitVec 5) (c : BitVec 3) (f : BitVec 1) (t : BitVec 5)
  /-- SUB (R547) -/
  | sub (r2 : BitVec 5) (r1 : BitVec 5) (c : BitVec 3) (f : BitVec 1) (t : BitVec 5)
  /-- SUBO (R548) -/
  | subo (r2 : BitVec 5) (r1 : BitVec 5) (c : BitVec 3) (f : BitVec 1) (t : BitVec 5)
  /-- SUBB (R549) -/
  | subb (r2 : BitVec 5) (r1 : BitVec 5) (c : BitVec 3) (f : BitVec 1) (t : BitVec 5)
  /-- SUBBO (R550) -/
  | subbo (r2 : BitVec 5) (r1 : BitVec 5) (c : BitVec 3) (f : BitVec 1) (t : BitVec 5)
  /-- SUBT (R551) -/
  | subt (r2 : BitVec 5) (r1 : BitVec 5) (c : BitVec 3) (f : BitVec 1) (t : BitVec 5)
  /-- SUBTO (R552) -/
  | subto (r2 : BitVec 5) (r1 : BitVec 5) (c : BitVec 3) (f : BitVec 1) (t : BitVec 5)
  /-- DS (R553) -/
  | ds (r2 : BitVec 5) (r1 : BitVec 5) (c : BitVec 3) (f : BitVec 1) (t : BitVec 5)
  /-- COMCLR (R554) -/
  | comclr (r2 : BitVec 5) (r1 : BitVec 5) (c : BitVec 3) (f : BitVec 1) (t : BitVec 5)
  /-- OR (R555) -/
  | or (r2 : BitVec 5) (r1 : BitVec 5) (c : BitVec 3) (f : BitVec 1) (t : BitVec 5)
  /-- XOR (R556) -/
  | xor (r2 : BitVec 5) (r1 : BitVec 5) (c : BitVec 3) (f : BitVec 1) (t : BitVec 5)
  /-- AND (R557) -/
  | and (r2 : BitVec 5) (r1 : BitVec 5) (c : BitVec 3) (f : BitVec 1) (t : BitVec 5)
  /-- ANDCM (R558) -/
  | andcm (r2 : BitVec 5) (r1 : BitVec 5) (c : BitVec 3) (f : BitVec 1) (t : BitVec 5)
  /-- UXOR (R567) -/
  | uxor (r2 : BitVec 5) (r1 : BitVec 5) (c : BitVec 3) (f : BitVec 1) (t : BitVec 5)
  /-- UADDCM (R568) -/
  | uaddcm (r2 : BitVec 5) (r1 : BitVec 5) (c : BitVec 3) (f : BitVec 1) (t : BitVec 5)
  /-- UADDCMT (R569) -/
  | uaddcmt (r2 : BitVec 5) (r1 : BitVec 5) (c : BitVec 3) (f : BitVec 1) (t : BitVec 5)
  /-- DCOR (R570) -/
  | dcor (r : BitVec 5) (c : BitVec 3) (f : BitVec 1) (t : BitVec 5)
  /-- IDCOR (R571) -/
  | idcor (r : BitVec 5) (c : BitVec 3) (f : BitVec 1) (t : BitVec 5)
  /-- ADDI (R559) -/
  | addi (r : BitVec 5) (t : BitVec 5) (c : BitVec 3) (f : BitVec 1) (im11 : BitVec 11)
  /-- ADDIO (R560) -/
  | addio (r : BitVec 5) (t : BitVec 5) (c : BitVec 3) (f : BitVec 1) (im11 : BitVec 11)
  /-- ADDIT (R561) -/
  | addit (r : BitVec 5) (t : BitVec 5) (c : BitVec 3) (f : BitVec 1) (im11 : BitVec 11)
  /-- ADDITO (R562) -/
  | addito (r : BitVec 5) (t : BitVec 5) (c : BitVec 3) (f : BitVec 1) (im11 : BitVec 11)
  /-- SUBI (R563) -/
  | subi (r : BitVec 5) (t : BitVec 5) (c : BitVec 3) (f : BitVec 1) (im11 : BitVec 11)
  /-- SUBIO (R564) -/
  | subio (r : BitVec 5) (t : BitVec 5) (c : BitVec 3) (f : BitVec 1) (im11 : BitVec 11)
  /-- COMICLR (R565) -/
  | comiclr (r : BitVec 5) (t : BitVec 5) (c : BitVec 3) (f : BitVec 1) (im11 : BitVec 11)
  /-- VSHD (R603) -/
  | vshd (r2 : BitVec 5) (r1 : BitVec 5) (c : BitVec 3) (t : BitVec 5)
  /-- SHD (R604) -/
  | shd (r2 : BitVec 5) (r1 : BitVec 5) (c : BitVec 3) (cp : BitVec 5) (t : BitVec 5)
  /-- VEXTRU (R605) -/
  | vextru (r : BitVec 5) (t : BitVec 5) (c : BitVec 3) (clen : BitVec 5)
  /-- VEXTRS (R606) -/
  | vextrs (r : BitVec 5) (t : BitVec 5) (c : BitVec 3) (clen : BitVec 5)
  /-- EXTRU (R607) -/
  | extru (r : BitVec 5) (t : BitVec 5) (c : BitVec 3) (p : BitVec 5) (clen : BitVec 5)
  /-- EXTRS (R608) -/
  | extrs (r : BitVec 5) (t : BitVec 5) (c : BitVec 3) (p : BitVec 5) (clen : BitVec 5)
  /-- ZVDEP (R613) -/
  | zvdep (t : BitVec 5) (r : BitVec 5) (c : BitVec 3) (clen : BitVec 5)
  /-- VDEP (R609) -/
  | vdep (t : BitVec 5) (r : BitVec 5) (c : BitVec 3) (clen : BitVec 5)
  /-- ZDEP (R614) -/
  | zdep (t : BitVec 5) (r : BitVec 5) (c : BitVec 3) (cp : BitVec 5) (clen : BitVec 5)
  /-- DEP (R610) -/
  | dep (t : BitVec 5) (r : BitVec 5) (c : BitVec 3) (cp : BitVec 5) (clen : BitVec 5)
  /-- ZVDEPI (R615) -/
  | zvdepi (t : BitVec 5) (im5 : BitVec 5) (c : BitVec 3) (clen : BitVec 5)
  /-- VDEPI (R611) -/
  | vdepi (t : BitVec 5) (im5 : BitVec 5) (c : BitVec 3) (clen : BitVec 5)
  /-- ZDEPI (R616) -/
  | zdepi (t : BitVec 5) (im5 : BitVec 5) (c : BitVec 3) (cp : BitVec 5) (clen : BitVec 5)
  /-- DEPI (R612) -/
  | depi (t : BitVec 5) (im5 : BitVec 5) (c : BitVec 3) (cp : BitVec 5) (clen : BitVec 5)
  /-- BREAK (R631) -/
  | breakTrap (im13 : BitVec 13) (im5 : BitVec 5)
  /-- SYNC (R646) -/
  | sync
  /-- SYNCDMA (R647) -/
  | syncdma
  /-- RFI (R632) -/
  | rfi
  /-- RFIR (R633) -/
  | rfir
  /-- SSM (R634) -/
  | ssm (i : BitVec 7) (t : BitVec 5)
  /-- RSM (R635) -/
  | rsm (i : BitVec 7) (t : BitVec 5)
  /-- MTSM (R636) -/
  | mtsm (r : BitVec 5)
  /-- LDSID (R639) -/
  | ldsid (b : BitVec 5) (s : BitVec 2) (t : BitVec 5)
  /-- MTSP (R641) -/
  | mtsp (r : BitVec 5) (s : BitVec 3)
  /-- MFSP (R640) -/
  | mfsp (s : BitVec 3) (t : BitVec 5)
  /-- MTCTL (R642) -/
  | mtctl (t : BitVec 5) (r : BitVec 5)
  /-- MFCTL (R644) -/
  | mfctl (r : BitVec 5) (t : BitVec 5)
  /-- IDTLBA (R669) -/
  | idtlba (b : BitVec 5) (r : BitVec 5) (s : BitVec 2)
  /-- IDTLBP (R670) -/
  | idtlbp (b : BitVec 5) (r : BitVec 5) (s : BitVec 2)
  /-- PDTLB (R660) -/
  | pdtlb (b : BitVec 5) (x : BitVec 5) (s : BitVec 2) (m : BitVec 1)
  /-- PDTLBE (R662) -/
  | pdtlbe (b : BitVec 5) (x : BitVec 5) (s : BitVec 2) (m : BitVec 1)
  /-- FDC (R676) -/
  | fdc (b : BitVec 5) (x : BitVec 5) (s : BitVec 2) (m : BitVec 1)
  /-- FDCE (R680) -/
  | fdce (b : BitVec 5) (x : BitVec 5) (s : BitVec 2) (m : BitVec 1)
  /-- PDC (R675) -/
  | pdc (b : BitVec 5) (x : BitVec 5) (s : BitVec 2) (m : BitVec 1)
  /-- PROBER (R650) -/
  | prober (b : BitVec 5) (r : BitVec 5) (s : BitVec 2) (t : BitVec 5)
  /-- PROBERI (R651) -/
  | proberi (b : BitVec 5) (im5 : BitVec 5) (s : BitVec 2) (t : BitVec 5)
  /-- PROBEW (R652) -/
  | probew (b : BitVec 5) (r : BitVec 5) (s : BitVec 2) (t : BitVec 5)
  /-- PROBEWI (R653) -/
  | probewi (b : BitVec 5) (im5 : BitVec 5) (s : BitVec 2) (t : BitVec 5)
  /-- LPA (R655) -/
  | lpa (b : BitVec 5) (x : BitVec 5) (s : BitVec 2) (m : BitVec 1) (t : BitVec 5)
  /-- LCI (R656) -/
  | lci (b : BitVec 5) (x : BitVec 5) (s : BitVec 2) (t : BitVec 5)
  /-- IITLBA (R667) -/
  | iitlba (b : BitVec 5) (r : BitVec 5) (s : BitVec 3)
  /-- IITLBP (R668) -/
  | iitlbp (b : BitVec 5) (r : BitVec 5) (s : BitVec 3)
  /-- PITLB (R661) -/
  | pitlb (b : BitVec 5) (x : BitVec 5) (s : BitVec 3) (m : BitVec 1)
  /-- PITLBE (R663) -/
  | pitlbe (b : BitVec 5) (x : BitVec 5) (s : BitVec 3) (m : BitVec 1)
  /-- FIC (R679) -/
  | fic (b : BitVec 5) (x : BitVec 5) (s : BitVec 3) (m : BitVec 1)
  /-- FICE (R681) -/
  | fice (b : BitVec 5) (x : BitVec 5) (s : BitVec 3) (m : BitVec 1)
  /-- DIAG (R690) -/
  | diag (im26 : BitVec 26)
  /-- SPOP0 (R706) -/
  | spop0 (sop1 : BitVec 15) (sfu : BitVec 3) (n : BitVec 1) (sop2 : BitVec 5)
  /-- SPOP1 (R707) -/
  | spop1 (sop : BitVec 15) (sfu : BitVec 3) (n : BitVec 1) (t : BitVec 5)
  /-- SPOP2 (R708) -/
  | spop2 (r : BitVec 5) (sop1 : BitVec 10) (sfu : BitVec 3) (n : BitVec 1) (sop2 : BitVec 5)
  /-- SPOP3 (R709) -/
  | spop3 (r2 : BitVec 5) (r1 : BitVec 5) (sop1 : BitVec 5) (sfu : BitVec 3) (n : BitVec 1) (sop2 : BitVec 5)
  /-- COPR (R715) -/
  | copr (sop1 : BitVec 17) (uid : BitVec 3) (n : BitVec 1) (sop2 : BitVec 5)
  /-- CLDWX (R718) -/
  | cldwx (b : BitVec 5) (x : BitVec 5) (s : BitVec 2) (u : BitVec 1) (cc : BitVec 2) (uid : BitVec 3) (m : BitVec 1) (t : BitVec 5)
  /-- CLDDX (R719) -/
  | clddx (b : BitVec 5) (x : BitVec 5) (s : BitVec 2) (u : BitVec 1) (cc : BitVec 2) (uid : BitVec 3) (m : BitVec 1) (t : BitVec 5)
  /-- CSTWX (R720) -/
  | cstwx (b : BitVec 5) (x : BitVec 5) (s : BitVec 2) (u : BitVec 1) (cc : BitVec 2) (uid : BitVec 3) (m : BitVec 1) (r : BitVec 5)
  /-- CSTDX (R721) -/
  | cstdx (b : BitVec 5) (x : BitVec 5) (s : BitVec 2) (u : BitVec 1) (cc : BitVec 2) (uid : BitVec 3) (m : BitVec 1) (r : BitVec 5)
  /-- CLDWS (R722) -/
  | cldws (b : BitVec 5) (im5 : BitVec 5) (s : BitVec 2) (a : BitVec 1) (cc : BitVec 2) (uid : BitVec 3) (m : BitVec 1) (t : BitVec 5)
  /-- CLDDS (R723) -/
  | cldds (b : BitVec 5) (im5 : BitVec 5) (s : BitVec 2) (a : BitVec 1) (cc : BitVec 2) (uid : BitVec 3) (m : BitVec 1) (t : BitVec 5)
  /-- CSTWS (R724) -/
  | cstws (b : BitVec 5) (im5 : BitVec 5) (s : BitVec 2) (a : BitVec 1) (cc : BitVec 2) (uid : BitVec 3) (m : BitVec 1) (r : BitVec 5)
  /-- CSTDS (R726) -/
  | cstds (b : BitVec 5) (im5 : BitVec 5) (s : BitVec 2) (a : BitVec 1) (cc : BitVec 2) (uid : BitVec 3) (m : BitVec 1) (r : BitVec 5)
  /-- FLDWX (R825) -/
  | fldwx (b : BitVec 5) (x : BitVec 5) (s : BitVec 2) (u : BitVec 1) (cc : BitVec 2) (t_h : BitVec 1) (m : BitVec 1) (t : BitVec 5)
  /-- FSTWX (R827) -/
  | fstwx (b : BitVec 5) (x : BitVec 5) (s : BitVec 2) (u : BitVec 1) (cc : BitVec 2) (r_h : BitVec 1) (m : BitVec 1) (r : BitVec 5)
  /-- FLDDX (R826) -/
  | flddx (b : BitVec 5) (x : BitVec 5) (s : BitVec 2) (u : BitVec 1) (cc : BitVec 2) (m : BitVec 1) (t : BitVec 5)
  /-- FSTDX (R828) -/
  | fstdx (b : BitVec 5) (x : BitVec 5) (s : BitVec 2) (u : BitVec 1) (cc : BitVec 2) (m : BitVec 1) (r : BitVec 5)
  /-- FLDWS (R829) -/
  | fldws (b : BitVec 5) (im5 : BitVec 5) (s : BitVec 2) (a : BitVec 1) (cc : BitVec 2) (t_h : BitVec 1) (m : BitVec 1) (t : BitVec 5)
  /-- FSTWS (R831) -/
  | fstws (b : BitVec 5) (im5 : BitVec 5) (s : BitVec 2) (a : BitVec 1) (cc : BitVec 2) (r_h : BitVec 1) (m : BitVec 1) (r : BitVec 5)
  /-- FLDDS (R830) -/
  | fldds (b : BitVec 5) (im5 : BitVec 5) (s : BitVec 2) (a : BitVec 1) (cc : BitVec 2) (m : BitVec 1) (t : BitVec 5)
  /-- FSTDS (R832) -/
  | fstds (b : BitVec 5) (im5 : BitVec 5) (s : BitVec 2) (a : BitVec 1) (cc : BitVec 2) (m : BitVec 1) (r : BitVec 5)
  /-- COPR,0,0 (R835) -/
  | copr00
  /-- FCPY (R836) -/
  | fcpy (r : BitVec 5) (fmt : BitVec 2) (t : BitVec 5)
  /-- FCPY__0E (R836) -/
  | fcpy0E (r : BitVec 5) (fmt : BitVec 2) (r_h : BitVec 1) (t_h : BitVec 1) (t : BitVec 5)
  /-- FABS (R837) -/
  | fabs (r : BitVec 5) (fmt : BitVec 2) (t : BitVec 5)
  /-- FABS__0E (R837) -/
  | fabs0E (r : BitVec 5) (fmt : BitVec 2) (r_h : BitVec 1) (t_h : BitVec 1) (t : BitVec 5)
  /-- FSQRT (R838) -/
  | fsqrt (r : BitVec 5) (fmt : BitVec 2) (t : BitVec 5)
  /-- FSQRT__0E (R838) -/
  | fsqrt0E (r : BitVec 5) (fmt : BitVec 2) (r_h : BitVec 1) (t_h : BitVec 1) (t : BitVec 5)
  /-- FRND (R839) -/
  | frnd (r : BitVec 5) (fmt : BitVec 2) (t : BitVec 5)
  /-- FRND__0E (R839) -/
  | frnd0E (r : BitVec 5) (fmt : BitVec 2) (r_h : BitVec 1) (t_h : BitVec 1) (t : BitVec 5)
  /-- FCNVFF (R840) -/
  | fcnvff (r : BitVec 5) (df : BitVec 2) (sf : BitVec 2) (t : BitVec 5)
  /-- FCNVFF__0E (R840) -/
  | fcnvff0E (r : BitVec 5) (df : BitVec 2) (sf : BitVec 2) (r_h : BitVec 1) (t_h : BitVec 1) (t : BitVec 5)
  /-- FCNVXF (R841) -/
  | fcnvxf (r : BitVec 5) (df : BitVec 2) (sf : BitVec 2) (t : BitVec 5)
  /-- FCNVXF__0E (R841) -/
  | fcnvxf0E (r : BitVec 5) (df : BitVec 2) (sf : BitVec 2) (r_h : BitVec 1) (t_h : BitVec 1) (t : BitVec 5)
  /-- FCNVFX (R842) -/
  | fcnvfx (r : BitVec 5) (df : BitVec 2) (sf : BitVec 2) (t : BitVec 5)
  /-- FCNVFX__0E (R842) -/
  | fcnvfx0E (r : BitVec 5) (df : BitVec 2) (sf : BitVec 2) (r_h : BitVec 1) (t_h : BitVec 1) (t : BitVec 5)
  /-- FCNVFXT (R843) -/
  | fcnvfxt (r : BitVec 5) (df : BitVec 2) (sf : BitVec 2) (t : BitVec 5)
  /-- FCNVFXT__0E (R843) -/
  | fcnvfxt0E (r : BitVec 5) (df : BitVec 2) (sf : BitVec 2) (r_h : BitVec 1) (t_h : BitVec 1) (t : BitVec 5)
  /-- FCMP (R845) -/
  | fcmp (r1 : BitVec 5) (r2 : BitVec 5) (fmt : BitVec 2) (c : BitVec 5)
  /-- FCMP__0E (R845) -/
  | fcmp0E (r1 : BitVec 5) (r2 : BitVec 5) (r2_h : BitVec 1) (f : BitVec 1) (r1_h : BitVec 1) (c : BitVec 5)
  /-- FTEST (R846) -/
  | ftest (c : BitVec 5)
  /-- FADD (R850) -/
  | fadd (r1 : BitVec 5) (r2 : BitVec 5) (fmt : BitVec 2) (t : BitVec 5)
  /-- FADD__0E (R850) -/
  | fadd0E (r1 : BitVec 5) (r2 : BitVec 5) (r2_h : BitVec 1) (f : BitVec 1) (r1_h : BitVec 1) (t_h : BitVec 1) (t : BitVec 5)
  /-- FSUB (R851) -/
  | fsub (r1 : BitVec 5) (r2 : BitVec 5) (fmt : BitVec 2) (t : BitVec 5)
  /-- FSUB__0E (R851) -/
  | fsub0E (r1 : BitVec 5) (r2 : BitVec 5) (r2_h : BitVec 1) (f : BitVec 1) (r1_h : BitVec 1) (t_h : BitVec 1) (t : BitVec 5)
  /-- FMPY (R852) -/
  | fmpy (r1 : BitVec 5) (r2 : BitVec 5) (fmt : BitVec 2) (t : BitVec 5)
  /-- FMPY__0E (R852) -/
  | fmpy0E (r1 : BitVec 5) (r2 : BitVec 5) (r2_h : BitVec 1) (f : BitVec 1) (r1_h : BitVec 1) (t_h : BitVec 1) (t : BitVec 5)
  /-- FDIV (R853) -/
  | fdiv (r1 : BitVec 5) (r2 : BitVec 5) (fmt : BitVec 2) (t : BitVec 5)
  /-- FDIV__0E (R853) -/
  | fdiv0E (r1 : BitVec 5) (r2 : BitVec 5) (r2_h : BitVec 1) (f : BitVec 1) (r1_h : BitVec 1) (t_h : BitVec 1) (t : BitVec 5)
  /-- XMPYU (R855) -/
  | xmpyu (r1 : BitVec 5) (r2 : BitVec 5) (r2_h : BitVec 1) (r1_h : BitVec 1) (t : BitVec 5)
  /-- FMPYADD (R860) -/
  | fmpyadd (rm1 : BitVec 5) (rm2 : BitVec 5) (ta : BitVec 5) (ra : BitVec 5) (f : BitVec 1) (tm : BitVec 5)
  /-- FMPYSUB (R861) -/
  | fmpysub (rm1 : BitVec 5) (rm2 : BitVec 5) (ta : BitVec 5) (ra : BitVec 5) (f : BitVec 1) (tm : BitVec 5)
  /-- PMDIS (R883) -/
  | pmdis
  /-- PMENB (R884) -/
  | pmenb
  /-- DEBUGID (R895) -/
  | debugid (t : BitVec 5)
  /-- MFDBAO (R897) -/
  | mfdbao (r : BitVec 5) (t : BitVec 5)
  /-- MFDBAM (R896) -/
  | mfdbam (r : BitVec 5) (t : BitVec 5)
  /-- MFIBAO (R899) -/
  | mfibao (r : BitVec 5) (t : BitVec 5)
  /-- MFIBAM (R898) -/
  | mfibam (r : BitVec 5) (t : BitVec 5)
  /-- MTDBAO (R901) -/
  | mtdbao (r : BitVec 5) (t : BitVec 5)
  /-- MTDBAM (R900) -/
  | mtdbam (r : BitVec 5) (t : BitVec 5)
  /-- MTIBAO (R903) -/
  | mtibao (r : BitVec 5) (t : BitVec 5)
  /-- MTIBAM (R902) -/
  | mtibam (r : BitVec 5) (t : BitVec 5)
deriving DecidableEq, Repr

end Sys2Proof
end

