-- ==== Sys2Proof/Decode.lean ====
section
/-!
DEFINITION. Decoding of instruction words (spec/30_encoding.md R300 to R303, R340 to R356), total on
any word, and the encoder, written from the same tables. Where several rows match, the most specific
one is taken.
-/

namespace Sys2Proof

/-- System_op, major opcode 00 (R342). -/
def decodeSystem (w : Word) : Option Instr :=
  match (field w 19 8).toNat with
  | 0x0 => some (.breakTrap (field w 6 13) (field w 27 5))
  | 0x20 => if field w 11 1 = 0#1 ∧ field w 16 3 = 0#3 ∧ field w 27 5 = 0#5 then some (.sync)
    else if field w 11 1 = 1#1 ∧ field w 16 3 = 0#3 ∧ field w 27 5 = 0#5 then some (.syncdma)
    else none
  | 0x25 => if field w 11 5 = 0#5 then some (.mfsp (field w 16 3) (field w 27 5))
    else none
  | 0x45 => if field w 11 5 = 0#5 then some (.mfctl (field w 6 5) (field w 27 5))
    else none
  | 0x60 => if field w 27 5 = 0#5 then some (.rfi)
    else none
  | 0x65 => if field w 27 5 = 0#5 then some (.rfir)
    else none
  | 0x6b => if field w 16 3 = 0#3 then some (.ssm (field w 9 7) (field w 27 5))
    else none
  | 0x73 => if field w 16 3 = 0#3 then some (.rsm (field w 9 7) (field w 27 5))
    else none
  | 0x85 => if field w 18 1 = 0#1 then some (.ldsid (field w 6 5) (field w 16 2) (field w 27 5))
    else none
  | 0xc1 => if field w 27 5 = 0#5 then some (.mtsp (field w 11 5) (field w 16 3))
    else none
  | 0xc2 => if field w 27 5 = 0#5 then some (.mtctl (field w 6 5) (field w 11 5))
    else none
  | 0xc3 => if field w 6 5 = 0#5 ∧ field w 16 3 = 0#3 ∧ field w 27 5 = 0#5 then some (.mtsm (field w 11 5))
    else none
  | _ => none

/-- Mem_Mgmt, major opcode 01 (R352): instruction side when bit 19 is 0. -/
def decodeMemMgmt (w : Word) : Option Instr :=
  match (field w 19 7).toNat with
  | 0x0 => if field w 26 6 = 0#6 then some (.iitlbp (field w 6 5) (field w 11 5) (field w 16 3))
    else none
  | 0x1 => if field w 26 6 = 0#6 then some (.iitlba (field w 6 5) (field w 11 5) (field w 16 3))
    else none
  | 0x8 => some (.pitlb (field w 6 5) (field w 11 5) (field w 16 3) (field w 26 1))
  | 0x9 => some (.pitlbe (field w 6 5) (field w 11 5) (field w 16 3) (field w 26 1))
  | 0xa => some (.fic (field w 6 5) (field w 11 5) (field w 16 3) (field w 26 1))
  | 0xb => some (.fice (field w 6 5) (field w 11 5) (field w 16 3) (field w 26 1))
  | 0x40 => if field w 18 1 = 0#1 ∧ field w 26 6 = 0#6 then some (.idtlbp (field w 6 5) (field w 11 5) (field w 16 2))
    else none
  | 0x41 => if field w 18 1 = 0#1 ∧ field w 26 6 = 0#6 then some (.idtlba (field w 6 5) (field w 11 5) (field w 16 2))
    else none
  | 0x46 => if field w 18 1 = 0#1 ∧ field w 26 1 = 0#1 then some (.prober (field w 6 5) (field w 11 5) (field w 16 2) (field w 27 5))
    else if field w 18 1 = 1#1 ∧ field w 26 1 = 0#1 then some (.proberi (field w 6 5) (field w 11 5) (field w 16 2) (field w 27 5))
    else none
  | 0x47 => if field w 18 1 = 0#1 ∧ field w 26 1 = 0#1 then some (.probew (field w 6 5) (field w 11 5) (field w 16 2) (field w 27 5))
    else if field w 18 1 = 1#1 ∧ field w 26 1 = 0#1 then some (.probewi (field w 6 5) (field w 11 5) (field w 16 2) (field w 27 5))
    else none
  | 0x48 => if field w 18 1 = 0#1 then some (.pdtlb (field w 6 5) (field w 11 5) (field w 16 2) (field w 26 1))
    else none
  | 0x49 => if field w 18 1 = 0#1 then some (.pdtlbe (field w 6 5) (field w 11 5) (field w 16 2) (field w 26 1))
    else none
  | 0x4a => if field w 18 1 = 0#1 then some (.fdc (field w 6 5) (field w 11 5) (field w 16 2) (field w 26 1))
    else none
  | 0x4b => if field w 18 1 = 0#1 then some (.fdce (field w 6 5) (field w 11 5) (field w 16 2) (field w 26 1))
    else none
  | 0x4c => if field w 18 1 = 0#1 ∧ field w 26 1 = 0#1 then some (.lci (field w 6 5) (field w 11 5) (field w 16 2) (field w 27 5))
    else none
  | 0x4d => if field w 18 1 = 0#1 then some (.lpa (field w 6 5) (field w 11 5) (field w 16 2) (field w 26 1) (field w 27 5))
    else none
  | 0x4e => if field w 18 1 = 0#1 ∧ field w 27 5 = 0#5 then some (.pdc (field w 6 5) (field w 11 5) (field w 16 2) (field w 26 1))
    else none
  | _ => none

/-- Arith/Log, major opcode 02 (R343). -/
def decodeArith (w : Word) : Option Instr :=
  match (field w 20 6).toNat with
  | 0x0 => if field w 26 1 = 0#1 then some (.andcm (field w 6 5) (field w 11 5) (field w 16 3) (field w 19 1) (field w 27 5))
    else none
  | 0x8 => if field w 26 1 = 0#1 then some (.and (field w 6 5) (field w 11 5) (field w 16 3) (field w 19 1) (field w 27 5))
    else none
  | 0x9 => if field w 26 1 = 0#1 then some (.or (field w 6 5) (field w 11 5) (field w 16 3) (field w 19 1) (field w 27 5))
    else none
  | 0xa => if field w 26 1 = 0#1 then some (.xor (field w 6 5) (field w 11 5) (field w 16 3) (field w 19 1) (field w 27 5))
    else none
  | 0xe => if field w 26 1 = 0#1 then some (.uxor (field w 6 5) (field w 11 5) (field w 16 3) (field w 19 1) (field w 27 5))
    else none
  | 0x10 => if field w 26 1 = 0#1 then some (.sub (field w 6 5) (field w 11 5) (field w 16 3) (field w 19 1) (field w 27 5))
    else none
  | 0x11 => if field w 26 1 = 0#1 then some (.ds (field w 6 5) (field w 11 5) (field w 16 3) (field w 19 1) (field w 27 5))
    else none
  | 0x13 => if field w 26 1 = 0#1 then some (.subt (field w 6 5) (field w 11 5) (field w 16 3) (field w 19 1) (field w 27 5))
    else none
  | 0x14 => if field w 26 1 = 0#1 then some (.subb (field w 6 5) (field w 11 5) (field w 16 3) (field w 19 1) (field w 27 5))
    else none
  | 0x18 => if field w 26 1 = 0#1 then some (.add (field w 6 5) (field w 11 5) (field w 16 3) (field w 19 1) (field w 27 5))
    else none
  | 0x19 => if field w 26 1 = 0#1 then some (.sh1add (field w 6 5) (field w 11 5) (field w 16 3) (field w 19 1) (field w 27 5))
    else none
  | 0x1a => if field w 26 1 = 0#1 then some (.sh2add (field w 6 5) (field w 11 5) (field w 16 3) (field w 19 1) (field w 27 5))
    else none
  | 0x1b => if field w 26 1 = 0#1 then some (.sh3add (field w 6 5) (field w 11 5) (field w 16 3) (field w 19 1) (field w 27 5))
    else none
  | 0x1c => if field w 26 1 = 0#1 then some (.addc (field w 6 5) (field w 11 5) (field w 16 3) (field w 19 1) (field w 27 5))
    else none
  | 0x22 => if field w 26 1 = 0#1 then some (.comclr (field w 6 5) (field w 11 5) (field w 16 3) (field w 19 1) (field w 27 5))
    else none
  | 0x26 => if field w 26 1 = 0#1 then some (.uaddcm (field w 6 5) (field w 11 5) (field w 16 3) (field w 19 1) (field w 27 5))
    else none
  | 0x27 => if field w 26 1 = 0#1 then some (.uaddcmt (field w 6 5) (field w 11 5) (field w 16 3) (field w 19 1) (field w 27 5))
    else none
  | 0x28 => if field w 26 1 = 0#1 then some (.addl (field w 6 5) (field w 11 5) (field w 16 3) (field w 19 1) (field w 27 5))
    else none
  | 0x29 => if field w 26 1 = 0#1 then some (.sh1addl (field w 6 5) (field w 11 5) (field w 16 3) (field w 19 1) (field w 27 5))
    else none
  | 0x2a => if field w 26 1 = 0#1 then some (.sh2addl (field w 6 5) (field w 11 5) (field w 16 3) (field w 19 1) (field w 27 5))
    else none
  | 0x2b => if field w 26 1 = 0#1 then some (.sh3addl (field w 6 5) (field w 11 5) (field w 16 3) (field w 19 1) (field w 27 5))
    else none
  | 0x2e => if field w 11 5 = 0#5 ∧ field w 26 1 = 0#1 then some (.dcor (field w 6 5) (field w 16 3) (field w 19 1) (field w 27 5))
    else none
  | 0x2f => if field w 11 5 = 0#5 ∧ field w 26 1 = 0#1 then some (.idcor (field w 6 5) (field w 16 3) (field w 19 1) (field w 27 5))
    else none
  | 0x30 => if field w 26 1 = 0#1 then some (.subo (field w 6 5) (field w 11 5) (field w 16 3) (field w 19 1) (field w 27 5))
    else none
  | 0x33 => if field w 26 1 = 0#1 then some (.subto (field w 6 5) (field w 11 5) (field w 16 3) (field w 19 1) (field w 27 5))
    else none
  | 0x34 => if field w 26 1 = 0#1 then some (.subbo (field w 6 5) (field w 11 5) (field w 16 3) (field w 19 1) (field w 27 5))
    else none
  | 0x38 => if field w 26 1 = 0#1 then some (.addo (field w 6 5) (field w 11 5) (field w 16 3) (field w 19 1) (field w 27 5))
    else none
  | 0x39 => if field w 26 1 = 0#1 then some (.sh1addo (field w 6 5) (field w 11 5) (field w 16 3) (field w 19 1) (field w 27 5))
    else none
  | 0x3a => if field w 26 1 = 0#1 then some (.sh2addo (field w 6 5) (field w 11 5) (field w 16 3) (field w 19 1) (field w 27 5))
    else none
  | 0x3b => if field w 26 1 = 0#1 then some (.sh3addo (field w 6 5) (field w 11 5) (field w 16 3) (field w 19 1) (field w 27 5))
    else none
  | 0x3c => if field w 26 1 = 0#1 then some (.addco (field w 6 5) (field w 11 5) (field w 16 3) (field w 19 1) (field w 27 5))
    else none
  | _ => none

/-- Index_Mem, major opcode 03 (R344). -/
def decodeIndexMem (w : Word) : Option Instr :=
  match (field w 22 4).toNat with
  | 0x0 => if field w 19 1 = 0#1 then some (.ldbx (field w 6 5) (field w 11 5) (field w 16 2) (field w 18 1) (field w 20 2) (field w 26 1) (field w 27 5))
    else if field w 19 1 = 1#1 then some (.ldbs (field w 6 5) (field w 11 5) (field w 16 2) (field w 18 1) (field w 20 2) (field w 26 1) (field w 27 5))
    else none
  | 0x1 => if field w 19 1 = 0#1 then some (.ldhx (field w 6 5) (field w 11 5) (field w 16 2) (field w 18 1) (field w 20 2) (field w 26 1) (field w 27 5))
    else if field w 19 1 = 1#1 then some (.ldhs (field w 6 5) (field w 11 5) (field w 16 2) (field w 18 1) (field w 20 2) (field w 26 1) (field w 27 5))
    else none
  | 0x2 => if field w 19 1 = 0#1 then some (.ldwx (field w 6 5) (field w 11 5) (field w 16 2) (field w 18 1) (field w 20 2) (field w 26 1) (field w 27 5))
    else if field w 19 1 = 1#1 then some (.ldws (field w 6 5) (field w 11 5) (field w 16 2) (field w 18 1) (field w 20 2) (field w 26 1) (field w 27 5))
    else none
  | 0x6 => if field w 16 2 = 0#2 ∧ field w 19 1 = 0#1 then some (.ldwax (field w 6 5) (field w 11 5) (field w 18 1) (field w 20 2) (field w 26 1) (field w 27 5))
    else if field w 16 2 = 0#2 ∧ field w 19 1 = 1#1 then some (.ldwas (field w 6 5) (field w 11 5) (field w 18 1) (field w 20 2) (field w 26 1) (field w 27 5))
    else none
  | 0x7 => if field w 19 1 = 0#1 then some (.ldcwx (field w 6 5) (field w 11 5) (field w 16 2) (field w 18 1) (field w 20 2) (field w 26 1) (field w 27 5))
    else if field w 19 1 = 1#1 then some (.ldcws (field w 6 5) (field w 11 5) (field w 16 2) (field w 18 1) (field w 20 2) (field w 26 1) (field w 27 5))
    else none
  | 0x8 => if field w 19 1 = 1#1 then some (.stbs (field w 6 5) (field w 11 5) (field w 16 2) (field w 18 1) (field w 20 2) (field w 26 1) (field w 27 5))
    else none
  | 0x9 => if field w 19 1 = 1#1 then some (.sths (field w 6 5) (field w 11 5) (field w 16 2) (field w 18 1) (field w 20 2) (field w 26 1) (field w 27 5))
    else none
  | 0xa => if field w 19 1 = 1#1 then some (.stws (field w 6 5) (field w 11 5) (field w 16 2) (field w 18 1) (field w 20 2) (field w 26 1) (field w 27 5))
    else none
  | 0xc => if field w 19 1 = 1#1 then some (.stbys (field w 6 5) (field w 11 5) (field w 16 2) (field w 18 1) (field w 20 2) (field w 26 1) (field w 27 5))
    else none
  | 0xe => if field w 16 2 = 0#2 ∧ field w 19 1 = 1#1 then some (.stwas (field w 6 5) (field w 11 5) (field w 18 1) (field w 20 2) (field w 26 1) (field w 27 5))
    else none
  | _ => none

/-- Copr_w, major opcode 09 (R348); uid 0 and 1 are the floating-point forms. -/
def decodeCoprWord (w : Word) : Option Instr :=
  match (field w 22 1).toNat with
  | 0x0 => if field w 19 1 = 0#1 ∧ field w 23 2 = 0#2 then some (.fldwx (field w 6 5) (field w 11 5) (field w 16 2) (field w 18 1) (field w 20 2) (field w 25 1) (field w 26 1) (field w 27 5))
    else if field w 19 1 = 1#1 ∧ field w 23 2 = 0#2 then some (.fldws (field w 6 5) (field w 11 5) (field w 16 2) (field w 18 1) (field w 20 2) (field w 25 1) (field w 26 1) (field w 27 5))
    else if field w 19 1 = 0#1 then some (.cldwx (field w 6 5) (field w 11 5) (field w 16 2) (field w 18 1) (field w 20 2) (field w 23 3) (field w 26 1) (field w 27 5))
    else if field w 19 1 = 1#1 then some (.cldws (field w 6 5) (field w 11 5) (field w 16 2) (field w 18 1) (field w 20 2) (field w 23 3) (field w 26 1) (field w 27 5))
    else none
  | 0x1 => if field w 19 1 = 0#1 ∧ field w 23 2 = 0#2 then some (.fstwx (field w 6 5) (field w 11 5) (field w 16 2) (field w 18 1) (field w 20 2) (field w 25 1) (field w 26 1) (field w 27 5))
    else if field w 19 1 = 1#1 ∧ field w 23 2 = 0#2 then some (.fstws (field w 6 5) (field w 11 5) (field w 16 2) (field w 18 1) (field w 20 2) (field w 25 1) (field w 26 1) (field w 27 5))
    else if field w 19 1 = 0#1 then some (.cstwx (field w 6 5) (field w 11 5) (field w 16 2) (field w 18 1) (field w 20 2) (field w 23 3) (field w 26 1) (field w 27 5))
    else if field w 19 1 = 1#1 then some (.cstws (field w 6 5) (field w 11 5) (field w 16 2) (field w 18 1) (field w 20 2) (field w 23 3) (field w 26 1) (field w 27 5))
    else none
  | _ => none

/-- Copr_dw, major opcode 0B (R348); uid 0 is the floating-point form. -/
def decodeCoprDword (w : Word) : Option Instr :=
  match (field w 22 1).toNat with
  | 0x0 => if field w 19 1 = 0#1 ∧ field w 23 3 = 0#3 then some (.flddx (field w 6 5) (field w 11 5) (field w 16 2) (field w 18 1) (field w 20 2) (field w 26 1) (field w 27 5))
    else if field w 19 1 = 1#1 ∧ field w 23 3 = 0#3 then some (.fldds (field w 6 5) (field w 11 5) (field w 16 2) (field w 18 1) (field w 20 2) (field w 26 1) (field w 27 5))
    else if field w 19 1 = 0#1 then some (.clddx (field w 6 5) (field w 11 5) (field w 16 2) (field w 18 1) (field w 20 2) (field w 23 3) (field w 26 1) (field w 27 5))
    else if field w 19 1 = 1#1 then some (.cldds (field w 6 5) (field w 11 5) (field w 16 2) (field w 18 1) (field w 20 2) (field w 23 3) (field w 26 1) (field w 27 5))
    else none
  | 0x1 => if field w 19 1 = 0#1 ∧ field w 23 3 = 0#3 then some (.fstdx (field w 6 5) (field w 11 5) (field w 16 2) (field w 18 1) (field w 20 2) (field w 26 1) (field w 27 5))
    else if field w 19 1 = 1#1 ∧ field w 23 3 = 0#3 then some (.fstds (field w 6 5) (field w 11 5) (field w 16 2) (field w 18 1) (field w 20 2) (field w 26 1) (field w 27 5))
    else if field w 19 1 = 0#1 then some (.cstdx (field w 6 5) (field w 11 5) (field w 16 2) (field w 18 1) (field w 20 2) (field w 23 3) (field w 26 1) (field w 27 5))
    else if field w 19 1 = 1#1 then some (.cstds (field w 6 5) (field w 11 5) (field w 16 2) (field w 18 1) (field w 20 2) (field w 23 3) (field w 26 1) (field w 27 5))
    else none
  | _ => none

/-- COMICLR, major opcode 24, bit 20 a literal 0 (R345). -/
def decodeComiclr (w : Word) : Option Instr :=
  match (field w 20 1).toNat with
  | 0x0 => some (.comiclr (field w 6 5) (field w 11 5) (field w 16 3) (field w 19 1) (field w 21 11))
  | _ => none

/-- Subi, major opcode 25 (R345). -/
def decodeSubi (w : Word) : Option Instr :=
  match (field w 20 1).toNat with
  | 0x0 => some (.subi (field w 6 5) (field w 11 5) (field w 16 3) (field w 19 1) (field w 21 11))
  | 0x1 => some (.subio (field w 6 5) (field w 11 5) (field w 16 3) (field w 19 1) (field w 21 11))
  | _ => none

/-- Addit, major opcode 2C (R345). -/
def decodeAddit (w : Word) : Option Instr :=
  match (field w 20 1).toNat with
  | 0x0 => some (.addit (field w 6 5) (field w 11 5) (field w 16 3) (field w 19 1) (field w 21 11))
  | 0x1 => some (.addito (field w 6 5) (field w 11 5) (field w 16 3) (field w 19 1) (field w 21 11))
  | _ => none

/-- Addi, major opcode 2D (R345). -/
def decodeAddi (w : Word) : Option Instr :=
  match (field w 20 1).toNat with
  | 0x0 => some (.addi (field w 6 5) (field w 11 5) (field w 16 3) (field w 19 1) (field w 21 11))
  | 0x1 => some (.addio (field w 6 5) (field w 11 5) (field w 16 3) (field w 19 1) (field w 21 11))
  | _ => none

/-- Extract, major opcode 34 (R346). -/
def decodeExtract (w : Word) : Option Instr :=
  match (field w 19 3).toNat with
  | 0x0 => if field w 22 5 = 0#5 then some (.vshd (field w 6 5) (field w 11 5) (field w 16 3) (field w 27 5))
    else none
  | 0x2 => some (.shd (field w 6 5) (field w 11 5) (field w 16 3) (field w 22 5) (field w 27 5))
  | 0x4 => if field w 22 5 = 0#5 then some (.vextru (field w 6 5) (field w 11 5) (field w 16 3) (field w 27 5))
    else none
  | 0x5 => if field w 22 5 = 0#5 then some (.vextrs (field w 6 5) (field w 11 5) (field w 16 3) (field w 27 5))
    else none
  | 0x6 => some (.extru (field w 6 5) (field w 11 5) (field w 16 3) (field w 22 5) (field w 27 5))
  | 0x7 => some (.extrs (field w 6 5) (field w 11 5) (field w 16 3) (field w 22 5) (field w 27 5))
  | _ => none

/-- Deposit, major opcode 35 (R346). -/
def decodeDeposit (w : Word) : Option Instr :=
  match (field w 19 3).toNat with
  | 0x0 => if field w 22 5 = 0#5 then some (.zvdep (field w 6 5) (field w 11 5) (field w 16 3) (field w 27 5))
    else none
  | 0x1 => if field w 22 5 = 0#5 then some (.vdep (field w 6 5) (field w 11 5) (field w 16 3) (field w 27 5))
    else none
  | 0x2 => some (.zdep (field w 6 5) (field w 11 5) (field w 16 3) (field w 22 5) (field w 27 5))
  | 0x3 => some (.dep (field w 6 5) (field w 11 5) (field w 16 3) (field w 22 5) (field w 27 5))
  | 0x4 => if field w 22 5 = 0#5 then some (.zvdepi (field w 6 5) (field w 11 5) (field w 16 3) (field w 27 5))
    else none
  | 0x5 => if field w 22 5 = 0#5 then some (.vdepi (field w 6 5) (field w 11 5) (field w 16 3) (field w 27 5))
    else none
  | 0x6 => some (.zdepi (field w 6 5) (field w 11 5) (field w 16 3) (field w 22 5) (field w 27 5))
  | 0x7 => some (.depi (field w 6 5) (field w 11 5) (field w 16 3) (field w 22 5) (field w 27 5))
  | _ => none

/-- Branch, major opcode 3A (R347). -/
def decodeBranch (w : Word) : Option Instr :=
  match (field w 16 3).toNat with
  | 0x0 => some (.bl (field w 6 5) (field w 11 5) (field w 19 11) (field w 30 1) (field w 31 1))
  | 0x1 => some (.gate (field w 6 5) (field w 11 5) (field w 19 11) (field w 30 1) (field w 31 1))
  | 0x2 => if field w 19 11 = 0#11 ∧ field w 31 1 = 0#1 then some (.blr (field w 6 5) (field w 11 5) (field w 30 1))
    else none
  | 0x6 => if field w 19 11 = 0#11 ∧ field w 31 1 = 0#1 then some (.bv (field w 6 5) (field w 11 5) (field w 30 1))
    else none
  | _ => none

/-- SPOPn, major opcode 04 (R349): the format is bits 21..22. The debug SFU's words (sfu 1, bit 26
zero) are rows of their own (R354); class 1 carries the move-from and class 2 the move-to forms. -/
def decodeSpop (w : Word) : Option Instr :=
  match (field w 21 2).toNat with
  | 0 =>
    some (.spop0 (field w 6 15) (field w 23 3) (field w 26 1) (field w 27 5))
  | 1 =>
    if field w 23 3 = 1#3 ∧ field w 26 1 = 0#1 then
      match (field w 18 3).toNat with
      | 0 => if field w 6 12 = 0#12 then some (.debugid (field w 27 5)) else some (.spop1 (field w 6 15) (field w 23 3) (field w 26 1) (field w 27 5))
      | 4 => some (.mfdbao (field w 6 5) (field w 27 5))
      | 5 => some (.mfdbam (field w 6 5) (field w 27 5))
      | 6 => some (.mfibao (field w 6 5) (field w 27 5))
      | 7 => some (.mfibam (field w 6 5) (field w 27 5))
      | _ => some (.spop1 (field w 6 15) (field w 23 3) (field w 26 1) (field w 27 5))
    else some (.spop1 (field w 6 15) (field w 23 3) (field w 26 1) (field w 27 5))
  | 2 =>
    if field w 23 3 = 1#3 ∧ field w 26 1 = 0#1 then
      match (field w 18 3).toNat with
      | 4 => some (.mtdbao (field w 6 5) (field w 27 5))
      | 5 => some (.mtdbam (field w 6 5) (field w 27 5))
      | 6 => some (.mtibao (field w 6 5) (field w 27 5))
      | 7 => some (.mtibam (field w 6 5) (field w 27 5))
      | _ => some (.spop2 (field w 6 5) (field w 11 10) (field w 23 3) (field w 26 1) (field w 27 5))
    else some (.spop2 (field w 6 5) (field w 11 10) (field w 23 3) (field w 26 1) (field w 27 5))
  | 3 =>
    some (.spop3 (field w 6 5) (field w 11 5) (field w 16 5) (field w 23 3) (field w 26 1) (field w 27 5))
  | _ => none

/-- Floating-point operations of major opcode 0C with uid 0 (R350): the class is bits 21..22. -/
def decodeFloat0C (w : Word) : Option Instr :=
  match (field w 21 2).toNat with
  | 0 =>
    match (field w 16 3).toNat with
    | 0 => if field w 6 10 = 0#10 ∧ field w 19 2 = 0#2 ∧ field w 26 1 = 0#1 ∧ field w 27 5 = 0#5 then some (.copr00)
      else none
    | 2 => if field w 11 5 = 0#5 ∧ field w 26 1 = 0#1 then some (.fcpy (field w 6 5) (field w 19 2) (field w 27 5))
      else none
    | 3 => if field w 11 5 = 0#5 ∧ field w 26 1 = 0#1 then some (.fabs (field w 6 5) (field w 19 2) (field w 27 5))
      else none
    | 4 => if field w 11 5 = 0#5 ∧ field w 26 1 = 0#1 then some (.fsqrt (field w 6 5) (field w 19 2) (field w 27 5))
      else none
    | 5 => if field w 11 5 = 0#5 ∧ field w 26 1 = 0#1 then some (.frnd (field w 6 5) (field w 19 2) (field w 27 5))
      else none
    | _ => none
  | 1 =>
    match (field w 15 2).toNat with
    | 0 => if field w 11 4 = 0#4 ∧ field w 26 1 = 0#1 then some (.fcnvff (field w 6 5) (field w 17 2) (field w 19 2) (field w 27 5))
      else none
    | 1 => if field w 11 4 = 0#4 ∧ field w 26 1 = 0#1 then some (.fcnvxf (field w 6 5) (field w 17 2) (field w 19 2) (field w 27 5))
      else none
    | 2 => if field w 11 4 = 0#4 ∧ field w 26 1 = 0#1 then some (.fcnvfx (field w 6 5) (field w 17 2) (field w 19 2) (field w 27 5))
      else none
    | 3 => if field w 11 4 = 0#4 ∧ field w 26 1 = 0#1 then some (.fcnvfxt (field w 6 5) (field w 17 2) (field w 19 2) (field w 27 5))
      else none
    | _ => none
  | 2 =>
    match (field w 16 3).toNat with
    | 0 => if field w 26 1 = 0#1 then some (.fcmp (field w 6 5) (field w 11 5) (field w 19 2) (field w 27 5))
      else none
    | 1 => if field w 6 10 = 0#10 ∧ field w 19 2 = 0#2 ∧ field w 26 1 = 1#1 then some (.ftest (field w 27 5))
      else none
    | _ => none
  | 3 =>
    match (field w 16 3).toNat with
    | 0 => if field w 26 1 = 0#1 then some (.fadd (field w 6 5) (field w 11 5) (field w 19 2) (field w 27 5))
      else none
    | 1 => if field w 26 1 = 0#1 then some (.fsub (field w 6 5) (field w 11 5) (field w 19 2) (field w 27 5))
      else none
    | 2 => if field w 26 1 = 0#1 then some (.fmpy (field w 6 5) (field w 11 5) (field w 19 2) (field w 27 5))
      else none
    | 3 => if field w 26 1 = 0#1 then some (.fdiv (field w 6 5) (field w 11 5) (field w 19 2) (field w 27 5))
      else none
    | _ => none
  | _ => none

/-- COPR, major opcode 0C: uid 0 is the floating-point coprocessor, uid 2 the performance monitor
(R350, R353); every other word is the general row, whose meaning tells undefined words apart. -/
def decodeCopr (w : Word) : Option Instr :=
  match (field w 23 3).toNat with
  | 0 =>
    match decodeFloat0C w with
    | some i => some i
    | none => some (.copr (field w 6 17) (field w 23 3) (field w 26 1) (field w 27 5))
  | 2 =>
    if field w 18 5 = 1#5 ∧ field w 26 1 = 0#1 then some .pmdis
    else if field w 18 5 = 3#5 ∧ field w 26 1 = 0#1 then some .pmenb
    else some (.copr (field w 6 17) (field w 23 3) (field w 26 1) (field w 27 5))
  | _ => some (.copr (field w 6 17) (field w 23 3) (field w 26 1) (field w 27 5))

/-- Floating-point operations of major opcode 0E (R351). -/
def decodeFloat0E (w : Word) : Option Instr :=
  match (field w 21 2).toNat with
  | 0 =>
    match (field w 16 3).toNat with
    | 2 => if field w 11 5 = 0#5 ∧ field w 23 1 = 0#1 ∧ field w 26 1 = 0#1 then some (.fcpy0E (field w 6 5) (field w 19 2) (field w 24 1) (field w 25 1) (field w 27 5))
      else none
    | 3 => if field w 11 5 = 0#5 ∧ field w 23 1 = 0#1 ∧ field w 26 1 = 0#1 then some (.fabs0E (field w 6 5) (field w 19 2) (field w 24 1) (field w 25 1) (field w 27 5))
      else none
    | 4 => if field w 11 5 = 0#5 ∧ field w 23 1 = 0#1 ∧ field w 26 1 = 0#1 then some (.fsqrt0E (field w 6 5) (field w 19 2) (field w 24 1) (field w 25 1) (field w 27 5))
      else none
    | 5 => if field w 11 5 = 0#5 ∧ field w 23 1 = 0#1 ∧ field w 26 1 = 0#1 then some (.frnd0E (field w 6 5) (field w 19 2) (field w 24 1) (field w 25 1) (field w 27 5))
      else none
    | _ => none
  | 1 =>
    match (field w 15 2).toNat with
    | 0 => if field w 11 4 = 0#4 ∧ field w 23 1 = 0#1 ∧ field w 26 1 = 0#1 then some (.fcnvff0E (field w 6 5) (field w 17 2) (field w 19 2) (field w 24 1) (field w 25 1) (field w 27 5))
      else none
    | 1 => if field w 11 4 = 0#4 ∧ field w 23 1 = 0#1 ∧ field w 26 1 = 0#1 then some (.fcnvxf0E (field w 6 5) (field w 17 2) (field w 19 2) (field w 24 1) (field w 25 1) (field w 27 5))
      else none
    | 2 => if field w 11 4 = 0#4 ∧ field w 23 1 = 0#1 ∧ field w 26 1 = 0#1 then some (.fcnvfx0E (field w 6 5) (field w 17 2) (field w 19 2) (field w 24 1) (field w 25 1) (field w 27 5))
      else none
    | 3 => if field w 11 4 = 0#4 ∧ field w 23 1 = 0#1 ∧ field w 26 1 = 0#1 then some (.fcnvfxt0E (field w 6 5) (field w 17 2) (field w 19 2) (field w 24 1) (field w 25 1) (field w 27 5))
      else none
    | _ => none
  | 2 =>
    match (field w 16 3).toNat with
    | 0 => if field w 23 1 = 0#1 ∧ field w 25 2 = 0#2 then some (.fcmp0E (field w 6 5) (field w 11 5) (field w 19 1) (field w 20 1) (field w 24 1) (field w 27 5))
      else none
    | _ => none
  | 3 =>
    match (field w 16 3).toNat with
    | 0 => if field w 23 1 = 0#1 ∧ field w 26 1 = 0#1 then some (.fadd0E (field w 6 5) (field w 11 5) (field w 19 1) (field w 20 1) (field w 24 1) (field w 25 1) (field w 27 5))
      else none
    | 1 => if field w 23 1 = 0#1 ∧ field w 26 1 = 0#1 then some (.fsub0E (field w 6 5) (field w 11 5) (field w 19 1) (field w 20 1) (field w 24 1) (field w 25 1) (field w 27 5))
      else none
    | 2 => if field w 20 1 = 0#1 ∧ field w 23 1 = 1#1 ∧ field w 25 2 = 0#2 then some (.xmpyu (field w 6 5) (field w 11 5) (field w 19 1) (field w 24 1) (field w 27 5))
      else if field w 23 1 = 0#1 ∧ field w 26 1 = 0#1 then some (.fmpy0E (field w 6 5) (field w 11 5) (field w 19 1) (field w 20 1) (field w 24 1) (field w 25 1) (field w 27 5))
      else none
    | 3 => if field w 23 1 = 0#1 ∧ field w 26 1 = 0#1 then some (.fdiv0E (field w 6 5) (field w 11 5) (field w 19 1) (field w 20 1) (field w 24 1) (field w 25 1) (field w 27 5))
      else none
    | _ => none
  | _ => none

/-- The instruction of a word, by the major opcode map (R301, R340); `none` for a word that matches no
row, an undefined instruction (R341, spec/92_eei_decisions.md D8, D14, D23). -/
def decode (w : Word) : Option Instr :=
  match (field w 0 6).toNat with
  | 0x0 => decodeSystem w
  | 0x1 => decodeMemMgmt w
  | 0x2 => decodeArith w
  | 0x3 => decodeIndexMem w
  | 0x4 => decodeSpop w
  | 0x5 => some (.diag (field w 6 26))
  | 0x6 => some (.fmpyadd (field w 6 5) (field w 11 5) (field w 16 5) (field w 21 5) (field w 26 1) (field w 27 5))
  | 0x8 => some (.ldil (field w 6 5) (field w 11 21))
  | 0x9 => decodeCoprWord w
  | 0xa => some (.addil (field w 6 5) (field w 11 21))
  | 0xb => decodeCoprDword w
  | 0xc => decodeCopr w
  | 0xd => some (.ldo (field w 6 5) (field w 11 5) (field w 18 14))
  | 0xe => decodeFloat0E w
  | 0x10 => some (.ldb (field w 6 5) (field w 11 5) (field w 16 2) (field w 18 14))
  | 0x11 => some (.ldh (field w 6 5) (field w 11 5) (field w 16 2) (field w 18 14))
  | 0x12 => some (.ldw (field w 6 5) (field w 11 5) (field w 16 2) (field w 18 14))
  | 0x13 => some (.ldwm (field w 6 5) (field w 11 5) (field w 16 2) (field w 18 14))
  | 0x18 => some (.stb (field w 6 5) (field w 11 5) (field w 16 2) (field w 18 14))
  | 0x19 => some (.sth (field w 6 5) (field w 11 5) (field w 16 2) (field w 18 14))
  | 0x1a => some (.stw (field w 6 5) (field w 11 5) (field w 16 2) (field w 18 14))
  | 0x1b => some (.stwm (field w 6 5) (field w 11 5) (field w 16 2) (field w 18 14))
  | 0x20 => some (.combt (field w 6 5) (field w 11 5) (field w 16 3) (field w 19 11) (field w 30 1) (field w 31 1))
  | 0x21 => some (.comibt (field w 6 5) (field w 11 5) (field w 16 3) (field w 19 11) (field w 30 1) (field w 31 1))
  | 0x22 => some (.combf (field w 6 5) (field w 11 5) (field w 16 3) (field w 19 11) (field w 30 1) (field w 31 1))
  | 0x23 => some (.comibf (field w 6 5) (field w 11 5) (field w 16 3) (field w 19 11) (field w 30 1) (field w 31 1))
  | 0x24 => decodeComiclr w
  | 0x25 => decodeSubi w
  | 0x26 => some (.fmpysub (field w 6 5) (field w 11 5) (field w 16 5) (field w 21 5) (field w 26 1) (field w 27 5))
  | 0x28 => some (.addbt (field w 6 5) (field w 11 5) (field w 16 3) (field w 19 11) (field w 30 1) (field w 31 1))
  | 0x29 => some (.addibt (field w 6 5) (field w 11 5) (field w 16 3) (field w 19 11) (field w 30 1) (field w 31 1))
  | 0x2a => some (.addbf (field w 6 5) (field w 11 5) (field w 16 3) (field w 19 11) (field w 30 1) (field w 31 1))
  | 0x2b => some (.addibf (field w 6 5) (field w 11 5) (field w 16 3) (field w 19 11) (field w 30 1) (field w 31 1))
  | 0x2c => decodeAddit w
  | 0x2d => decodeAddi w
  | 0x30 => some (.bvb (field w 11 5) (field w 16 3) (field w 19 11) (field w 30 1) (field w 31 1))
  | 0x31 => some (.bb (field w 6 5) (field w 11 5) (field w 16 3) (field w 19 11) (field w 30 1) (field w 31 1))
  | 0x32 => some (.movb (field w 6 5) (field w 11 5) (field w 16 3) (field w 19 11) (field w 30 1) (field w 31 1))
  | 0x33 => some (.movib (field w 6 5) (field w 11 5) (field w 16 3) (field w 19 11) (field w 30 1) (field w 31 1))
  | 0x34 => decodeExtract w
  | 0x35 => decodeDeposit w
  | 0x38 => some (.be (field w 6 5) (field w 11 5) (field w 16 3) (field w 19 11) (field w 30 1) (field w 31 1))
  | 0x39 => some (.ble (field w 6 5) (field w 11 5) (field w 16 3) (field w 19 11) (field w 30 1) (field w 31 1))
  | 0x3a => decodeBranch w
  | _ => none

/-- The word of an instruction, from the same encoding table; reserved fields are zeros. -/
def encode (i : Instr) : Word :=
  match i with
  | .ldw b t s im14 => (0x12#6 ++ b ++ t ++ s ++ im14 : BitVec 32)
  | .ldh b t s im14 => (0x11#6 ++ b ++ t ++ s ++ im14 : BitVec 32)
  | .ldb b t s im14 => (0x10#6 ++ b ++ t ++ s ++ im14 : BitVec 32)
  | .ldwm b t s im14 => (0x13#6 ++ b ++ t ++ s ++ im14 : BitVec 32)
  | .stw b r s im14 => (0x1a#6 ++ b ++ r ++ s ++ im14 : BitVec 32)
  | .sth b r s im14 => (0x19#6 ++ b ++ r ++ s ++ im14 : BitVec 32)
  | .stb b r s im14 => (0x18#6 ++ b ++ r ++ s ++ im14 : BitVec 32)
  | .stwm b r s im14 => (0x1b#6 ++ b ++ r ++ s ++ im14 : BitVec 32)
  | .ldwx b x s u cc m t => (0x3#6 ++ b ++ x ++ s ++ u ++ 0x0#1 ++ cc ++ 0x2#4 ++ m ++ t : BitVec 32)
  | .ldhx b x s u cc m t => (0x3#6 ++ b ++ x ++ s ++ u ++ 0x0#1 ++ cc ++ 0x1#4 ++ m ++ t : BitVec 32)
  | .ldbx b x s u cc m t => (0x3#6 ++ b ++ x ++ s ++ u ++ 0x0#1 ++ cc ++ 0x0#4 ++ m ++ t : BitVec 32)
  | .ldcwx b x s u cc m t => (0x3#6 ++ b ++ x ++ s ++ u ++ 0x0#1 ++ cc ++ 0x7#4 ++ m ++ t : BitVec 32)
  | .ldwax b x u cc m t => (0x3#6 ++ b ++ x ++ 0x0#2 ++ u ++ 0x0#1 ++ cc ++ 0x6#4 ++ m ++ t : BitVec 32)
  | .ldws b im5 s a cc m t => (0x3#6 ++ b ++ im5 ++ s ++ a ++ 0x1#1 ++ cc ++ 0x2#4 ++ m ++ t : BitVec 32)
  | .ldhs b im5 s a cc m t => (0x3#6 ++ b ++ im5 ++ s ++ a ++ 0x1#1 ++ cc ++ 0x1#4 ++ m ++ t : BitVec 32)
  | .ldbs b im5 s a cc m t => (0x3#6 ++ b ++ im5 ++ s ++ a ++ 0x1#1 ++ cc ++ 0x0#4 ++ m ++ t : BitVec 32)
  | .ldcws b im5 s a cc m t => (0x3#6 ++ b ++ im5 ++ s ++ a ++ 0x1#1 ++ cc ++ 0x7#4 ++ m ++ t : BitVec 32)
  | .ldwas b im5 a cc m t => (0x3#6 ++ b ++ im5 ++ 0x0#2 ++ a ++ 0x1#1 ++ cc ++ 0x6#4 ++ m ++ t : BitVec 32)
  | .stws b r s a cc m im5 => (0x3#6 ++ b ++ r ++ s ++ a ++ 0x1#1 ++ cc ++ 0xa#4 ++ m ++ im5 : BitVec 32)
  | .stbys b r s a cc m im5 => (0x3#6 ++ b ++ r ++ s ++ a ++ 0x1#1 ++ cc ++ 0xc#4 ++ m ++ im5 : BitVec 32)
  | .sths b r s a cc m im5 => (0x3#6 ++ b ++ r ++ s ++ a ++ 0x1#1 ++ cc ++ 0x9#4 ++ m ++ im5 : BitVec 32)
  | .stbs b r s a cc m im5 => (0x3#6 ++ b ++ r ++ s ++ a ++ 0x1#1 ++ cc ++ 0x8#4 ++ m ++ im5 : BitVec 32)
  | .stwas b r a cc m im5 => (0x3#6 ++ b ++ r ++ 0x0#2 ++ a ++ 0x1#1 ++ cc ++ 0xe#4 ++ m ++ im5 : BitVec 32)
  | .ldo b t im14 => (0xd#6 ++ b ++ t ++ 0#2 ++ im14 : BitVec 32)
  | .ldil t im21 => (0x8#6 ++ t ++ im21 : BitVec 32)
  | .addil r im21 => (0xa#6 ++ r ++ im21 : BitVec 32)
  | .bl t w1 w2 n w => (0x3a#6 ++ t ++ w1 ++ 0x0#3 ++ w2 ++ n ++ w : BitVec 32)
  | .gate t w1 w2 n w => (0x3a#6 ++ t ++ w1 ++ 0x1#3 ++ w2 ++ n ++ w : BitVec 32)
  | .blr t x n => (0x3a#6 ++ t ++ x ++ 0x1000#14 ++ n ++ 0x0#1 : BitVec 32)
  | .bv b x n => (0x3a#6 ++ b ++ x ++ 0x3000#14 ++ n ++ 0x0#1 : BitVec 32)
  | .be b w1 s w2 n w => (0x38#6 ++ b ++ w1 ++ s ++ w2 ++ n ++ w : BitVec 32)
  | .ble b w1 s w2 n w => (0x39#6 ++ b ++ w1 ++ s ++ w2 ++ n ++ w : BitVec 32)
  | .movb r2 r1 c w1 n w => (0x32#6 ++ r2 ++ r1 ++ c ++ w1 ++ n ++ w : BitVec 32)
  | .combt r2 r1 c w1 n w => (0x20#6 ++ r2 ++ r1 ++ c ++ w1 ++ n ++ w : BitVec 32)
  | .combf r2 r1 c w1 n w => (0x22#6 ++ r2 ++ r1 ++ c ++ w1 ++ n ++ w : BitVec 32)
  | .addbt r2 r1 c w1 n w => (0x28#6 ++ r2 ++ r1 ++ c ++ w1 ++ n ++ w : BitVec 32)
  | .addbf r2 r1 c w1 n w => (0x2a#6 ++ r2 ++ r1 ++ c ++ w1 ++ n ++ w : BitVec 32)
  | .movib r im5 c w1 n w => (0x33#6 ++ r ++ im5 ++ c ++ w1 ++ n ++ w : BitVec 32)
  | .comibt r im5 c w1 n w => (0x21#6 ++ r ++ im5 ++ c ++ w1 ++ n ++ w : BitVec 32)
  | .comibf r im5 c w1 n w => (0x23#6 ++ r ++ im5 ++ c ++ w1 ++ n ++ w : BitVec 32)
  | .addibt r im5 c w1 n w => (0x29#6 ++ r ++ im5 ++ c ++ w1 ++ n ++ w : BitVec 32)
  | .addibf r im5 c w1 n w => (0x2b#6 ++ r ++ im5 ++ c ++ w1 ++ n ++ w : BitVec 32)
  | .bvb r c w1 n w => (0x30#6 ++ 0#5 ++ r ++ c ++ w1 ++ n ++ w : BitVec 32)
  | .bb p r c w1 n w => (0x31#6 ++ p ++ r ++ c ++ w1 ++ n ++ w : BitVec 32)
  | .add r2 r1 c f t => (0x2#6 ++ r2 ++ r1 ++ c ++ f ++ 0x30#7 ++ t : BitVec 32)
  | .addl r2 r1 c f t => (0x2#6 ++ r2 ++ r1 ++ c ++ f ++ 0x50#7 ++ t : BitVec 32)
  | .addo r2 r1 c f t => (0x2#6 ++ r2 ++ r1 ++ c ++ f ++ 0x70#7 ++ t : BitVec 32)
  | .addc r2 r1 c f t => (0x2#6 ++ r2 ++ r1 ++ c ++ f ++ 0x38#7 ++ t : BitVec 32)
  | .addco r2 r1 c f t => (0x2#6 ++ r2 ++ r1 ++ c ++ f ++ 0x78#7 ++ t : BitVec 32)
  | .sh1add r2 r1 c f t => (0x2#6 ++ r2 ++ r1 ++ c ++ f ++ 0x32#7 ++ t : BitVec 32)
  | .sh1addl r2 r1 c f t => (0x2#6 ++ r2 ++ r1 ++ c ++ f ++ 0x52#7 ++ t : BitVec 32)
  | .sh1addo r2 r1 c f t => (0x2#6 ++ r2 ++ r1 ++ c ++ f ++ 0x72#7 ++ t : BitVec 32)
  | .sh2add r2 r1 c f t => (0x2#6 ++ r2 ++ r1 ++ c ++ f ++ 0x34#7 ++ t : BitVec 32)
  | .sh2addl r2 r1 c f t => (0x2#6 ++ r2 ++ r1 ++ c ++ f ++ 0x54#7 ++ t : BitVec 32)
  | .sh2addo r2 r1 c f t => (0x2#6 ++ r2 ++ r1 ++ c ++ f ++ 0x74#7 ++ t : BitVec 32)
  | .sh3add r2 r1 c f t => (0x2#6 ++ r2 ++ r1 ++ c ++ f ++ 0x36#7 ++ t : BitVec 32)
  | .sh3addl r2 r1 c f t => (0x2#6 ++ r2 ++ r1 ++ c ++ f ++ 0x56#7 ++ t : BitVec 32)
  | .sh3addo r2 r1 c f t => (0x2#6 ++ r2 ++ r1 ++ c ++ f ++ 0x76#7 ++ t : BitVec 32)
  | .sub r2 r1 c f t => (0x2#6 ++ r2 ++ r1 ++ c ++ f ++ 0x20#7 ++ t : BitVec 32)
  | .subo r2 r1 c f t => (0x2#6 ++ r2 ++ r1 ++ c ++ f ++ 0x60#7 ++ t : BitVec 32)
  | .subb r2 r1 c f t => (0x2#6 ++ r2 ++ r1 ++ c ++ f ++ 0x28#7 ++ t : BitVec 32)
  | .subbo r2 r1 c f t => (0x2#6 ++ r2 ++ r1 ++ c ++ f ++ 0x68#7 ++ t : BitVec 32)
  | .subt r2 r1 c f t => (0x2#6 ++ r2 ++ r1 ++ c ++ f ++ 0x26#7 ++ t : BitVec 32)
  | .subto r2 r1 c f t => (0x2#6 ++ r2 ++ r1 ++ c ++ f ++ 0x66#7 ++ t : BitVec 32)
  | .ds r2 r1 c f t => (0x2#6 ++ r2 ++ r1 ++ c ++ f ++ 0x22#7 ++ t : BitVec 32)
  | .comclr r2 r1 c f t => (0x2#6 ++ r2 ++ r1 ++ c ++ f ++ 0x44#7 ++ t : BitVec 32)
  | .or r2 r1 c f t => (0x2#6 ++ r2 ++ r1 ++ c ++ f ++ 0x12#7 ++ t : BitVec 32)
  | .xor r2 r1 c f t => (0x2#6 ++ r2 ++ r1 ++ c ++ f ++ 0x14#7 ++ t : BitVec 32)
  | .and r2 r1 c f t => (0x2#6 ++ r2 ++ r1 ++ c ++ f ++ 0x10#7 ++ t : BitVec 32)
  | .andcm r2 r1 c f t => (0x2#6 ++ r2 ++ r1 ++ c ++ f ++ 0x0#7 ++ t : BitVec 32)
  | .uxor r2 r1 c f t => (0x2#6 ++ r2 ++ r1 ++ c ++ f ++ 0x1c#7 ++ t : BitVec 32)
  | .uaddcm r2 r1 c f t => (0x2#6 ++ r2 ++ r1 ++ c ++ f ++ 0x4c#7 ++ t : BitVec 32)
  | .uaddcmt r2 r1 c f t => (0x2#6 ++ r2 ++ r1 ++ c ++ f ++ 0x4e#7 ++ t : BitVec 32)
  | .dcor r c f t => (0x2#6 ++ r ++ 0x0#5 ++ c ++ f ++ 0x5c#7 ++ t : BitVec 32)
  | .idcor r c f t => (0x2#6 ++ r ++ 0x0#5 ++ c ++ f ++ 0x5e#7 ++ t : BitVec 32)
  | .addi r t c f im11 => (0x2d#6 ++ r ++ t ++ c ++ f ++ 0x0#1 ++ im11 : BitVec 32)
  | .addio r t c f im11 => (0x2d#6 ++ r ++ t ++ c ++ f ++ 0x1#1 ++ im11 : BitVec 32)
  | .addit r t c f im11 => (0x2c#6 ++ r ++ t ++ c ++ f ++ 0x0#1 ++ im11 : BitVec 32)
  | .addito r t c f im11 => (0x2c#6 ++ r ++ t ++ c ++ f ++ 0x1#1 ++ im11 : BitVec 32)
  | .subi r t c f im11 => (0x25#6 ++ r ++ t ++ c ++ f ++ 0x0#1 ++ im11 : BitVec 32)
  | .subio r t c f im11 => (0x25#6 ++ r ++ t ++ c ++ f ++ 0x1#1 ++ im11 : BitVec 32)
  | .comiclr r t c f im11 => (0x24#6 ++ r ++ t ++ c ++ f ++ 0x0#1 ++ im11 : BitVec 32)
  | .vshd r2 r1 c t => (0x34#6 ++ r2 ++ r1 ++ c ++ 0x0#8 ++ t : BitVec 32)
  | .shd r2 r1 c cp t => (0x34#6 ++ r2 ++ r1 ++ c ++ 0x2#3 ++ cp ++ t : BitVec 32)
  | .vextru r t c clen => (0x34#6 ++ r ++ t ++ c ++ 0x80#8 ++ clen : BitVec 32)
  | .vextrs r t c clen => (0x34#6 ++ r ++ t ++ c ++ 0xa0#8 ++ clen : BitVec 32)
  | .extru r t c p clen => (0x34#6 ++ r ++ t ++ c ++ 0x6#3 ++ p ++ clen : BitVec 32)
  | .extrs r t c p clen => (0x34#6 ++ r ++ t ++ c ++ 0x7#3 ++ p ++ clen : BitVec 32)
  | .zvdep t r c clen => (0x35#6 ++ t ++ r ++ c ++ 0x0#8 ++ clen : BitVec 32)
  | .vdep t r c clen => (0x35#6 ++ t ++ r ++ c ++ 0x20#8 ++ clen : BitVec 32)
  | .zdep t r c cp clen => (0x35#6 ++ t ++ r ++ c ++ 0x2#3 ++ cp ++ clen : BitVec 32)
  | .dep t r c cp clen => (0x35#6 ++ t ++ r ++ c ++ 0x3#3 ++ cp ++ clen : BitVec 32)
  | .zvdepi t im5 c clen => (0x35#6 ++ t ++ im5 ++ c ++ 0x80#8 ++ clen : BitVec 32)
  | .vdepi t im5 c clen => (0x35#6 ++ t ++ im5 ++ c ++ 0xa0#8 ++ clen : BitVec 32)
  | .zdepi t im5 c cp clen => (0x35#6 ++ t ++ im5 ++ c ++ 0x6#3 ++ cp ++ clen : BitVec 32)
  | .depi t im5 c cp clen => (0x35#6 ++ t ++ im5 ++ c ++ 0x7#3 ++ cp ++ clen : BitVec 32)
  | .breakTrap im13 im5 => (0x0#6 ++ im13 ++ 0x0#8 ++ im5 : BitVec 32)
  | .sync => (0x0#6 ++ 0#5 ++ 0x0#1 ++ 0#4 ++ 0x400#16 : BitVec 32)
  | .syncdma => (0x0#6 ++ 0#5 ++ 0x1#1 ++ 0#4 ++ 0x400#16 : BitVec 32)
  | .rfi => (0x0#6 ++ 0#13 ++ 0xc00#13 : BitVec 32)
  | .rfir => (0x0#6 ++ 0#13 ++ 0xca0#13 : BitVec 32)
  | .ssm i t => (0x0#6 ++ 0#3 ++ i ++ 0x6b#11 ++ t : BitVec 32)
  | .rsm i t => (0x0#6 ++ 0#3 ++ i ++ 0x73#11 ++ t : BitVec 32)
  | .mtsm r => (0x0#6 ++ 0x0#5 ++ r ++ 0x1860#16 : BitVec 32)
  | .ldsid b s t => (0x0#6 ++ b ++ 0#5 ++ s ++ 0x85#9 ++ t : BitVec 32)
  | .mtsp r s => (0x0#6 ++ 0#5 ++ r ++ s ++ 0x1820#13 : BitVec 32)
  | .mfsp s t => (0x0#6 ++ 0#5 ++ 0x0#5 ++ s ++ 0x25#8 ++ t : BitVec 32)
  | .mtctl t r => (0x0#6 ++ t ++ r ++ 0#3 ++ 0x1840#13 : BitVec 32)
  | .mfctl r t => (0x0#6 ++ r ++ 0x0#5 ++ 0#3 ++ 0x45#8 ++ t : BitVec 32)
  | .idtlba b r s => (0x1#6 ++ b ++ r ++ s ++ 0x1040#14 : BitVec 32)
  | .idtlbp b r s => (0x1#6 ++ b ++ r ++ s ++ 0x1000#14 : BitVec 32)
  | .pdtlb b x s m => (0x1#6 ++ b ++ x ++ s ++ 0x48#8 ++ m ++ 0#5 : BitVec 32)
  | .pdtlbe b x s m => (0x1#6 ++ b ++ x ++ s ++ 0x49#8 ++ m ++ 0#5 : BitVec 32)
  | .fdc b x s m => (0x1#6 ++ b ++ x ++ s ++ 0x4a#8 ++ m ++ 0#5 : BitVec 32)
  | .fdce b x s m => (0x1#6 ++ b ++ x ++ s ++ 0x4b#8 ++ m ++ 0#5 : BitVec 32)
  | .pdc b x s m => (0x1#6 ++ b ++ x ++ s ++ 0x4e#8 ++ m ++ 0x0#5 : BitVec 32)
  | .prober b r s t => (0x1#6 ++ b ++ r ++ s ++ 0x8c#9 ++ t : BitVec 32)
  | .proberi b im5 s t => (0x1#6 ++ b ++ im5 ++ s ++ 0x18c#9 ++ t : BitVec 32)
  | .probew b r s t => (0x1#6 ++ b ++ r ++ s ++ 0x8e#9 ++ t : BitVec 32)
  | .probewi b im5 s t => (0x1#6 ++ b ++ im5 ++ s ++ 0x18e#9 ++ t : BitVec 32)
  | .lpa b x s m t => (0x1#6 ++ b ++ x ++ s ++ 0x4d#8 ++ m ++ t : BitVec 32)
  | .lci b x s t => (0x1#6 ++ b ++ x ++ s ++ 0x98#9 ++ t : BitVec 32)
  | .iitlba b r s => (0x1#6 ++ b ++ r ++ s ++ 0x40#13 : BitVec 32)
  | .iitlbp b r s => (0x1#6 ++ b ++ r ++ s ++ 0x0#13 : BitVec 32)
  | .pitlb b x s m => (0x1#6 ++ b ++ x ++ s ++ 0x8#7 ++ m ++ 0#5 : BitVec 32)
  | .pitlbe b x s m => (0x1#6 ++ b ++ x ++ s ++ 0x9#7 ++ m ++ 0#5 : BitVec 32)
  | .fic b x s m => (0x1#6 ++ b ++ x ++ s ++ 0xa#7 ++ m ++ 0#5 : BitVec 32)
  | .fice b x s m => (0x1#6 ++ b ++ x ++ s ++ 0xb#7 ++ m ++ 0#5 : BitVec 32)
  | .diag im26 => (0x5#6 ++ im26 : BitVec 32)
  | .spop0 sop1 sfu n sop2 => (0x4#6 ++ sop1 ++ 0x0#2 ++ sfu ++ n ++ sop2 : BitVec 32)
  | .spop1 sop sfu n t => (0x4#6 ++ sop ++ 0x1#2 ++ sfu ++ n ++ t : BitVec 32)
  | .spop2 r sop1 sfu n sop2 => (0x4#6 ++ r ++ sop1 ++ 0x2#2 ++ sfu ++ n ++ sop2 : BitVec 32)
  | .spop3 r2 r1 sop1 sfu n sop2 => (0x4#6 ++ r2 ++ r1 ++ sop1 ++ 0x3#2 ++ sfu ++ n ++ sop2 : BitVec 32)
  | .copr sop1 uid n sop2 => (0xc#6 ++ sop1 ++ uid ++ n ++ sop2 : BitVec 32)
  | .cldwx b x s u cc uid m t => (0x9#6 ++ b ++ x ++ s ++ u ++ 0x0#1 ++ cc ++ 0x0#1 ++ uid ++ m ++ t : BitVec 32)
  | .clddx b x s u cc uid m t => (0xb#6 ++ b ++ x ++ s ++ u ++ 0x0#1 ++ cc ++ 0x0#1 ++ uid ++ m ++ t : BitVec 32)
  | .cstwx b x s u cc uid m r => (0x9#6 ++ b ++ x ++ s ++ u ++ 0x0#1 ++ cc ++ 0x1#1 ++ uid ++ m ++ r : BitVec 32)
  | .cstdx b x s u cc uid m r => (0xb#6 ++ b ++ x ++ s ++ u ++ 0x0#1 ++ cc ++ 0x1#1 ++ uid ++ m ++ r : BitVec 32)
  | .cldws b im5 s a cc uid m t => (0x9#6 ++ b ++ im5 ++ s ++ a ++ 0x1#1 ++ cc ++ 0x0#1 ++ uid ++ m ++ t : BitVec 32)
  | .cldds b im5 s a cc uid m t => (0xb#6 ++ b ++ im5 ++ s ++ a ++ 0x1#1 ++ cc ++ 0x0#1 ++ uid ++ m ++ t : BitVec 32)
  | .cstws b im5 s a cc uid m r => (0x9#6 ++ b ++ im5 ++ s ++ a ++ 0x1#1 ++ cc ++ 0x1#1 ++ uid ++ m ++ r : BitVec 32)
  | .cstds b im5 s a cc uid m r => (0xb#6 ++ b ++ im5 ++ s ++ a ++ 0x1#1 ++ cc ++ 0x1#1 ++ uid ++ m ++ r : BitVec 32)
  | .fldwx b x s u cc t_h m t => (0x9#6 ++ b ++ x ++ s ++ u ++ 0x0#1 ++ cc ++ 0x0#3 ++ t_h ++ m ++ t : BitVec 32)
  | .fstwx b x s u cc r_h m r => (0x9#6 ++ b ++ x ++ s ++ u ++ 0x0#1 ++ cc ++ 0x4#3 ++ r_h ++ m ++ r : BitVec 32)
  | .flddx b x s u cc m t => (0xb#6 ++ b ++ x ++ s ++ u ++ 0x0#1 ++ cc ++ 0x0#4 ++ m ++ t : BitVec 32)
  | .fstdx b x s u cc m r => (0xb#6 ++ b ++ x ++ s ++ u ++ 0x0#1 ++ cc ++ 0x8#4 ++ m ++ r : BitVec 32)
  | .fldws b im5 s a cc t_h m t => (0x9#6 ++ b ++ im5 ++ s ++ a ++ 0x1#1 ++ cc ++ 0x0#3 ++ t_h ++ m ++ t : BitVec 32)
  | .fstws b im5 s a cc r_h m r => (0x9#6 ++ b ++ im5 ++ s ++ a ++ 0x1#1 ++ cc ++ 0x4#3 ++ r_h ++ m ++ r : BitVec 32)
  | .fldds b im5 s a cc m t => (0xb#6 ++ b ++ im5 ++ s ++ a ++ 0x1#1 ++ cc ++ 0x0#4 ++ m ++ t : BitVec 32)
  | .fstds b im5 s a cc m r => (0xb#6 ++ b ++ im5 ++ s ++ a ++ 0x1#1 ++ cc ++ 0x8#4 ++ m ++ r : BitVec 32)
  | .copr00 => (0xc#6 ++ 0x0#26 : BitVec 32)
  | .fcpy r fmt t => (0xc#6 ++ r ++ 0x2#8 ++ fmt ++ 0x0#6 ++ t : BitVec 32)
  | .fcpy0E r fmt r_h t_h t => (0xe#6 ++ r ++ 0x2#8 ++ fmt ++ 0x0#3 ++ r_h ++ t_h ++ 0x0#1 ++ t : BitVec 32)
  | .fabs r fmt t => (0xc#6 ++ r ++ 0x3#8 ++ fmt ++ 0x0#6 ++ t : BitVec 32)
  | .fabs0E r fmt r_h t_h t => (0xe#6 ++ r ++ 0x3#8 ++ fmt ++ 0x0#3 ++ r_h ++ t_h ++ 0x0#1 ++ t : BitVec 32)
  | .fsqrt r fmt t => (0xc#6 ++ r ++ 0x4#8 ++ fmt ++ 0x0#6 ++ t : BitVec 32)
  | .fsqrt0E r fmt r_h t_h t => (0xe#6 ++ r ++ 0x4#8 ++ fmt ++ 0x0#3 ++ r_h ++ t_h ++ 0x0#1 ++ t : BitVec 32)
  | .frnd r fmt t => (0xc#6 ++ r ++ 0x5#8 ++ fmt ++ 0x0#6 ++ t : BitVec 32)
  | .frnd0E r fmt r_h t_h t => (0xe#6 ++ r ++ 0x5#8 ++ fmt ++ 0x0#3 ++ r_h ++ t_h ++ 0x0#1 ++ t : BitVec 32)
  | .fcnvff r df sf t => (0xc#6 ++ r ++ 0x0#6 ++ df ++ sf ++ 0x10#6 ++ t : BitVec 32)
  | .fcnvff0E r df sf r_h t_h t => (0xe#6 ++ r ++ 0x0#6 ++ df ++ sf ++ 0x2#3 ++ r_h ++ t_h ++ 0x0#1 ++ t : BitVec 32)
  | .fcnvxf r df sf t => (0xc#6 ++ r ++ 0x1#6 ++ df ++ sf ++ 0x10#6 ++ t : BitVec 32)
  | .fcnvxf0E r df sf r_h t_h t => (0xe#6 ++ r ++ 0x1#6 ++ df ++ sf ++ 0x2#3 ++ r_h ++ t_h ++ 0x0#1 ++ t : BitVec 32)
  | .fcnvfx r df sf t => (0xc#6 ++ r ++ 0x2#6 ++ df ++ sf ++ 0x10#6 ++ t : BitVec 32)
  | .fcnvfx0E r df sf r_h t_h t => (0xe#6 ++ r ++ 0x2#6 ++ df ++ sf ++ 0x2#3 ++ r_h ++ t_h ++ 0x0#1 ++ t : BitVec 32)
  | .fcnvfxt r df sf t => (0xc#6 ++ r ++ 0x3#6 ++ df ++ sf ++ 0x10#6 ++ t : BitVec 32)
  | .fcnvfxt0E r df sf r_h t_h t => (0xe#6 ++ r ++ 0x3#6 ++ df ++ sf ++ 0x2#3 ++ r_h ++ t_h ++ 0x0#1 ++ t : BitVec 32)
  | .fcmp r1 r2 fmt c => (0xc#6 ++ r1 ++ r2 ++ 0x0#3 ++ fmt ++ 0x20#6 ++ c : BitVec 32)
  | .fcmp0E r1 r2 r2_h f r1_h c => (0xe#6 ++ r1 ++ r2 ++ 0x0#3 ++ r2_h ++ f ++ 0x4#3 ++ r1_h ++ 0x0#2 ++ c : BitVec 32)
  | .ftest c => (0xc#6 ++ 0x121#21 ++ c : BitVec 32)
  | .fadd r1 r2 fmt t => (0xc#6 ++ r1 ++ r2 ++ 0x0#3 ++ fmt ++ 0x30#6 ++ t : BitVec 32)
  | .fadd0E r1 r2 r2_h f r1_h t_h t => (0xe#6 ++ r1 ++ r2 ++ 0x0#3 ++ r2_h ++ f ++ 0x6#3 ++ r1_h ++ t_h ++ 0x0#1 ++ t : BitVec 32)
  | .fsub r1 r2 fmt t => (0xc#6 ++ r1 ++ r2 ++ 0x1#3 ++ fmt ++ 0x30#6 ++ t : BitVec 32)
  | .fsub0E r1 r2 r2_h f r1_h t_h t => (0xe#6 ++ r1 ++ r2 ++ 0x1#3 ++ r2_h ++ f ++ 0x6#3 ++ r1_h ++ t_h ++ 0x0#1 ++ t : BitVec 32)
  | .fmpy r1 r2 fmt t => (0xc#6 ++ r1 ++ r2 ++ 0x2#3 ++ fmt ++ 0x30#6 ++ t : BitVec 32)
  | .fmpy0E r1 r2 r2_h f r1_h t_h t => (0xe#6 ++ r1 ++ r2 ++ 0x2#3 ++ r2_h ++ f ++ 0x6#3 ++ r1_h ++ t_h ++ 0x0#1 ++ t : BitVec 32)
  | .fdiv r1 r2 fmt t => (0xc#6 ++ r1 ++ r2 ++ 0x3#3 ++ fmt ++ 0x30#6 ++ t : BitVec 32)
  | .fdiv0E r1 r2 r2_h f r1_h t_h t => (0xe#6 ++ r1 ++ r2 ++ 0x3#3 ++ r2_h ++ f ++ 0x6#3 ++ r1_h ++ t_h ++ 0x0#1 ++ t : BitVec 32)
  | .xmpyu r1 r2 r2_h r1_h t => (0xe#6 ++ r1 ++ r2 ++ 0x2#3 ++ r2_h ++ 0x7#4 ++ r1_h ++ 0x0#2 ++ t : BitVec 32)
  | .fmpyadd rm1 rm2 ta ra f tm => (0x6#6 ++ rm1 ++ rm2 ++ ta ++ ra ++ f ++ tm : BitVec 32)
  | .fmpysub rm1 rm2 ta ra f tm => (0x26#6 ++ rm1 ++ rm2 ++ ta ++ ra ++ f ++ tm : BitVec 32)
  | .pmdis => (0xc#6 ++ 0#12 ++ 0x14#9 ++ 0#5 : BitVec 32)
  | .pmenb => (0xc#6 ++ 0#12 ++ 0x34#9 ++ 0#5 : BitVec 32)
  | .debugid t => (0x4#6 ++ 0x12#21 ++ t : BitVec 32)
  | .mfdbao r t => (0x4#6 ++ r ++ 0#7 ++ 0x112#9 ++ t : BitVec 32)
  | .mfdbam r t => (0x4#6 ++ r ++ 0#7 ++ 0x152#9 ++ t : BitVec 32)
  | .mfibao r t => (0x4#6 ++ r ++ 0#7 ++ 0x192#9 ++ t : BitVec 32)
  | .mfibam r t => (0x4#6 ++ r ++ 0#7 ++ 0x1d2#9 ++ t : BitVec 32)
  | .mtdbao r t => (0x4#6 ++ r ++ 0#7 ++ 0x122#9 ++ t : BitVec 32)
  | .mtdbam r t => (0x4#6 ++ r ++ 0#7 ++ 0x162#9 ++ t : BitVec 32)
  | .mtibao r t => (0x4#6 ++ r ++ 0#7 ++ 0x1a2#9 ++ t : BitVec 32)
  | .mtibam r t => (0x4#6 ++ r ++ 0#7 ++ 0x1e2#9 ++ t : BitVec 32)

/-- A word's four bytes as they lie in memory, lowest address first: `le` is the PSW E-bit (R165). -/
def wordBytes (le : Bool) (w : Word) : List Byte :=
  let big := [field w 0 8, field w 8 8, field w 16 8, field w 24 8]
  if le then big.reverse else big

/-- The word that four bytes in memory hold, lowest address first (R164, R165). -/
def wordOfBytes (le : Bool) (b0 b1 b2 b3 : Byte) : Word :=
  if le then (b3 ++ b2 ++ b1 ++ b0 : BitVec 32) else (b0 ++ b1 ++ b2 ++ b3 : BitVec 32)

/-- The instruction that the decoder reads from an instruction given as one number `w` of `nbits` bits
(spec/opcode_table.json): a PA-RISC instruction is one word, laid out big endian as at reset. -/
def decodeTableWord (nbits w : Nat) : Option Instr :=
  match wordBytes false (BitVec.ofNat 32 (w % 2 ^ nbits)) with
  | [b0, b1, b2, b3] => decode (wordOfBytes false b0 b1 b2 b3)
  | _ => none

end Sys2Proof
end

