-- ==== Sys2Proof/Config.lean ====
section
/-!
DEFINITION. What an implementation of PA-RISC 1.1 fixes (the parameters of
spec/92_eei_decisions.md) and the free values: constants with no body, which nothing can evaluate.
-/

namespace Sys2Proof

/-- The architecture level (spec/92_eei_decisions.md D1; spec/00_scope.md R5). -/
inductive Level
  | l0 | l1 | l15 | l2
deriving DecidableEq, Repr

/-- What an unaligned absolute access does (D18). -/
inductive UnalignedAbs
  /-- the spec's decision: the machine makes no claim -/
  | refuse
  /-- the alternative of D18: unaligned data reference trap -/
  | trap28
  /-- the alternative of D18: the low address bits are dropped -/
  | truncate
deriving DecidableEq, Repr

/-- What DIAG does at privilege level 0 (DIAG_SEMANTICS, D13; spec/45_system_control.md R690). -/
inductive DiagSemantics
  /-- the spec's decision for the model of no particular product: nothing -/
  | null
  /-- an implementation on which DIAG is an illegal instruction -/
  | illegal
deriving DecidableEq, Repr

/-- A floating-point or fixed-point operand format (spec/47_fp_state.md R750, R755). -/
inductive FpFmt
  | sgl | dbl | quad
deriving DecidableEq, Repr

/-- A floating-point operation, for the parameter FP_UNIMPLEMENTED (D10). -/
inductive FpOp
  | fcpy | fabs | fsqrt | frnd | fcnvff | fcnvxf | fcnvfx | fcnvfxt | fcmp
  | fadd | fsub | fmpy | fdiv | xmpyu | fmpyadd | fmpysub
deriving DecidableEq, Repr

/-- One TLB entry (spec/20_memory.md R191). The access ID is kept in 18 bits, of which an
implementation uses ACCESS_ID_BITS (D4). -/
structure TlbEntry where
  space : Word
  vpn : BitVec 20
  ppn : BitVec 20
  accessRights : BitVec 7
  accessId : BitVec 18
  e : Bool
  u : Bool
  t : Bool
  d : Bool
  b : Bool
deriving DecidableEq, Repr, Inhabited

/-- The parameters of an implementation (spec/92_eei_decisions.md). -/
structure Config where
  /-- LEVEL (D1) -/
  level : Level
  /-- RESET_IA: the word offset at which the processor starts (D2) -/
  resetIa : Word
  /-- HAS_PSW_E (D3) -/
  hasPswE : Bool
  /-- DEFAULT_ENDIAN: the default endian bit after reset (D3) -/
  defaultEndian : Bool
  /-- PID_BITS - 16, so that PID_BITS is 16 to 19 (D4) -/
  pidExtra : Fin 4
  /-- ITMR_RATE as a fraction: numerator, in ticks (D5) -/
  itmrNum : Nat
  /-- ITMR_RATE: denominator less one, in steps (D5) -/
  itmrDenPred : Nat
  /-- TLB_COMBINED (D6) -/
  tlbCombined : Bool
  /-- ITLB_SLOTS - 1 (D6: any number of slots from 1) -/
  itlbSlotsPred : Nat
  /-- DTLB_SLOTS - 1 (D6) -/
  dtlbSlotsPred : Nat
  /-- HW_TLB_MISS (D6) -/
  hwTlbMiss : Bool
  /-- HAS_TLB_U (D6) -/
  hasTlbU : Bool
  /-- FIC_USES_DTLB (D6) -/
  ficUsesDtlb : Bool
  /-- COHERENCE_INDEX is present: coherent I/O (spec/93_implementation_defined.md U20) -/
  coherentIo : Bool
  /-- HAS_FP (D9) -/
  hasFp : Bool
  /-- FP_MODEL (D10) -/
  fpModel : BitVec 5
  /-- FP_REVISION (D10) -/
  fpRevision : BitVec 11
  /-- FP_UNIMPLEMENTED (D10) -/
  fpUnimplemented : List (FpOp × FpFmt)
  /-- HAS_PERFMON (D19) -/
  hasPerfmon : Bool
  /-- HAS_DEBUG_SFU, Level 0 only (D20) -/
  hasDebugSfu : Bool
  /-- DBG_IREG, DBG_DREG, DBG_MASK, DBG_MODEL, DBG_REVISION (D20) -/
  dbgIreg : BitVec 5
  dbgDreg : BitVec 5
  dbgMask : BitVec 5
  dbgModel : BitVec 6
  dbgRevision : BitVec 5
  /-- the unarchitected special function units present, bit 0 leftmost (R704, D9) -/
  sfuPresent : BitVec 8
  /-- the unarchitected coprocessors present, bit 0 leftmost (R711, D9) -/
  coprPresent : BitVec 8
  /-- memory_map: the backed byte ranges, base and size (D17) -/
  backed : List (Nat × Nat)
  /-- UNALIGNED_ABS (D18) -/
  unalignedAbs : UnalignedAbs
  /-- DIAG_SEMANTICS (D13) -/
  diagSemantics : DiagSemantics
deriving DecidableEq, Repr

/-- The parameters are in the ranges of the spec: ITMR_RATE from 1/2 to 2 (D5), at most 24 mask bits
(spec/49_perfmon_debug.md R886), the debug SFU in Level 0 only (D20) and with an identification number
other than zero (R895, spec/46_assist.md R710). The other ranges are those of the fields' types. -/
def Config.valid (c : Config) : Bool :=
  decide (c.itmrDenPred + 1 ≤ 2 * c.itmrNum) && decide (c.itmrNum ≤ 2 * (c.itmrDenPred + 1)) &&
    decide (c.dbgMask ≤ 24#5) &&
    (!c.hasDebugSfu ||
      (c.level == .l0 &&
        !(c.dbgModel == 0#6 && c.dbgRevision == 0#5 && c.dbgIreg == 0#5 && c.dbgDreg == 0#5
          && c.dbgMask == 0#5)))

/-- Every operation on a quad-precision operand: the default of FP_UNIMPLEMENTED (D10). -/
def Config.quadOperations : List (FpOp × FpFmt) :=
  [.fcpy, .fabs, .fsqrt, .frnd, .fcnvff, .fcnvxf, .fcnvfx, .fcnvfxt, .fcmp,
   .fadd, .fsub, .fmpy, .fdiv].map fun op => (op, FpFmt.quad)

/-- The reference configuration: the defaults of spec/92_eei_decisions.md. -/
def Config.reference : Config where
  level := .l2
  resetIa := 0
  hasPswE := false
  defaultEndian := false
  pidExtra := 0
  itmrNum := 1
  itmrDenPred := 0
  tlbCombined := false
  itlbSlotsPred := 63
  dtlbSlotsPred := 63
  hwTlbMiss := false
  hasTlbU := true
  ficUsesDtlb := false
  coherentIo := false
  hasFp := true
  fpModel := 0
  fpRevision := 0
  fpUnimplemented := Config.quadOperations
  hasPerfmon := false
  hasDebugSfu := false
  dbgIreg := 0
  dbgDreg := 0
  dbgMask := 0
  dbgModel := 0
  dbgRevision := 0
  sfuPresent := 0
  coprPresent := 0
  backed := [(0, 0xF0000000)]
  unalignedAbs := .refuse
  diagSemantics := .null

/-! ### Free values
Each is applied to the counter `draws` of State (a fresh value at each use) or to the operands it
depends on. None has a body. -/

/-- An undefined or unspecified 32-bit value (treatment `any value` of spec/93). -/
opaque Config.freeWord : Nat → Word

/-- An undefined 64-bit value. -/
opaque Config.freeDword : Nat → Dword

/-- An undefined bit. -/
opaque Config.freeBit : Nat → Bool

/-- The choice of a replacement victim (D6 (a)), taken modulo the number of candidates. -/
opaque Config.freeIndex : Nat → Nat

/-- Whatever a field of a purged or uninitialised TLB entry holds (R198, U6). -/
opaque Config.freeTlbEntry : Nat → TlbEntry

/-- The hardware TLB miss handler (R183, D6): what it finds in the page table for a space and a
virtual page number, given memory and the default endian bit. It is asked with the implemented bits of the
space identifier. -/
opaque Config.tlbWalk (defaultEndian : Bool) (mem : List Host.Cell) (space : Word)
    (vpn : BitVec 20) : Option TlbEntry

/-- COHERENCE_INDEX (R243, U20): a function of the physical page number. -/
opaque Config.coherenceIndex : BitVec 20 → Word

/-- The identification number of an unarchitected special function unit (R710, U21). -/
opaque Config.sfuIdRaw : BitVec 3 → Word

/-- The identification value of an unarchitected coprocessor, as register 0 receives it (R716, U21). -/
opaque Config.coprIdRaw : BitVec 3 → Dword

/-- SFU_ID: all zeros and all ones are reserved, so never its value (R710). -/
def Config.sfuId (sfu : BitVec 3) : Word :=
  let w := Config.sfuIdRaw sfu
  if w = 0#32 ∨ w = BitVec.allOnes 32 then 1#32 else w

/-- COPR_ID: all zeros and all ones are reserved, so never what a word store or a doubleword store of
register 0 reads back (R716): the low word is neither. -/
def Config.coprId (uid : BitVec 3) : Dword :=
  let d := Config.coprIdRaw uid
  let low : Word := d.setWidth 32
  if low = 0#32 ∨ low = BitVec.allOnes 32 then (d.extractLsb' 32 32 ++ 1#32 : BitVec 64) else d

/-- The operation of an unarchitected special function unit (R704 to R709): unit, format 0 to 3,
operation bits, privilege level, first and second source, present state; the next state. -/
opaque Config.sfuState (sfu : BitVec 3) (form sop : Nat) (pl : BitVec 2) (a b : Word) (s : Nat) : Nat

/-- The result word of an unarchitected special function unit's operation (R707). -/
opaque Config.sfuResult (sfu : BitVec 3) (form sop : Nat) (pl : BitVec 2) (a b : Word) (s : Nat) : Word

/-- Whether the unit's condition is satisfied, for nullification (R704). -/
opaque Config.sfuCond (sfu : BitVec 3) (form sop : Nat) (pl : BitVec 2) (a b : Word) (s : Nat) : Bool

/-- Whether the unit reports an exceptional operation: assist exception trap (R702). -/
opaque Config.sfuRaises (sfu : BitVec 3) (form sop : Nat) (pl : BitVec 2) (a b : Word) (s : Nat) : Bool

/-- `coprocessor_op(uid,sop,n,PL)`: the registers of an unarchitected coprocessor after an operation
(R711, R715). -/
opaque Config.coprOp (uid : BitVec 3) (sop : BitVec 22) (n : BitVec 1) (pl : BitVec 2)
    (regs : Vector Dword 32) : Vector Dword 32

/-- `coprocessor_condition(uid,sop,n)`, on the registers after the operation, where the unit keeps its
state (R711, R715). -/
opaque Config.coprCond (uid : BitVec 3) (sop : BitVec 22) (n : BitVec 1) (regs : Vector Dword 32) : Bool

/-- Whether `coprocessor_op` reports an exception: assist exception trap (R702, R711). -/
opaque Config.coprRaises (uid : BitVec 3) (sop : BitVec 22) (n : BitVec 1) (pl : BitVec 2)
    (regs : Vector Dword 32) : Bool

/-- `send_to_copr(uid,reg)` at a load or a store: the unit's registers before the transfer, since the unit
may treat the register number as a sub-operation (R711). -/
opaque Config.coprSend (uid : BitVec 3) (store : Bool) (reg : Reg) (regs : Vector Dword 32) :
    Vector Dword 32

/-- Whether `send_to_copr` reports an exception: assist exception trap (R702, R711). -/
opaque Config.coprSendRaises (uid : BitVec 3) (store : Bool) (reg : Reg) (regs : Vector Dword 32) : Bool

end Sys2Proof
end

