-- ==== Sys2Proof/Machine/State.lean ====
section
/-!
DEFINITION. The state of the machine (spec/10_state.md, spec/20_memory.md, spec/47_fp_state.md,
spec/49_perfmon_debug.md, spec/46_assist.md), the reasons a step can stop, and the state after reset.
-/

namespace Sys2Proof.Machine

/-- Memory: the bytes that differ from zero, at strictly rising absolute addresses. -/
abbrev Memory := List Host.Cell

/-- One step's inputs from outside the processor (spec/92_eei_decisions.md D11, D12, D19): external
interrupt request bits, and the four unreadable pending inputs (spec/60_exceptions.md R912). -/
structure Input where
  ext : Word
  hpmc : Bool
  powerFail : Bool
  lpmc : Bool
  perfmon : Bool
deriving DecidableEq, Repr

/-- The state of one processor and its memory. -/
structure State where
  /-- implementation parameters (spec/92_eei_decisions.md); no step writes them; the model's own field -/
  cfg : Config
  /-- GR 0..31 (R41); GR 0 is read and written through `State.gr` and `State.setGr` only -/
  grs : Vector Word 32
  /-- SHR 0..6 (R44) -/
  shr : Vector Word 7
  /-- SR 0..7 (R45) -/
  srs : Vector Word 8
  /-- PSW, layout of R49 -/
  psw : Word
  /-- the instruction address queues (R76) -/
  iaoqFront : Word
  iaoqBack : Word
  iasqFront : Word
  iasqBack : Word
  /-- CR 0 Recovery Counter (R86) -/
  rctr : Word
  /-- CR 8, 9, 12, 13: protection identifiers (R87) -/
  pid1 : Word
  pid2 : Word
  pid3 : Word
  pid4 : Word
  /-- CR 10 bits 16..23 (R89) -/
  scr : BitVec 8
  /-- CR 10 bits 24..31 (R88) -/
  ccr : BitVec 8
  /-- CR 11 Shift Amount Register (R90) -/
  sar : BitVec 5
  /-- CR 14 Interruption Vector Address (R91) -/
  iva : Word
  /-- CR 15 External Interrupt Enable Mask (R92) -/
  eiem : Word
  /-- CR 16, the counter (R93) -/
  itmr : Word
  /-- CR 16, the comparator (R93) -/
  itmrCmp : Word
  /-- CR 17 IIASQ (R94) -/
  iiasqFront : Word
  iiasqBack : Word
  /-- CR 18 IIAOQ (R94) -/
  iiaoqFront : Word
  iiaoqBack : Word
  /-- CR 19 Interruption Instruction Register (R95) -/
  iir : Word
  /-- CR 20 Interruption Space Register (R95) -/
  isr : Word
  /-- CR 21 Interruption Offset Register (R95) -/
  ior : Word
  /-- CR 22 Interruption PSW (R96) -/
  ipsw : Word
  /-- CR 23 External Interrupt Request Register (R97) -/
  eirr : Word
  /-- CR 24..31 Temporary Registers (R98) -/
  trs : Vector Word 8
  /-- the default endian bit (R166) -/
  defaultEndian : Bool
  /-- the instruction and data TLB: slots, empty or an entry (R190, R191) -/
  itlb : List (Option TlbEntry)
  dtlb : List (Option TlbEntry)
  /-- the page whose data translation software may rely upon, by space and page number (R201); the model's
  own field -/
  relied : Option (Word × BitVec 20)
  /-- pending interruptions that no instruction reads (R912) -/
  pendHpmc : Bool
  pendPowerFail : Bool
  pendLpmc : Bool
  pendPerfmon : Bool
  /-- FPR 0..31; FPR 0 holds the Status Register and Exception Register 1 (R741, R742) -/
  fprs : Vector Dword 32
  /-- the identify format of the Status Register is valid (R747, R756) -/
  fpIdentifyValid : Bool
  /-- the latest floating-point instruction was a doubleword store of register 0 (R835); the model's own
  field -/
  fpZeroStored : Bool
  /-- the identify format began after a doubleword store of register 0 (R835, U27); the model's own field -/
  fpBracketed : Bool
  /-- the performance monitor's state (R881) -/
  measurementEnabled : Bool
  /-- the debug SFU's registers (R886 to R889) -/
  dbaor : Vector Word 32
  dbamr : Vector Word 32
  ibaor : Vector Word 32
  ibamr : Vector Word 32
  /-- the registers of unarchitected coprocessors (R711) -/
  cprs : Vector (Vector Dword 32) 8
  /-- the state of unarchitected special function units (R704) -/
  sfuStates : Vector Nat 8
  /-- memory, by absolute address (R160) -/
  mem : Memory
  /-- the word being executed, as fetched (R932); the model's own field -/
  iword : Word
  /-- how many free values have been used; the model's own field -/
  draws : Nat
  /-- the inputs of the steps to come; the model's own field -/
  inputs : List Input
  /-- the part of a timer tick carried over (R985, D5); the model's own field -/
  itmrPhase : Nat
deriving DecidableEq, Repr

/-- Why the machine stops with a fault. -/
inductive Fault
  /-- A fetch, load, store or semaphore operation at an address of the memory address space that
  nothing backs (D17). Raised by every memory access. Safe: nothing is claimed of such a step. -/
  | unbackedMemory
  /-- A high-priority machine check while PSW M is 1: the machine is stuck
  (spec/93_implementation_defined.md U9). Raised at the boundary of a step. Safe: nothing is claimed of
  such a step. -/
  | machineCheckStop
deriving DecidableEq, Repr

/-- Why the machine refuses an operation. Each names a case that the spec calls an undefined
operation with no effect given (treatment `refuse` of spec/93_implementation_defined.md). -/
inductive Refusal
  /-- The instruction has no meaning in this model. Safe. -/
  | notModelled (mnemonic : String)
  /-- Ones written into reserved bits of a control register, the system mask or a debug mask register
  (U1, U41, R890). Raised by SSM, MTSM, MTCTL, MTDBAM, MTIBAM. Safe. -/
  | reservedBits
  /-- SSM or MTSM would set PSW Q (U17). Safe. -/
  | setsQ
  /-- MTCTL to a reserved or read-only control register, or to one whose write is undefined in this
  mode (U18). Safe. -/
  | controlRegisterWrite
  /-- A reference to the I/O address space, where no module is attached (D17). Safe. -/
  | ioSpace
  /-- A coprocessor load or store to the I/O address space (U22). Safe. -/
  | coprocessorIo
  /-- A virtual reference with U = 0 to a page of the I/O address space, or a semaphore operation on
  the I/O address space or on a page with U = 1 (U38). Safe. -/
  | uncacheable
  /-- An instruction fetch through a combined TLB from a page with U = 1 (U39). Safe. -/
  | fetchUncacheable
  /-- An unaligned absolute access or an unaligned semaphore operation (U37). Safe. -/
  | unaligned
  /-- A register specifier that a floating-point operation may not name (U24). Safe. -/
  | fpSpecifier
  /-- An undefined format code or pair of formats (U24). Safe. -/
  | fpFormat
  /-- CCR bits 0 and 1 differ, or uid 1 of opcode 0B or 0C while both are 1 (U25). Safe. -/
  | fpConfiguration
  /-- T = 0 and an exception register holds an exception (U26). Safe. -/
  | fpExceptionQueue
  /-- Operands of FMPYADD or FMPYSUB overlap, or `ra` is 0 (U29). Safe. -/
  | fpOverlap
  /-- A word load or store of an exception register, or a word load of the Status Register that sets
  T (U30). Safe. -/
  | fpSingleWord
  /-- A debug address offset register with a 1 where its mask has a 1 (U32). Safe. -/
  | debugMask
  /-- A debug register number beyond the implemented ones (U33). Safe. -/
  | debugRegister
  /-- A coprocessor load or store of the performance monitor (D19). Safe. -/
  | perfmonLoadStore
deriving DecidableEq, Repr

/-- The machine right after reset, for the parameters of an implementation (spec/10_state.md R101,
spec/92_eei_decisions.md D2): RESET_IA with privilege level 0, PSW 0 but for E. Registers with no reset
value in the spec hold zero (notes/assumptions/1.md). -/
def State.resetOf (c : Config) : State where
  cfg := c
  grs := Vector.replicate 32 0
  shr := Vector.replicate 7 0
  srs := Vector.replicate 8 0
  psw := if c.hasPswE && c.defaultEndian then 0x04000000 else 0
  iaoqFront := c.resetIa &&& ~~~3
  iaoqBack := (c.resetIa &&& ~~~3) + 4
  iasqFront := 0
  iasqBack := 0
  rctr := 0
  pid1 := 0
  pid2 := 0
  pid3 := 0
  pid4 := 0
  scr := 0
  ccr := 0
  sar := 0
  iva := 0
  eiem := 0
  itmr := 0
  itmrCmp := 0
  iiasqFront := 0
  iiasqBack := 0
  iiaoqFront := 0
  iiaoqBack := 0
  iir := 0
  isr := 0
  ior := 0
  ipsw := 0
  eirr := 0
  trs := Vector.replicate 8 0
  defaultEndian := c.defaultEndian
  itlb := List.replicate (c.itlbSlotsPred + 1) none
  dtlb := List.replicate (c.dtlbSlotsPred + 1) none
  relied := none
  pendHpmc := false
  pendPowerFail := false
  pendLpmc := false
  pendPerfmon := false
  fprs := Vector.replicate 32 0
  fpIdentifyValid := false
  fpZeroStored := false
  fpBracketed := false
  measurementEnabled := false
  dbaor := Vector.replicate 32 0
  dbamr := Vector.replicate 32 0
  ibaor := Vector.replicate 32 0
  ibamr := Vector.replicate 32 0
  cprs := Vector.replicate 8 (Vector.replicate 32 0)
  sfuStates := Vector.replicate 8 0
  mem := []
  iword := 0
  draws := 0
  inputs := []
  itmrPhase := 0

/-- The machine right after reset, with the default of every parameter (spec/92_eei_decisions.md). -/
def State.reset : State := State.resetOf Config.reference

end Sys2Proof.Machine
end

