-- ==== Sys2Proof/Machine/Ops.lean ====
section
/-!
DEFINITION. The named operations over the state: registers, PSW bits, memory, free values, taking an
interruption and returning from one, the completion of an instruction, address translation and the
checks of a data reference and of an instruction fetch.
-/

namespace Sys2Proof.Machine

/-- The outcome of an instruction or a step. -/
abbrev Out := Host.Outcome State Fault Refusal

/-! ### Register files -/

/-- Read element `r` of a file of 32. -/
def readReg {α : Type} (v : Vector α 32) (r : Reg) : α := v[r.toNat]'r.isLt

/-- Replace element `r` of a file of 32. -/
def writeReg {α : Type} (v : Vector α 32) (r : Reg) (x : α) : Vector α 32 := v.set r.toNat x r.isLt

/-- Read element `r` of a file of 8. -/
def readReg8 {α : Type} (v : Vector α 8) (r : BitVec 3) : α := v[r.toNat]'r.isLt

/-- Replace element `r` of a file of 8. -/
def writeReg8 {α : Type} (v : Vector α 8) (r : BitVec 3) (x : α) : Vector α 8 := v.set r.toNat x r.isLt

/-- `GR[r]` as a source: GR 0 delivers zeros (R42). -/
def State.gr (s : State) (r : Reg) : Word := if r = 0#5 then 0#32 else readReg s.grs r

/-- `GR[r] <- v`: a result for GR 0 is discarded (R42). -/
def State.setGr (s : State) (r : Reg) (v : Word) : State :=
  if r = 0#5 then s else { s with grs := writeReg s.grs r v }

/-- Level 0: no virtual memory (R6). -/
def State.level0 (s : State) : Bool := s.cfg.level == .l0

/-- `SR[r]`; the space registers read as zero in Level 0 (R45). -/
def State.sr (s : State) (r : BitVec 3) : Word := if s.level0 then 0#32 else readReg8 s.srs r

/-- `SR[r] <- v`; null in Level 0 (R45). All 32 bits are kept (D16). -/
def State.setSr (s : State) (r : BitVec 3) (v : Word) : State :=
  if s.level0 then s else { s with srs := writeReg8 s.srs r v }

/-! ### PSW bits (R49) -/

def State.pswY (s : State) : Bool := mbit s.psw 0
def State.pswZ (s : State) : Bool := mbit s.psw 1
def State.pswE (s : State) : Bool := s.cfg.hasPswE && mbit s.psw 5
def State.pswS (s : State) : Bool := mbit s.psw 6
def State.pswT (s : State) : Bool := mbit s.psw 7
def State.pswH (s : State) : Bool := mbit s.psw 8
def State.pswL (s : State) : Bool := mbit s.psw 9
def State.pswN (s : State) : Bool := mbit s.psw 10
def State.pswX (s : State) : Bool := mbit s.psw 11
def State.pswB (s : State) : Bool := mbit s.psw 12
/-- PSW C; nonexistent in Level 0 (R61). -/
def State.pswC (s : State) : Bool := mbit s.psw 13 && !s.level0
def State.pswV (s : State) : Bool := mbit s.psw 14
def State.pswM (s : State) : Bool := mbit s.psw 15
/-- PSW C/B, digit 0 leftmost (R50). -/
def State.pswCB (s : State) : BitVec 8 := field s.psw 16 8
def State.pswG (s : State) : Bool := mbit s.psw 25
def State.pswF (s : State) : Bool := mbit s.psw 26
def State.pswR (s : State) : Bool := mbit s.psw 27
def State.pswQ (s : State) : Bool := mbit s.psw 28
/-- PSW P; nonexistent in Level 0 (R69). -/
def State.pswP (s : State) : Bool := mbit s.psw 29 && !s.level0
/-- PSW D; nonexistent in Level 0 (R70). -/
def State.pswD (s : State) : Bool := mbit s.psw 30 && !s.level0
def State.pswI (s : State) : Bool := mbit s.psw 31

/-- `PSW[C/B] <- cb`. -/
def State.setCB (s : State) (cb : BitVec 8) : State := { s with psw := setField s.psw 16 8 cb }

/-- `PSW[V] <- v`. -/
def State.setV (s : State) (v : Bool) : State := { s with psw := setMbit s.psw 14 v }

/-- The debug SFU exists: Level 0 only (D20, R886). -/
def State.hasDebug (s : State) : Bool := s.level0 && s.cfg.hasDebugSfu

/-- The reserved bits of the PSW and IPSW (R49, R51 to R53, R65, R66, R74). -/
def pswReserved (c : Config) : Word :=
  0x38000080#32
    ||| (if c.hasPswE then 0#32 else 0x04000000#32)
    ||| (if c.level == .l0 && c.hasDebugSfu then 0#32 else 0xC0000040#32)
    ||| (if c.hasPerfmon then 0#32 else 0x00000020#32)

/-- The privilege level of an instruction offset: its two rightmost bits (R76). -/
def privOf (offset : Word) : BitVec 2 := field offset 30 2

/-- The current privilege level (R77). -/
def State.priv (s : State) : BitVec 2 := privOf s.iaoqFront

/-- Privilege levels 1, 2 and 3 are equivalent in Level 0 (R77). -/
def State.rank (s : State) (pl : BitVec 2) : Nat := if s.level0 then min pl.toNat 1 else pl.toNat

/-! ### Free values -/

/-- A fresh undefined word, and the state after drawing it. -/
def State.drawWord (s : State) : Word × State :=
  (Config.freeWord s.draws, { s with draws := s.draws + 1 })

/-- A fresh undefined doubleword, and the state after drawing it. -/
def State.drawDword (s : State) : Dword × State :=
  (Config.freeDword s.draws, { s with draws := s.draws + 1 })

/-- A fresh undefined bit, and the state after drawing it. -/
def State.drawBit (s : State) : Bool × State :=
  (Config.freeBit s.draws, { s with draws := s.draws + 1 })

/-! ### Memory -/

/-- What an address that memory does not list reads as (notes/assumptions/4.md). -/
def Memory.unlisted : Byte := 0#8

/-- The byte at an absolute address. -/
def Memory.byteAt (m : Memory) (a : Nat) : Byte :=
  match m with
  | [] => Memory.unlisted
  | (k, v) :: rest => if k = a then v else Memory.byteAt rest a

/-- Memory with byte `v` at address `a`, in canonical form. -/
def Memory.setByte (m : Memory) (a : Nat) (v : Byte) : Memory :=
  match m with
  | [] => if v = Memory.unlisted then [] else [(a, v)]
  | (k, w) :: rest =>
    if a < k then
      if v = Memory.unlisted then (k, w) :: rest else (a, v) :: (k, w) :: rest
    else if a = k then
      if v = Memory.unlisted then rest else (a, v) :: rest
    else (k, w) :: Memory.setByte rest a v

/-- Every listed address of `m` is above `a`, addresses rise strictly, and no listed byte equals the
unlisted one. -/
def Memory.wfAbove (a : Nat) (m : Memory) : Bool :=
  match m with
  | [] => true
  | (k, v) :: rest => decide (a < k) && decide (v ≠ Memory.unlisted) && Memory.wfAbove k rest

/-- The canonical form: strictly rising addresses, no entry equal to an unlisted byte. -/
def Memory.wf (m : Memory) : Bool :=
  match m with
  | [] => true
  | (k, v) :: rest => decide (v ≠ Memory.unlisted) && Memory.wfAbove k rest

/-- Store bytes at rising addresses. -/
def Memory.setBytes (m : Memory) (a : Nat) (bs : List Byte) : Memory :=
  match bs with
  | [] => m
  | b :: rest => Memory.setBytes (Memory.setByte m a b) (a + 1) rest

/-- The `n` bytes from address `a`, lowest first. -/
def Memory.bytesAt (m : Memory) (a n : Nat) : List Byte :=
  match n with
  | 0 => []
  | n + 1 => Memory.byteAt m a :: Memory.bytesAt m (a + 1) n

/-- A halfword in the byte order of PSW E (R164). -/
def Memory.half (m : Memory) (le : Bool) (a : Nat) : BitVec 16 :=
  if le then (m.byteAt (a + 1) ++ m.byteAt a : BitVec 16)
  else (m.byteAt a ++ m.byteAt (a + 1) : BitVec 16)

/-- A word in the byte order of PSW E (R164). -/
def Memory.word (m : Memory) (le : Bool) (a : Nat) : Word :=
  wordOfBytes le (m.byteAt a) (m.byteAt (a + 1)) (m.byteAt (a + 2)) (m.byteAt (a + 3))

/-- A doubleword in the byte order of PSW E: the swap covers all eight bytes (R164). -/
def Memory.dword (m : Memory) (le : Bool) (a : Nat) : Dword :=
  if le then (m.word true (a + 4) ++ m.word true a : BitVec 64)
  else (m.word false a ++ m.word false (a + 4) : BitVec 64)

/-- The two bytes of a halfword as they lie in memory. -/
def halfBytes (le : Bool) (h : BitVec 16) : List Byte :=
  let hi : Byte := h.extractLsb' 8 8
  let lo : Byte := h.extractLsb' 0 8
  if le then [lo, hi] else [hi, lo]

/-- The eight bytes of a doubleword as they lie in memory. -/
def dwordBytes (le : Bool) (d : Dword) : List Byte :=
  let hi : Word := d.extractLsb' 32 32
  let lo : Word := d.extractLsb' 0 32
  if le then wordBytes true lo ++ wordBytes true hi else wordBytes false hi ++ wordBytes false lo

/-- Store bytes into the state's memory. -/
def State.storeBytes (s : State) (a : Nat) (bs : List Byte) : State :=
  { s with mem := s.mem.setBytes a bs }

/-- The address lies in the I/O address space (R160). -/
def isIo (a : Word) : Bool := a.toNat ≥ 0xF0000000

/-- All `n` bytes from `a` are backed by storage (D17). -/
def backed (c : Config) (a n : Nat) : Bool :=
  c.backed.any fun r => decide (r.1 ≤ a ∧ a + n ≤ r.1 + r.2)

/-! ### Taking an interruption (R930) -/

/-- The parameters an interruption's description gives; `none` where it lists none (R932 to R934). -/
structure IntParams where
  iir : Option Word
  isr : Option Word
  ior : Option Word
deriving DecidableEq, Repr

/-- "Parameters none". -/
def IntParams.none : IntParams := ⟨.none, .none, .none⟩

/-- IIR is the instruction. -/
def IntParams.instr (w : Word) : IntParams := ⟨some w, .none, .none⟩

/-- IIR is the instruction, ISR and IOR its address. -/
def IntParams.address (w space offset : Word) : IntParams := ⟨some w, some space, some offset⟩

/-- The PSW at entry: E is the default endian bit, M is 1 only for the high-priority machine check,
everything else 0 (R930 step 2). -/
def entryPsw (s : State) (n : Nat) : Word :=
  setMbit (setMbit 0#32 5 (s.cfg.hasPswE && s.defaultEndian)) 15 (n == 1)

/-- The address of an interruption's handler (R930 step 7, R931); IVA's low 11 bits are not used. -/
def vector (iva : Word) (n : Nat) : Word :=
  ((field iva 0 21 ++ 0#11 : BitVec 32)) + BitVec.ofNat 32 (32 * n)

/-- GRs 1, 8, 9, 16, 17, 24 and 25, the shadowed registers (R44). -/
def State.shadowed (s : State) : Vector Word 7 :=
  #v[s.gr 1, s.gr 8, s.gr 9, s.gr 16, s.gr 17, s.gr 24, s.gr 25]

/-- Take interruption `n` in state `s` (R930): `s.psw` is the PSW to save and the IA queues are the
addresses to save, as R915 leaves them. Values the description leaves open are free values: IASQ
afterwards, the IIASQ copies while PSW C = 0 (R938), and unlisted parameters (U35). -/
def take (n : Nat) (p : IntParams) (s : State) : State :=
  let q := s.pswQ
  let k := s.draws
  { s with
    ipsw := s.psw
    psw := entryPsw s n
    iiasqFront :=
      if q && !s.level0 then (if s.pswC then s.iasqFront else Config.freeWord k) else s.iiasqFront
    iiasqBack :=
      if q && !s.level0 then (if s.pswC then s.iasqBack else Config.freeWord (k + 1)) else s.iiasqBack
    iiaoqFront := if q then s.iaoqFront else s.iiaoqFront
    iiaoqBack := if q then s.iaoqBack else s.iiaoqBack
    iir := if q then p.iir.getD (Config.freeWord (k + 2)) else s.iir
    isr := if q && !s.level0 then p.isr.getD (Config.freeWord (k + 3)) else s.isr
    ior := if q then p.ior.getD (Config.freeWord (k + 4)) else s.ior
    shr := s.shadowed
    iaoqFront := vector s.iva n
    iaoqBack := vector s.iva n + 4#32
    iasqFront := if s.level0 then s.iasqFront else Config.freeWord (k + 5)
    iasqBack := if s.level0 then s.iasqBack else Config.freeWord (k + 6)
    draws := k + 7 }

/-- A group 3 interruption of the instruction in execution whose only parameter is IIR: everything is
as at the start of the instruction (R920). -/
def trapInstr (n : Nat) (s : State) : Out := .next (take n (.instr s.iword) s)

/-- No data translation is relied upon any more (R201). -/
def State.unrely (s : State) : State := { s with relied := none }

/-- An undefined instruction: the illegal instruction trap (8), after which no data translation is relied
upon (R19, R201). -/
def trapUndefined (s : State) : Out := trapInstr 8 s.unrely

/-- A group 3 interruption with an address in ISR and IOR (R933, R934). -/
def trapAddress (n : Nat) (s : State) (space offset : Word) : Out :=
  .next (take n (.address s.iword space offset) s)

/-- An instruction that only privilege level 0 may execute: elsewhere the privileged operation trap
(10), tested before anything else (R409, R630). -/
def privileged (s : State) (act : Out) : Out :=
  if s.priv = 0#2 then act else trapInstr 10 s

/-! ### Completion of an instruction (R915 steps 3b and 4, R79) -/

/-- The destination of a taken branch: the new IAOQ back element, and the new IASQ back element of an
external branch (R79). -/
structure Target where
  offset : Word
  space : Option Word
deriving DecidableEq, Repr

/-- The PSW after a completed instruction: X, Y and Z are 0, N and B as given (R79). -/
def donePsw (psw : Word) (nullify taken : Bool) : Word :=
  setMbit (setMbit (psw &&& 0x3FC7FFFF#32) 10 nullify) 12 taken

/-- The address queues after an instruction that is not RFI or RFIR, and PSW N, B, X, Y, Z (R79). -/
def State.advance (s : State) (nullify : Bool) (target : Option Target) : State :=
  { s with
    psw := donePsw s.psw nullify target.isSome
    iaoqFront := s.iaoqBack
    iaoqBack := match target with
      | some t => t.offset
      | none => s.iaoqBack + 4#32
    iasqFront := s.iasqBack
    iasqBack := match target with
      | some t => t.space.getD s.iasqBack
      | none => s.iasqBack }

/-- The group 4 traps (R915 step 4): `s0` is the state before the instruction, `s` after it. `lower`
tells whether a lower-privilege transfer trap may be taken (not for RFI and RFIR, R632). -/
def group4 (s0 s : State) (lower taken : Bool) : State :=
  let pl0 := s0.rank s0.priv
  let pl1 := s0.rank s.priv
  if pl1 > pl0 ∧ s0.pswL ∧ lower then take 24 .none s
  else if pl1 < pl0 ∧ s0.pswH then take 23 .none s
  else if taken ∧ s0.pswT then take 25 .none s
  else s

/-- The Recovery Counter counts an executed instruction when PSW R was 1 (R86). -/
def State.count (s : State) (s0 : State) : State :=
  if s0.pswR then { s with rctr := s.rctr - 1#32 } else s

/-- Completion: `s0` is the state before the instruction, `s1` has the instruction's own effect. -/
def complete (s0 s1 : State) (nullify : Bool) (target : Option Target) : State :=
  group4 s0 ((s1.count s0).advance nullify target) true target.isSome

/-- Completion of an instruction that neither nullifies nor branches. -/
def done (s0 s1 : State) : Out := .next (complete s0 s1 false none)

/-- Completion of an instruction that nullifies its successor when `nullify`. -/
def doneNullify (s0 s1 : State) (nullify : Bool) : Out := .next (complete s0 s1 nullify none)

/-- Skipping a nullified instruction (R80), with the group 4 traps it may meet (R915). -/
def skipNullified (s : State) : State := group4 s (s.advance false none) true false

/-! ### Returning from an interruption (R632, R633) -/

/-- The IIA queue elements: while PSW Q is 1 they track the IA queues (R94). -/
def State.iiaOffsets (s : State) : Word × Word :=
  if s.pswQ then (s.iaoqFront, s.iaoqBack) else (s.iiaoqFront, s.iiaoqBack)

def State.iiaSpaces (s : State) : Word × Word :=
  if s.pswQ then (s.iasqFront, s.iasqBack) else (s.iiasqFront, s.iiasqBack)

/-- Undefined IIA queues (U16). -/
def State.loseIia (s : State) : State :=
  { s with
    iiasqFront := Config.freeWord s.draws
    iiasqBack := Config.freeWord (s.draws + 1)
    iiaoqFront := Config.freeWord (s.draws + 2)
    iiaoqBack := Config.freeWord (s.draws + 3)
    draws := s.draws + 4 }

/-- Undefined IIA queues, IPRs and IPSW, after a system mask instruction has cleared Q (U16). The
reserved bits of the IPSW still read as zeros (R40). -/
def State.loseInterruptionState (s : State) : State :=
  let k := s.draws
  { s.loseIia with
    iir := Config.freeWord (k + 4)
    isr := if s.level0 then s.isr else Config.freeWord (k + 5)
    ior := Config.freeWord (k + 6)
    ipsw := Config.freeWord (k + 7) &&& ~~~(pswReserved s.cfg)
    draws := k + 8 }

/-- PSW and IA queues from IPSW and the IIA queues (R632); with IPSW Q = 0 the IIA queues are
undefined afterwards and the IPRs unchanged (spec/90_conflicts.md C14). -/
def returnFromInterruption (s : State) : State :=
  let s1 := { s with
    psw := s.ipsw
    iaoqFront := s.iiaOffsets.1
    iaoqBack := s.iiaOffsets.2
    iasqFront := if s.level0 then s.iasqFront else s.iiaSpaces.1
    iasqBack := if s.level0 then s.iasqBack else s.iiaSpaces.2 }
  if mbit s.ipsw 28 then s1 else s1.loseIia

/-- GRs 1, 8, 9, 16, 17, 24 and 25 from the shadow registers, which are undefined afterwards (R633). -/
def State.restoreShadows (s : State) : State :=
  let k := s.draws
  let s1 := ((((((s.setGr 1 s.shr[0]).setGr 8 s.shr[1]).setGr 9 s.shr[2]).setGr 16 s.shr[3]).setGr 17
    s.shr[4]).setGr 24 s.shr[5]).setGr 25 s.shr[6]
  { s1 with
    shr := #v[Config.freeWord k, Config.freeWord (k + 1), Config.freeWord (k + 2),
      Config.freeWord (k + 3), Config.freeWord (k + 4), Config.freeWord (k + 5),
      Config.freeWord (k + 6)]
    draws := k + 7 }

/-- Completion of RFI and RFIR: no branch, no lower-privilege transfer trap (R632, R915). -/
def completeReturn (s0 s1 : State) : State :=
  group4 s0 (returnFromInterruption (s1.count s0)) false false

/-! ### Translation (spec/20_memory.md sections 3 to 5) -/

/-- The implemented bits of a space identifier (R45, D1). -/
def spaceMask (c : Config) : Word :=
  match c.level with
  | .l0 => 0#32
  | .l1 => 0x0000FFFF#32
  | .l15 => 0x00FFFFFF#32
  | .l2 => 0xFFFFFFFF#32

/-- The virtual page number's offset part: `offset{0..19}` (R163). -/
def vpnOf (offset : Word) : BitVec 20 := field offset 0 20

/-- The entry is for this virtual page, valid or not (R195). -/
def tlbMatches (c : Config) (space : Word) (vpn : BitVec 20) (e : TlbEntry) : Bool :=
  (e.space &&& spaceMask c) == (space &&& spaceMask c) && e.vpn == vpn

/-- The slot holds an entry for this virtual page. -/
def slotMatches (c : Config) (space : Word) (vpn : BitVec 20) (slot : Option TlbEntry) : Bool :=
  match slot with
  | some e => tlbMatches c space vpn e
  | none => false

/-- Which TLB: a combined TLB is held in `dtlb` (D6). -/
def State.tlb (s : State) (instr : Bool) : List (Option TlbEntry) :=
  if instr && !s.cfg.tlbCombined then s.itlb else s.dtlb

def State.setTlb (s : State) (instr : Bool) (l : List (Option TlbEntry)) : State :=
  if instr && !s.cfg.tlbCombined then { s with itlb := l } else { s with dtlb := l }

/-- ITLB_SLOTS or DTLB_SLOTS (D6). -/
def State.tlbSlots (s : State) (instr : Bool) : Nat :=
  if instr && !s.cfg.tlbCombined then s.cfg.itlbSlotsPred + 1 else s.cfg.dtlbSlotsPred + 1

/-- `search_DTLB`, `search_ITLB`: the slot of an entry, valid or not, for the page (R195). DESIGN CHOICE,
unsafe (notes/assumptions/57.md): where two slots match, as the leftover of PDTLBE may, the lowest one. -/
def tlbSearch (c : Config) (l : List (Option TlbEntry)) (space : Word) (vpn : BitVec 20) : Option Nat :=
  l.findIdx? (slotMatches c space vpn)

/-- The valid entry for the page: only E = 1 entries translate (R180, R192, D28). -/
def tlbValid (c : Config) (l : List (Option TlbEntry)) (space : Word) (vpn : BitVec 20) :
    Option TlbEntry :=
  match l.find? fun slot => match slot with
    | some e => e.e && tlbMatches c space vpn e
    | none => false with
  | some (some e) => some e
  | _ => none

/-- The state as a virtual data reference is made: of the translation relied upon, only that of the same
page is still relied upon (R201). -/
def State.keepRelied (s : State) (space offset : Word) : State :=
  match s.relied with
  | some (sp, vpn) =>
    if sp &&& spaceMask s.cfg = space &&& spaceMask s.cfg ∧ vpn = vpnOf offset then s else s.unrely
  | none => s

/-- The slots of a TLB that hold the translation relied upon, which no insertion may evict (R201, D6 (a)). -/
def State.heldSlot (s : State) (instr : Bool) (slot : Option TlbEntry) : Bool :=
  match s.relied, slot with
  | some (sp, vpn), some e => (!instr || s.cfg.tlbCombined) && e.e && tlbMatches s.cfg sp vpn e
  | _, _ => false

/-- `alloc_DTLB`, `alloc_ITLB`: an empty slot, else one whose entry is invalid, else a free choice among the
slots that do not hold the translation relied upon (R196, R201, D6 (a)); `none` when there is no such slot
(notes/assumptions/12.md). -/
def State.tlbAlloc (s : State) (instr : Bool) : Option Nat :=
  let l := s.tlb instr
  match l.findIdx? Option.isNone with
  | some i => some i
  | none =>
    match l.findIdx? fun slot => match slot with
      | some e => !e.e
      | none => false with
    | some i => some i
    | none =>
      let victims := (List.range (s.tlbSlots instr)).filter fun i => !s.heldSlot instr (l.getD i none)
      victims[Config.freeIndex s.draws % victims.length]?

/-- The slots with every entry for the page emptied (R196: the old translation is removed). -/
def tlbRemove (c : Config) (l : List (Option TlbEntry)) (space : Word) (vpn : BitVec 20) :
    List (Option TlbEntry) :=
  l.map fun slot => if slotMatches c space vpn slot then none else slot

/-- The slots with every entry for the page made invalid (R197, D6 (e)). -/
def tlbInvalidate (c : Config) (l : List (Option TlbEntry)) (space : Word) (vpn : BitVec 20) :
    List (Option TlbEntry) :=
  l.map fun slot => match slot with
    | some e => if tlbMatches c space vpn e then some { e with e := false } else some e
    | none => none

/-- The access ID in the implemented width (R191, D4). -/
def accessIdMask (c : Config) : BitVec 18 := BitVec.ofNat 18 (2 ^ (15 + c.pidExtra.val) - 1)

/-- Put an entry into a TLB: it takes the slot of the page's old entry, or an allocated one; where none can
be allocated, the TLB keeps what it has. -/
def State.tlbInsert (s : State) (instr : Bool) (entry : TlbEntry) : State :=
  let l := s.tlb instr
  let slot := match tlbSearch s.cfg l entry.space entry.vpn with
    | some i => some i
    | none => s.tlbAlloc instr
  let new := match slot with
    | some i => (tlbRemove s.cfg l entry.space entry.vpn).set i (some entry)
    | none => l
  { s.setTlb instr new with draws := s.draws + 1 }

/-- A TLB reference: the valid entry, or on a miss the hardware handler's, which it inserts (R182,
R183). The handler sees the implemented bits of the space identifier only (R40, R180). `none` is a miss
that the hardware does not resolve. -/
def State.translate (s : State) (instr : Bool) (space offset : Word) : Option (TlbEntry × State) :=
  match tlbValid s.cfg (s.tlb instr) space (vpnOf offset) with
  | some e => some (e, s)
  | none =>
    if s.cfg.hwTlbMiss then
      match Config.tlbWalk s.defaultEndian s.mem (space &&& spaceMask s.cfg) (vpnOf offset) with
      | some found =>
        let e := { found with
          space := space, vpn := vpnOf offset, e := true
          accessId := found.accessId &&& accessIdMask s.cfg }
        some (e, s.tlbInsert instr e)
      | none => none
    else none

/-- The state after a TLB reference: an entry that the hardware handler found stays in the TLB, whether
or not the instruction is then interrupted (R183, R201; notes/assumptions/17.md). -/
def State.walked (s : State) (instr : Bool) (space offset : Word) : State :=
  match s.translate instr space offset with
  | some (_, s') => s'
  | none => s

/-- `absolute_address` of an entry (R180). -/
def absoluteOf (e : TlbEntry) (offset : Word) : Word := (e.ppn ++ field offset 20 12 : BitVec 32)

/-- The access types (R207). -/
inductive Access
  | load | store | semaphore
deriving DecidableEq, Repr

/-- The three subfields of the access rights (R209). -/
def arType (e : TlbEntry) : BitVec 3 := e.accessRights.extractLsb' 4 3
def arPl1 (e : TlbEntry) : Nat := (e.accessRights.extractLsb' 2 2).toNat
def arPl2 (e : TlbEntry) : Nat := (e.accessRights.extractLsb' 0 2).toNat

/-- Read access at privilege level `pl` (R209, Table 3-1). -/
def readAllowed (e : TlbEntry) (pl : Nat) : Bool :=
  match (arType e).toNat with
  | 0 => decide (pl ≤ arPl1 e)
  | 1 => decide (pl ≤ arPl1 e)
  | 2 => decide (pl ≤ arPl1 e)
  | 3 => decide (pl ≤ arPl1 e)
  | _ => false

/-- Write access at privilege level `pl` (R209). -/
def writeAllowed (e : TlbEntry) (pl : Nat) : Bool :=
  match (arType e).toNat with
  | 1 => decide (pl ≤ arPl2 e)
  | 3 => decide (pl ≤ arPl2 e)
  | _ => false

/-- Execute access at privilege level `pl` (R209). -/
def executeAllowed (e : TlbEntry) (pl : Nat) : Bool :=
  match (arType e).toNat with
  | 0 => false
  | 1 => false
  | _ => decide (arPl2 e ≤ pl ∧ pl ≤ arPl1 e)

/-- A protection identifier of the implemented width matches an access ID (R87, R208). -/
def pidMatches (c : Config) (pid : Word) (id : BitVec 18) : Bool :=
  (field pid 13 18 &&& accessIdMask c) == (id &&& accessIdMask c)

/-- `pid_check` (R208). -/
def State.pidCheck (s : State) (e : TlbEntry) (write : Bool) : Bool :=
  (e.accessId &&& accessIdMask s.cfg) == 0#18 ||
    [s.pid1, s.pid2, s.pid3, s.pid4].any fun pid =>
      pidMatches s.cfg pid e.accessId && (!write || !mbit pid 31)

/-- `read_access_allowed` and `write_access_allowed` at a given privilege level (R210). -/
def State.probeAllowed (s : State) (e : TlbEntry) (write : Bool) (pl : BitVec 2) : Bool :=
  (if write then writeAllowed e pl.toNat else readAllowed e pl.toNat) &&
    (!s.pswP || s.pidCheck e write)

/-- The access rights check of a data reference (R207, R209). -/
def rightsOk (e : TlbEntry) (k : Access) (pl : Nat) : Bool :=
  match k with
  | .load => readAllowed e pl
  | .store => writeAllowed e pl
  | .semaphore => readAllowed e pl && writeAllowed e pl

/-! ### The debug SFU's comparisons (R890 to R893) -/

/-- What evaluating a set of breakpoints gives. -/
inductive Breakpoint
  | none | hit | undefined
deriving DecidableEq, Repr

/-- The implemented mask bits of a mask register (R890). -/
def dbgMaskOf (c : Config) (amr : Word) : Word :=
  amr &&& BitVec.ofNat 32 (2 ^ c.dbgMask.toNat - 1)

/-- `dbg_match` (R890). -/
def dbgMatch (c : Config) (addr aor amr : Word) : Bool :=
  ((addr ^^^ aor) &&& ~~~(dbgMaskOf c amr)) == 0#32

/-- Evaluate the enabled pairs in order: `pairs` holds enable, offset register and mask register. -/
def evalBreakpoints (c : Config) (addr : Word) (pairs : List (Bool × Word × Word)) : Breakpoint :=
  match pairs with
  | [] => .none
  | (on, aor, amr) :: rest =>
    if on then
      if aor &&& dbgMaskOf c amr ≠ 0#32 then .undefined
      else if dbgMatch c addr aor amr then .hit
      else evalBreakpoints c addr rest
    else evalBreakpoints c addr rest

/-- `data_debug_check` (R893). -/
def State.dataBreakpoint (s : State) (k : Access) (addr : Word) : Breakpoint :=
  if s.hasDebug ∧ s.pswG ∧ !s.pswY then
    evalBreakpoints s.cfg addr (((s.dbaor.toList.zip s.dbamr.toList).take s.cfg.dbgDreg.toNat).map
      fun p => ((mbit p.2 0 && k != .store) || (mbit p.2 1 && k != .load), p.1, p.2))
  else .none

/-- `instruction_debug_check` (R892): all 32 bits of IAOQ_Front are compared. -/
def State.instrBreakpoint (s : State) : Breakpoint :=
  if s.hasDebug ∧ s.pswG ∧ !s.pswZ then
    evalBreakpoints s.cfg s.iaoqFront
      (((s.ibaor.toList.zip s.ibamr.toList).take s.cfg.dbgIreg.toNat).map
        fun p => (mbit p.2 0, p.1, p.2))
  else .none

/-! ### Data references (R212, R403) -/

/-- The result of the checks of a reference. -/
inductive Check (α : Type)
  | ok (a : α)
  | trap (n : Nat)
  | refused (r : Refusal)
  | fault (f : Fault)
deriving DecidableEq, Repr

/-- A data reference: what it does, the bytes it covers, the alignment it needs, whether it ignores
PSW D (LDWAX, LDWAS, STWAS), whether a coprocessor makes it. -/
structure DataRef where
  kind : Access
  size : Nat
  align : Nat
  absolute : Bool
  copr : Bool
deriving DecidableEq, Repr

/-- A load, store or semaphore reference is virtual when PSW D = 1 and the form is not an absolute
one (R168). -/
def State.isVirtual (s : State) (ref : DataRef) : Bool := s.pswD && !ref.absolute

/-- The address is not a multiple of the alignment. -/
def misaligned (offset : Word) (align : Nat) : Bool := offset.toNat % align != 0

/-- The reference reaches storage: not the I/O address space, and backed (R160, R251, D17). `u` is the
U-bit of a virtual reference's page. -/
def reach (s : State) (ref : DataRef) (u : Option Bool) (a : Word) (s' : State) :
    Check (State × Nat) :=
  if isIo a then
    if ref.copr then .refused .coprocessorIo
    else if u = some false ∨ ref.kind = .semaphore then .refused .uncacheable
    else .refused .ioSpace
  else if u = some true ∧ ref.kind = .semaphore then .refused .uncacheable
  else if backed s.cfg a.toNat ref.size then .ok (s', a.toNat)
  else .fault .unbackedMemory

/-- What an unaligned reference with no trap of its own does (D18): `next a` goes on at address `a`. DESIGN
CHOICE (notes/assumptions/47.md): truncation is to the alignment of the reference, 16 bytes for LDCW. -/
def unalignedCase (s : State) (ref : DataRef) (offset : Word)
    (next : Word → Check (State × Nat)) : Check (State × Nat) :=
  match s.cfg.unalignedAbs with
  | .refuse => .refused .unaligned
  | .trap28 => .trap 28
  | .truncate => next (BitVec.ofNat 32 (offset.toNat / ref.align * ref.align))

/-- The checks of an absolute reference (R403). -/
def absoluteCheck (s : State) (ref : DataRef) (offset : Word) : Check (State × Nat) :=
  let go := fun (a : Word) =>
    match s.dataBreakpoint ref.kind offset with
    | .undefined => .refused .debugMask
    | .hit => .trap 31
    | .none => reach s ref none a s
  if misaligned offset ref.align then unalignedCase s ref offset go else go offset

/-- The checks of a virtual reference in the order of R212. DESIGN CHOICE (notes/assumptions/47.md): an
unaligned LDCW (R425, D18) takes 15, 26 or 27 first, and is refused ahead of 19, 20 and 21. -/
def virtualCheck (s : State) (ref : DataRef) (space offset : Word) : Check (State × Nat) :=
  match (s.keepRelied space offset).translate false space offset with
  | none => .trap 15
  | some (e, s') =>
    let go := fun (off : Word) =>
      if ref.kind ≠ .load ∧ e.b ∧ !s.pswX then .trap 19
      else if ref.kind ≠ .load ∧ !e.d then .trap 20
      else if e.t then .trap 21
      else reach s ref (if s.cfg.hasTlbU then some e.u else none) (absoluteOf e off) s'
    if !rightsOk e ref.kind s.priv.toNat then .trap 26
    else if s.pswP ∧ !s.pidCheck e (ref.kind != .load) then .trap 27
    else if misaligned offset ref.align then
      if ref.kind = .semaphore then unalignedCase s ref offset go else .trap 28
    else go offset

/-- All the checks of a data reference: the absolute address to access, and the state (a hardware TLB
handler may have changed the TLB). -/
def State.dataCheck (s : State) (ref : DataRef) (space offset : Word) : Check (State × Nat) :=
  if s.isVirtual ref then virtualCheck s ref space offset else absoluteCheck s ref offset

/-- The parameters of an interruption of a data reference: ISR is undefined for a reference that is not
translated, so a free value there (R933, R934; notes/assumptions/33.md). -/
def State.referenceParams (s : State) (ref : DataRef) (space report : Word) : IntParams :=
  ⟨some s.iword, if s.isVirtual ref then some space else none, some report⟩

/-- The interruptions after which the translation of the data address may be relied upon (R201). -/
def relyingInterruptions : List Nat := [18, 19, 20, 21, 22, 26, 27, 28]

/-- The state in which interruption `n` interrupts a data reference: as at the start of the instruction,
with the entry that the hardware handler inserted for it (R920, R183), and with the translation that the
handler of the interruption may rely upon (R201). -/
def State.referenceWalked (s : State) (n : Nat) (ref : DataRef) (space offset : Word) : State :=
  if s.isVirtual ref then
    let u := (s.keepRelied space offset).walked false space offset
    if relyingInterruptions.contains n then { u with relied := some (space, vpnOf offset) } else u
  else s

/-- A data reference at `offset` takes interruption `n`, reporting `report` in IOR. -/
def trapReference (n : Nat) (s : State) (ref : DataRef) (space offset report : Word) : Out :=
  .next (take n (s.referenceParams ref space report) (s.referenceWalked n ref space offset))

/-- Make a data reference whose interruption reports `report` in IOR: its interruption, or `k` with
the state and the absolute address (R410 (2), (6)). -/
def State.accessAs (s : State) (ref : DataRef) (space offset report : Word)
    (k : State → Nat → Out) : Out :=
  match s.dataCheck ref space offset with
  | .ok (s', a) => k s' a
  | .trap n => trapReference n s ref space offset report
  | .refused r => .refused r
  | .fault f => .fault f

/-- Make a data reference at `offset`. -/
def State.access (s : State) (ref : DataRef) (space offset : Word) (k : State → Nat → Out) : Out :=
  s.accessAs ref space offset offset k

/-! ### Instruction fetch (R165, R171, R211) -/

/-- The byte address of the current instruction: `cat(IAOQ_Front{0..29},0{0..1})` (R171). -/
def State.fetchOffset (s : State) : Word := s.iaoqFront &&& ~~~3#32

/-- The word at an absolute address as an instruction, in the byte order of PSW E (R165). -/
def fetchAt (s : State) (a : Word) (s' : State) : Check (State × Word) :=
  if isIo a then .refused .ioSpace
  else if backed s.cfg a.toNat 4 then .ok (s', s.mem.word s.pswE a.toNat)
  else .fault .unbackedMemory

/-- Fetch the instruction at the front of the queues: interruptions 6, 7 and 30 (R211, R892). After a
virtual instruction reference no data translation is relied upon (R201). -/
def State.fetch (s : State) : Check (State × Word) :=
  let go := fun (a : Word) (s' : State) =>
    match s.instrBreakpoint with
    | .undefined => .refused .debugMask
    | .hit => .trap 30
    | .none => fetchAt s a s'
  if s.pswC then
    match s.unrely.translate true s.iasqFront s.fetchOffset with
    | none => .trap 6
    | some (e, s') =>
      if !executeAllowed e s.priv.toNat ∨ (s.pswP ∧ !s.pidCheck e false) then .trap 7
      else if s.cfg.tlbCombined ∧ s.cfg.hasTlbU ∧ e.u then .refused .fetchUncacheable
      else go (absoluteOf e s.fetchOffset) s'
  else go s.fetchOffset s

/-- The state in which a fetch is interrupted: the entry that the hardware handler inserted for it stays
(R183). -/
def State.fetchWalked (s : State) : State :=
  if s.pswC then s.unrely.walked true s.iasqFront s.fetchOffset else s

end Sys2Proof.Machine
end

