-- ==== Sys2Proof/Machine/Operands.lean ====
section
/-!
DEFINITION. Operand forms: space selection, the effective addresses of memory references with their
base register modification, branch targets, and the field of the shift, extract and deposit
instructions (spec/20_memory.md R170, spec/40_memory_reference.md R405 to R409, spec/42_branch.md R482).
-/

namespace Sys2Proof.Machine

/-- The number of the space register that a 2-bit `s` field and a base select (R170). -/
def spaceNumber (sf : BitVec 2) (base : Word) : BitVec 3 :=
  if sf = 0#2 then 1#1 ++ field base 0 2 else sf.setWidth 3

/-- `space_select(s, GR[b])` and the space register's contents (R170). -/
def State.space (st : State) (sf : BitVec 2) (base : Word) : Word := st.sr (spaceNumber sf base)

/-- An effective address: space, offset, and the new contents of the base register when the form
modifies it. -/
structure Ea where
  space : Word
  offset : Word
  base : Option Word
deriving DecidableEq, Repr

/-- Long displacement without modification (R405). -/
def longEa (st : State) (b : Reg) (sf : BitVec 2) (im14 : BitVec 14) : Ea :=
  { space := st.space sf (st.gr b), offset := st.gr b + lowSignExt14 im14, base := none }

/-- Long displacement with modification: a negative displacement modifies before, any other after the
reference (R405). -/
def longModifyEa (st : State) (b : Reg) (sf : BitVec 2) (im14 : BitVec 14) : Ea :=
  let d := lowSignExt14 im14
  { space := st.space sf (st.gr b)
    offset := if d.slt 0#32 then st.gr b + d else st.gr b
    base := some (st.gr b + d) }

/-- Indexed, with the index shift of the data size; `m` modifies after the reference (R406). -/
def indexedEa (st : State) (b x : Reg) (sf : BitVec 2) (u m : BitVec 1) (shift : Nat) : Ea :=
  let ix := if isOne u then st.gr x <<< shift else st.gr x
  if isOne m then { space := st.space sf (st.gr b), offset := st.gr b, base := some (st.gr b + ix) }
  else { space := st.space sf (st.gr b), offset := st.gr b + ix, base := none }

/-- Short displacement: `m` modifies the base, before the reference when `a` (R407). -/
def shortEa (st : State) (b : Reg) (im5 : BitVec 5) (sf : BitVec 2) (a m : BitVec 1) : Ea :=
  let sum := st.gr b + lowSignExt5 im5
  if isOne m then
    { space := st.space sf (st.gr b)
      offset := if isOne a then sum else st.gr b
      base := some sum }
  else { space := st.space sf (st.gr b), offset := sum, base := none }

/-- STBYS: `a` is the ending case; modification happens after the reference in the beginning case,
before it in the ending case, and leaves a word address (R432). -/
def bytesEa (st : State) (b : Reg) (im5 : BitVec 5) (sf : BitVec 2) (a m : BitVec 1) : Ea :=
  let sum := st.gr b + lowSignExt5 im5
  if isOne m then
    { space := st.space sf (st.gr b)
      offset := if isOne a then sum else st.gr b
      base := some (sum &&& 0xFFFFFFFC#32) }
  else { space := st.space sf (st.gr b), offset := sum, base := none }

/-- Base register modification, when the form has it. -/
def State.modifyBase (st : State) (b : Reg) (base : Option Word) : State :=
  match base with
  | some v => st.setGr b v
  | none => st

/-! ### References of each size -/

/-- A load or store of `n` bytes, aligned to `n` (R403). -/
def DataRef.plain (kind : Access) (n : Nat) : DataRef :=
  { kind := kind, size := n, align := n, absolute := false, copr := false }

/-- LDWAX, LDWAS and STWAS (R409). -/
def DataRef.absoluteWord (kind : Access) : DataRef :=
  { kind := kind, size := 4, align := 4, absolute := true, copr := false }

/-- LDCWX and LDCWS: a word at a 16-byte boundary (R425). -/
def DataRef.semaphore : DataRef :=
  { kind := .semaphore, size := 4, align := 16, absolute := false, copr := false }

/-- A coprocessor's load or store of `n` bytes (R717, R824). -/
def DataRef.coprocessor (kind : Access) (n : Nat) : DataRef :=
  { kind := kind, size := n, align := n, absolute := false, copr := true }

/-! ### What a load returns and a store writes -/

/-- The zero-extended byte at an address. -/
def State.loadByte (st : State) (a : Nat) : Word := zeroExt (st.mem.byteAt a)

/-- The zero-extended halfword at an address, in the order of PSW E. -/
def State.loadHalf (st : State) (a : Nat) : Word := zeroExt (st.mem.half st.pswE a)

/-- The word at an address, in the order of PSW E. -/
def State.loadWord (st : State) (a : Nat) : Word := st.mem.word st.pswE a

/-- The doubleword at an address, in the order of PSW E. -/
def State.loadDword (st : State) (a : Nat) : Dword := st.mem.dword st.pswE a

/-- The bytes of a stored byte, halfword and word, in the order of PSW E. -/
def State.byteOf (_ : State) (v : Word) : List Byte := [v.extractLsb' 0 8]
def State.halfOf (st : State) (v : Word) : List Byte := halfBytes st.pswE (v.extractLsb' 0 16)
def State.wordOf (st : State) (v : Word) : List Byte := wordBytes st.pswE v
def State.dwordOf (st : State) (v : Dword) : List Byte := dwordBytes st.pswE v

/-! ### Branch targets (R482, R483) -/

/-- `IAOQ_Front + disp + 8`: IA relative targets. -/
def State.relative (st : State) (disp : Word) : Word := st.iaoqFront + disp + 8#32

/-- A base relative target: the word part of the sum, with the lower of the two privileges (R483). -/
def State.baseRelative (st : State) (base index : Word) : Word :=
  let pl := if (privOf st.iaoqFront).toNat < (privOf base).toNat then privOf base
    else privOf st.iaoqFront
  field (base + index) 0 30 ++ pl

/-- The link of BL, BLR and BLE: four bytes after the following instruction (R490). -/
def State.link (st : State) : Word := st.iaoqBack + 4#32

/-! ### Shift, extract and deposit (spec/44_shift_extract_deposit.md) -/

/-- The length of a field: `len = 32 - clen` (R601). -/
def fieldLen (clen : BitVec 5) : Nat := 32 - clen.toNat

/-- `rshift(cat(a{1..31}, b), sa){32..63}` (R603). -/
def shiftDouble (a b : Word) (sa : Nat) : Word :=
  ((field a 1 31 ++ b : BitVec 63) >>> sa).setWidth 32

/-- The low `len` bits set. -/
def lowMask (len : Nat) : Word := BitVec.ofNat 32 (2 ^ len - 1)

/-- `VEXTRU`: the field that ends at bit `pos`, extended with zeros (R605). -/
def extractUnsigned (v : Word) (pos len : Nat) : Word := (v >>> (31 - pos)) &&& lowMask len

/-- `VEXTRS`: the field that ends at bit `pos`, sign extended (R606). -/
def extractSigned (v : Word) (pos len : Nat) : Word :=
  ((v.sshiftRight (31 - pos)) <<< (32 - len)).sshiftRight (32 - len)

/-- The bits of the target that a deposit of `len` bits ending at bit `pos` replaces; the part beyond
the left edge is truncated (R609). -/
def depositMask (pos len : Nat) : Word := lowMask len <<< (31 - pos)

/-- Deposit the low `len` bits of `v` into `old` so that they end at bit `pos` (R609 to R616). -/
def deposit (old v : Word) (pos len : Nat) : Word :=
  (old &&& ~~~(depositMask pos len)) ||| ((v <<< (31 - pos)) &&& depositMask pos len)

end Sys2Proof.Machine
end

