-- ==== Sys2Proof/Machine/Flags.lean ====
section
/-!
DEFINITION. Carries, overflow and the conditions (spec/30_encoding.md R330 to R338,
spec/43_arith_logical.md R531, R532, R538, R553, R566).
-/

namespace Sys2Proof.Machine

/-- The carry out of digit `i` of `x + y + cin`, digit 0 leftmost (R531). -/
def digitCarry (x y : Word) (cin : Bool) (i : Nat) : Bool :=
  decide (2 ^ (32 - 4 * i) ≤ x.toNat % 2 ^ (32 - 4 * i) + y.toNat % 2 ^ (32 - 4 * i) + cin.toNat)

/-- `carry_borrows` (R531): bit 0 of the manual is the leftmost. -/
def carryBorrows (x y : Word) (cin : Bool) : BitVec 8 :=
  ofBool1 (digitCarry x y cin 0) ++ ofBool1 (digitCarry x y cin 1) ++ ofBool1 (digitCarry x y cin 2)
    ++ ofBool1 (digitCarry x y cin 3) ++ ofBool1 (digitCarry x y cin 4)
    ++ ofBool1 (digitCarry x y cin 5) ++ ofBool1 (digitCarry x y cin 6)
    ++ ofBool1 (digitCarry x y cin 7)

/-- `x + y + cin` in 32 bits. -/
def addWith (x y : Word) (cin : Bool) : Word := x + y + (if cin then 1#32 else 0#32)

/-- Signed overflow of `x + y + cin` (R332, R532). -/
def signedOverflow (x y : Word) (cin : Bool) : Bool :=
  mbit ((x ^^^ addWith x y cin) &&& (y ^^^ addWith x y cin)) 0

/-- What an arithmetic operation produces: the result, the digit carries, signed overflow, and the
truth of row 4 of Table 5-1 (adds: no unsigned overflow; subtracts: unsigned overflow). -/
structure Sum where
  res : Word
  cb : BitVec 8
  sv : Bool
  row4 : Bool
deriving DecidableEq, Repr

/-- The adder of R531 with the flags of R532. -/
def adder (x y : Word) (cin : Bool) : Sum :=
  { res := addWith x y cin
    cb := carryBorrows x y cin
    sv := signedOverflow x y cin
    row4 := !digitCarry x y cin 0 }

/-- `a - b` as `a + ~b + 1` (R531). -/
def subtract (a b : Word) : Sum := adder a (~~~b) true

/-- Table 5-1 (R331). -/
def arithBase (c : BitVec 3) (x : Sum) : Bool :=
  match c.toNat with
  | 0 => false
  | 1 => x.res == 0#32
  | 2 => Bool.xor (mbit x.res 0) x.sv
  | 3 => x.res == 0#32 || Bool.xor (mbit x.res 0) x.sv
  | 4 => x.row4
  | 5 => x.res == 0#32 || x.row4
  | 6 => x.sv
  | _ => mbit x.res 31

/-- `cond_satisfied` for the arithmetic instructions: `f` negates (R330). -/
def arithCond (c : BitVec 3) (f : BitVec 1) (x : Sum) : Bool := Bool.xor (arithBase c x) (isOne f)

/-- Table 5-7, the shift, extract and deposit conditions (R337). -/
def extractCond (c : BitVec 3) (res : Word) : Bool :=
  match c.toNat with
  | 0 => false
  | 1 => res == 0#32
  | 2 => mbit res 0
  | 3 => mbit res 31
  | 4 => true
  | 5 => res != 0#32
  | 6 => !mbit res 0
  | _ => !mbit res 31

/-- Table 5-5, the logical conditions; with c = 4, 5, 6 the condition is a free value (R335, U10). -/
def State.logicCond (s : State) (c : BitVec 3) (f : BitVec 1) (res : Word) : Bool × State :=
  if c = 4#3 ∨ c = 5#3 ∨ c = 6#3 then s.drawBit
  else (Bool.xor (arithBase c { res := res, cb := 0, sv := false, row4 := false }) (isOne f), s)

/-- Some byte of the word is zero. -/
def someByteZero (w : Word) : Bool :=
  field w 0 8 == 0#8 || field w 8 8 == 0#8 || field w 16 8 == 0#8 || field w 24 8 == 0#8

/-- Some halfword of the word is zero. -/
def someHalfZero (w : Word) : Bool := field w 0 16 == 0#16 || field w 16 16 == 0#16

/-- Table 5-6, the unit conditions on the result and the eight digit carries; `none` for the unlisted
values (R336). -/
def unitBase (c : BitVec 3) (res : Word) (cy : BitVec 8) : Option Bool :=
  match c.toNat with
  | 0 => some false
  | 2 => some (someByteZero res)
  | 3 => some (someHalfZero res)
  | 4 => some (cy != 0#8)
  | 6 => some (cy &&& 0xAA#8 != 0#8)
  | 7 => some (cy &&& 0x88#8 != 0#8)
  | _ => none

/-- A unit condition; an undefined one is a free value (U10). -/
def State.unitCond (s : State) (c : BitVec 3) (f : BitVec 1) (res : Word) (cy : BitVec 8) :
    Bool × State :=
  match unitBase c res cy with
  | some b => (Bool.xor b (isOne f), s)
  | none => s.drawBit

/-- The conditions of UXOR, which has no carries: only c = 0, 2, 3 are defined (R567, U10). -/
def State.xorCond (s : State) (c : BitVec 3) (f : BitVec 1) (res : Word) : Bool × State :=
  if c = 0#3 ∨ c = 2#3 ∨ c = 3#3 then s.unitCond c f res 0#8 else s.drawBit

/-- What a pre-shift loses: its signed and its unsigned overflow (R538, R553). -/
structure Shifted where
  value : Word
  sv : Bool
  uv : Bool
deriving DecidableEq, Repr

/-- `lshift(w, n)` with the overflow of the shift: some bit shifted out differs from the leftmost
bit after the shift; some bit shifted out is 1 (R538). -/
def preShift (w : Word) (n : Nat) : Shifted :=
  { value := w <<< n
    sv := (w <<< n).sshiftRight n != w
    uv := w >>> (32 - n) != 0#32 }

/-- The add of a shift-and-add instruction, with the shift's overflow (R538). -/
def shiftAdd (sh : Shifted) (y : Word) : Sum :=
  let x := adder sh.value y false
  { x with sv := sh.sv || x.sv, row4 := !sh.uv && x.row4 }

/-- `cat(lshift(GR[r1],1), PSW[C/B]{0})` of DS, with the overflow of the shift (R553). -/
def divideShift (w : Word) (bit : Bool) : Shifted :=
  { value := (w <<< 1) ||| (if bit then 1#32 else 0#32)
    sv := Bool.xor (mbit w 0) (mbit w 1)
    uv := mbit w 0 }

/-- The add or subtract of a divide step: subtract when PSW V is 1 (R553). Row 4 of Table 5-1 reads
"unsigned overflow" for the subtract, "no unsigned overflow" for the add. -/
def divideAdd (sh : Shifted) (y : Word) (v : Bool) : Sum :=
  let x := if v then adder sh.value (~~~y) true else adder sh.value y false
  { x with
    sv := sh.sv || x.sv
    row4 := if v then sh.uv || x.row4 else !sh.uv && x.row4 }

/-- `cond_satisfied` of a shift-and-add or divide step: with condition 2 or 3, when the shift
overflows, whether its overflow takes part is a free choice (R338, U11). `plain` is the sum with the
adder's own overflow. -/
def State.shiftCond (s : State) (c : BitVec 3) (f : BitVec 1) (sh : Shifted) (full plain : Sum) :
    Bool × State :=
  if sh.sv ∧ (c = 2#3 ∨ c = 3#3) then
    (arithCond c f (if Config.freeBit s.draws then full else plain),
      { s with draws := s.draws + 1 })
  else (arithCond c f full, s)

/-- The word whose digit `i` is 6 when bit `i` of `cb` is 1 (R570, R571). -/
def sixes (cb : BitVec 8) : Word :=
  let d (i : Nat) : BitVec 4 := if cb.getLsbD i then 6#4 else 0#4
  d 7 ++ d 6 ++ d 5 ++ d 4 ++ d 3 ++ d 2 ++ d 1 ++ d 0

end Sys2Proof.Machine
end

