-- ==== Sys2Proof/Machine/Arith.lean ====
section
/-!
DEFINITION. The arithmetic, logical and unit instructions (spec/43_arith_logical.md).
-/

namespace Sys2Proof.Machine

/-! ### Shared completions (R532) -/

/-- Write the result and the carry/borrow bits; nullify when `cond`. -/
def finishSum (s : State) (t : Reg) (x : Sum) (cond : Bool) : Out :=
  doneNullify s ((s.setGr t x.res).setCB x.cb) cond

/-- The same with a trap on signed overflow (12), before anything is written. -/
def finishSumO (s : State) (t : Reg) (x : Sum) (cond : Bool) : Out :=
  if x.sv then trapInstr 12 s else finishSum s t x cond

/-- Write the result only; nullify when `cond`. -/
def finishWord (s0 s : State) (t : Reg) (res : Word) (cond : Bool) : Out :=
  doneNullify s0 (s.setGr t res) cond

/-- Trap when `cond` (13); otherwise write the result and the carry/borrow bits. -/
def finishSumT (s : State) (t : Reg) (x : Sum) (cond : Bool) : Out :=
  if cond then trapInstr 13 s else done s ((s.setGr t x.res).setCB x.cb)

/-- The leftmost carry/borrow bit, the carry in of ADDC and SUBB (R536, R549). -/
def State.carryIn (s : State) : Bool := mbit s.psw 16

/-- Completion of a shift-and-add instruction: its condition may need a free choice (R338). -/
def finishShift (s : State) (c : BitVec 3) (f : BitVec 1) (n : Nat) (a b : Word)
    (k : State → Sum → Bool → Out) : Out :=
  let sh := preShift a n
  let x := shiftAdd sh b
  let cond := s.shiftCond c f sh x { x with sv := (adder sh.value b false).sv }
  k cond.2 x cond.1

/-! ### Adds -/

/-- ADD (R533). -/
def execAdd (r2 r1 : Reg) (c : BitVec 3) (f : BitVec 1) (t : Reg) (s : State) : Out :=
  let x := adder (s.gr r1) (s.gr r2) false
  finishSum s t x (arithCond c f x)

/-- ADDL (R534). -/
def execAddl (r2 r1 : Reg) (c : BitVec 3) (f : BitVec 1) (t : Reg) (s : State) : Out :=
  let x := adder (s.gr r1) (s.gr r2) false
  finishWord s s t x.res (arithCond c f x)

/-- ADDO (R535). -/
def execAddo (r2 r1 : Reg) (c : BitVec 3) (f : BitVec 1) (t : Reg) (s : State) : Out :=
  let x := adder (s.gr r1) (s.gr r2) false
  finishSumO s t x (arithCond c f x)

/-- ADDC (R536). -/
def execAddc (r2 r1 : Reg) (c : BitVec 3) (f : BitVec 1) (t : Reg) (s : State) : Out :=
  let x := adder (s.gr r1) (s.gr r2) s.carryIn
  finishSum s t x (arithCond c f x)

/-- ADDCO (R537). -/
def execAddco (r2 r1 : Reg) (c : BitVec 3) (f : BitVec 1) (t : Reg) (s : State) : Out :=
  let x := adder (s.gr r1) (s.gr r2) s.carryIn
  finishSumO s t x (arithCond c f x)

/-! ### Shift and add (R538): with `free` the state after a free choice of the condition -/

/-- SH1ADD (R538). -/
def execSh1add (r2 r1 : Reg) (c : BitVec 3) (f : BitVec 1) (t : Reg) (s : State) : Out :=
  finishShift s c f 1 (s.gr r1) (s.gr r2) fun free x cond =>
    doneNullify s ((free.setGr t x.res).setCB x.cb) cond

/-- SH1ADDL (R539). -/
def execSh1addl (r2 r1 : Reg) (c : BitVec 3) (f : BitVec 1) (t : Reg) (s : State) : Out :=
  finishShift s c f 1 (s.gr r1) (s.gr r2) fun free x cond =>
    finishWord s free t x.res cond

/-- SH1ADDO (R540): the overflow of the shift traps too. -/
def execSh1addo (r2 r1 : Reg) (c : BitVec 3) (f : BitVec 1) (t : Reg) (s : State) : Out :=
  finishShift s c f 1 (s.gr r1) (s.gr r2) fun free x cond =>
    if x.sv then trapInstr 12 s else doneNullify s ((free.setGr t x.res).setCB x.cb) cond

/-- SH2ADD (R541). -/
def execSh2add (r2 r1 : Reg) (c : BitVec 3) (f : BitVec 1) (t : Reg) (s : State) : Out :=
  finishShift s c f 2 (s.gr r1) (s.gr r2) fun free x cond =>
    doneNullify s ((free.setGr t x.res).setCB x.cb) cond

/-- SH2ADDL (R542). -/
def execSh2addl (r2 r1 : Reg) (c : BitVec 3) (f : BitVec 1) (t : Reg) (s : State) : Out :=
  finishShift s c f 2 (s.gr r1) (s.gr r2) fun free x cond =>
    finishWord s free t x.res cond

/-- SH2ADDO (R543): the overflow of the shift traps too. -/
def execSh2addo (r2 r1 : Reg) (c : BitVec 3) (f : BitVec 1) (t : Reg) (s : State) : Out :=
  finishShift s c f 2 (s.gr r1) (s.gr r2) fun free x cond =>
    if x.sv then trapInstr 12 s else doneNullify s ((free.setGr t x.res).setCB x.cb) cond

/-- SH3ADD (R544). -/
def execSh3add (r2 r1 : Reg) (c : BitVec 3) (f : BitVec 1) (t : Reg) (s : State) : Out :=
  finishShift s c f 3 (s.gr r1) (s.gr r2) fun free x cond =>
    doneNullify s ((free.setGr t x.res).setCB x.cb) cond

/-- SH3ADDL (R545). -/
def execSh3addl (r2 r1 : Reg) (c : BitVec 3) (f : BitVec 1) (t : Reg) (s : State) : Out :=
  finishShift s c f 3 (s.gr r1) (s.gr r2) fun free x cond =>
    finishWord s free t x.res cond

/-- SH3ADDO (R546): the overflow of the shift traps too. -/
def execSh3addo (r2 r1 : Reg) (c : BitVec 3) (f : BitVec 1) (t : Reg) (s : State) : Out :=
  finishShift s c f 3 (s.gr r1) (s.gr r2) fun free x cond =>
    if x.sv then trapInstr 12 s else doneNullify s ((free.setGr t x.res).setCB x.cb) cond

/-! ### Subtracts, divide step, compare and clear -/

/-- SUB (R547). -/
def execSub (r2 r1 : Reg) (c : BitVec 3) (f : BitVec 1) (t : Reg) (s : State) : Out :=
  let x := subtract (s.gr r1) (s.gr r2)
  finishSum s t x (arithCond c f x)

/-- SUBO (R548). -/
def execSubo (r2 r1 : Reg) (c : BitVec 3) (f : BitVec 1) (t : Reg) (s : State) : Out :=
  let x := subtract (s.gr r1) (s.gr r2)
  finishSumO s t x (arithCond c f x)

/-- SUBB (R549). -/
def execSubb (r2 r1 : Reg) (c : BitVec 3) (f : BitVec 1) (t : Reg) (s : State) : Out :=
  let x := adder (s.gr r1) (~~~(s.gr r2)) s.carryIn
  finishSum s t x (arithCond c f x)

/-- SUBBO (R550). -/
def execSubbo (r2 r1 : Reg) (c : BitVec 3) (f : BitVec 1) (t : Reg) (s : State) : Out :=
  let x := adder (s.gr r1) (~~~(s.gr r2)) s.carryIn
  finishSumO s t x (arithCond c f x)

/-- SUBT (R551). -/
def execSubt (r2 r1 : Reg) (c : BitVec 3) (f : BitVec 1) (t : Reg) (s : State) : Out :=
  let x := subtract (s.gr r1) (s.gr r2)
  finishSumT s t x (arithCond c f x)

/-- SUBTO (R552). -/
def execSubto (r2 r1 : Reg) (c : BitVec 3) (f : BitVec 1) (t : Reg) (s : State) : Out :=
  let x := subtract (s.gr r1) (s.gr r2)
  if x.sv then trapInstr 12 s else finishSumT s t x (arithCond c f x)

/-- DS (R553): subtract when PSW V is 1, add when it is 0; V becomes the leftmost carry xor the divisor's
sign. The condition may need a free choice (R338). -/
def execDs (r2 r1 : Reg) (c : BitVec 3) (f : BitVec 1) (t : Reg) (s : State) : Out :=
  let sh := divideShift (s.gr r1) s.carryIn
  let y := s.gr r2
  let x := divideAdd sh y s.pswV
  let plainSv := if s.pswV then (adder sh.value (~~~y) true).sv else (adder sh.value y false).sv
  let cond := s.shiftCond c f sh x { x with sv := plainSv }
  doneNullify s (((cond.2.setGr t x.res).setCB x.cb).setV (Bool.xor (x.cb.getLsbD 7) (mbit y 0)))
    cond.1

/-- COMCLR (R554). -/
def execComclr (r2 r1 : Reg) (c : BitVec 3) (f : BitVec 1) (t : Reg) (s : State) : Out :=
  let x := subtract (s.gr r1) (s.gr r2)
  finishWord s s t 0#32 (arithCond c f x)

/-! ### Logical -/

/-- OR (R555). -/
def execOr (r2 r1 : Reg) (c : BitVec 3) (f : BitVec 1) (t : Reg) (s : State) : Out :=
  let res := s.gr r1 ||| s.gr r2
  let cond := s.logicCond c f res
  finishWord s cond.2 t res cond.1

/-- XOR (R556). -/
def execXor (r2 r1 : Reg) (c : BitVec 3) (f : BitVec 1) (t : Reg) (s : State) : Out :=
  let res := s.gr r1 ^^^ s.gr r2
  let cond := s.logicCond c f res
  finishWord s cond.2 t res cond.1

/-- AND (R557). -/
def execAnd (r2 r1 : Reg) (c : BitVec 3) (f : BitVec 1) (t : Reg) (s : State) : Out :=
  let res := s.gr r1 &&& s.gr r2
  let cond := s.logicCond c f res
  finishWord s cond.2 t res cond.1

/-- ANDCM (R558). -/
def execAndcm (r2 r1 : Reg) (c : BitVec 3) (f : BitVec 1) (t : Reg) (s : State) : Out :=
  let res := s.gr r1 &&& ~~~(s.gr r2)
  let cond := s.logicCond c f res
  finishWord s cond.2 t res cond.1

/-! ### Immediate arithmetic -/

/-- ADDI (R559). -/
def execAddi (r t : Reg) (c : BitVec 3) (f : BitVec 1) (im11 : BitVec 11) (s : State) : Out :=
  let x := adder (lowSignExt11 im11) (s.gr r) false
  finishSum s t x (arithCond c f x)

/-- ADDIO (R560). -/
def execAddio (r t : Reg) (c : BitVec 3) (f : BitVec 1) (im11 : BitVec 11) (s : State) : Out :=
  let x := adder (lowSignExt11 im11) (s.gr r) false
  finishSumO s t x (arithCond c f x)

/-- ADDIT (R561). -/
def execAddit (r t : Reg) (c : BitVec 3) (f : BitVec 1) (im11 : BitVec 11) (s : State) : Out :=
  let x := adder (lowSignExt11 im11) (s.gr r) false
  finishSumT s t x (arithCond c f x)

/-- ADDITO (R562). -/
def execAddito (r t : Reg) (c : BitVec 3) (f : BitVec 1) (im11 : BitVec 11) (s : State) : Out :=
  let x := adder (lowSignExt11 im11) (s.gr r) false
  if x.sv then trapInstr 12 s else finishSumT s t x (arithCond c f x)

/-- SUBI (R563). -/
def execSubi (r t : Reg) (c : BitVec 3) (f : BitVec 1) (im11 : BitVec 11) (s : State) : Out :=
  let x := subtract (lowSignExt11 im11) (s.gr r)
  finishSum s t x (arithCond c f x)

/-- SUBIO (R564). -/
def execSubio (r t : Reg) (c : BitVec 3) (f : BitVec 1) (im11 : BitVec 11) (s : State) : Out :=
  let x := subtract (lowSignExt11 im11) (s.gr r)
  finishSumO s t x (arithCond c f x)

/-- COMICLR (R565). -/
def execComiclr (r t : Reg) (c : BitVec 3) (f : BitVec 1) (im11 : BitVec 11) (s : State) : Out :=
  let x := subtract (lowSignExt11 im11) (s.gr r)
  finishWord s s t 0#32 (arithCond c f x)

/-! ### Unit instructions (R566) -/

/-- UXOR (R567). -/
def execUxor (r2 r1 : Reg) (c : BitVec 3) (f : BitVec 1) (t : Reg) (s : State) : Out :=
  let res := s.gr r1 ^^^ s.gr r2
  let cond := s.xorCond c f res
  finishWord s cond.2 t res cond.1

/-- UADDCM (R568): no carry in. -/
def execUaddcm (r2 r1 : Reg) (c : BitVec 3) (f : BitVec 1) (t : Reg) (s : State) : Out :=
  let x := adder (s.gr r1) (~~~(s.gr r2)) false
  let cond := s.unitCond c f x.res x.cb
  finishWord s cond.2 t x.res cond.1

/-- UADDCMT (R569). -/
def execUaddcmt (r2 r1 : Reg) (c : BitVec 3) (f : BitVec 1) (t : Reg) (s : State) : Out :=
  let x := adder (s.gr r1) (~~~(s.gr r2)) false
  let cond := s.unitCond c f x.res x.cb
  if cond.1 then trapInstr 13 cond.2 else done s (cond.2.setGr t x.res)

/-- DCOR (R570): 6 is subtracted from each digit whose carry/borrow bit is 0. -/
def execDcor (r : Reg) (c : BitVec 3) (f : BitVec 1) (t : Reg) (s : State) : Out :=
  let x := subtract (s.gr r) (sixes (~~~s.pswCB))
  let cond := s.unitCond c f x.res x.cb
  finishWord s cond.2 t x.res cond.1

/-- IDCOR (R571): 6 is added to each digit whose carry/borrow bit is 1. -/
def execIdcor (r : Reg) (c : BitVec 3) (f : BitVec 1) (t : Reg) (s : State) : Out :=
  let x := adder (s.gr r) (sixes s.pswCB) false
  let cond := s.unitCond c f x.res x.cb
  finishWord s cond.2 t x.res cond.1

end Sys2Proof.Machine
end

