-- ==== Sys2Proof/Machine/Branch.lean ====
section
/-!
DEFINITION. The branch instructions (spec/42_branch.md).
-/

namespace Sys2Proof.Machine

/-! ### Shared forms -/

/-- Completion of an unconditional branch: always taken, nullifying when `n` (R484, R491). -/
def jump (s0 s1 : State) (n : BitVec 1) (target : Target) : Out :=
  .next (complete s0 s1 (isOne n) (some target))

/-- Completion of a conditional branch: the target is IA relative; with `n`, a backward branch
nullifies when not taken, a forward one when taken (R491, R494). -/
def branchIf (s0 s1 : State) (taken : Bool) (w1 : BitVec 11) (n w : BitVec 1) : Out :=
  let disp := branchDisp12 w1 w
  let nullify := isOne n && (if disp.slt 0#32 then !taken else taken)
  .next (complete s0 s1 nullify
    (if taken then some { offset := s0.relative disp, space := none } else none))

/-- The space of an external branch's target: nonexistent in Level 0, a free value while PSW C = 0
(R488, R515, U42). -/
def State.externalSpace (st : State) (sf : BitVec 3) : Option Word :=
  if st.level0 then none
  else if st.pswC then some (st.sr (assemble3 sf)) else some (Config.freeWord st.draws)

/-! ### Unconditional branches -/

/-- BL (R484). -/
def execBl (t : Reg) (w1 : BitVec 5) (w2 : BitVec 11) (n w : BitVec 1) (st : State) : Out :=
  jump st (st.setGr t st.link) n { offset := st.relative (branchDisp17 w1 w2 w), space := none }

/-- The privilege level of a gateway's target (R485): PSW C = 0 gives 0; otherwise the page type,
when it is a gateway type, may promote. The page's entry is the one its fetch used. -/
def gatePriv (st : State) : BitVec 2 :=
  if st.pswC then
    match tlbValid st.cfg (st.tlb true) st.iasqFront (vpnOf st.fetchOffset) with
    | some e =>
      if (arType e).toNat ≤ 3 then st.priv
      else if ((arType e).extractLsb' 0 2 : BitVec 2).toNat < st.priv.toNat then
        (arType e).extractLsb' 0 2
      else st.priv
    | none => st.priv
  else 0#2

/-- GATE (R485). -/
def execGate (t : Reg) (w1 : BitVec 5) (w2 : BitVec 11) (n w : BitVec 1) (st : State) : Out :=
  if st.pswB then trapInstr 8 st
  else
    jump st (st.setGr t (field (st.gr t) 0 30 ++ st.priv)) n
      { offset := field (st.relative (branchDisp17 w1 w2 w)) 0 30 ++ gatePriv st, space := none }

/-- BLR (R486). -/
def execBlr (t x : Reg) (n : BitVec 1) (st : State) : Out :=
  jump st (st.setGr t st.link) n { offset := st.relative (st.gr x <<< 3), space := none }

/-- BV (R487). -/
def execBv (b x : Reg) (n : BitVec 1) (st : State) : Out :=
  jump st st n { offset := st.baseRelative (st.gr b) (st.gr x <<< 3), space := none }

/-- BE (R488). -/
def execBe (b : Reg) (w1 : BitVec 5) (s : BitVec 3) (w2 : BitVec 11) (n w : BitVec 1) (st : State) :
    Out :=
  jump st { st with draws := st.draws + 1 } n
    { offset := st.baseRelative (st.gr b) (branchDisp17 w1 w2 w), space := st.externalSpace s }

/-- BLE (R489): the link goes to GR 31, the space of the following instruction to SR 0; with PSW C = 0
what SR 0 receives is a free value (U42). -/
def execBle (b : Reg) (w1 : BitVec 5) (s : BitVec 3) (w2 : BitVec 11) (n w : BitVec 1) (st : State) :
    Out :=
  let space := if st.pswC then st.iasqBack else Config.freeWord (st.draws + 1)
  jump st { ((st.setGr 31#5 st.link).setSr 0#3 space) with draws := st.draws + 2 } n
    { offset := st.baseRelative (st.gr b) (branchDisp17 w1 w2 w), space := st.externalSpace s }

/-! ### Conditional branches (R494) -/

/-- MOVB (R500). -/
def execMovb (r2 r1 : Reg) (c : BitVec 3) (w1 : BitVec 11) (n w : BitVec 1) (st : State) : Out :=
  branchIf st (st.setGr r2 (st.gr r1)) (extractCond c (st.gr r1)) w1 n w

/-- MOVIB (R501). -/
def execMovib (r : Reg) (im5 : BitVec 5) (c : BitVec 3) (w1 : BitVec 11) (n w : BitVec 1) (st : State) : Out :=
  branchIf st (st.setGr r (lowSignExt5 im5)) (extractCond c (lowSignExt5 im5)) w1 n w

/-- COMBT (R502). -/
def execCombt (r2 r1 : Reg) (c : BitVec 3) (w1 : BitVec 11) (n w : BitVec 1) (st : State) : Out :=
  branchIf st st (arithBase c (subtract (st.gr r1) (st.gr r2))) w1 n w

/-- COMBF (R503). -/
def execCombf (r2 r1 : Reg) (c : BitVec 3) (w1 : BitVec 11) (n w : BitVec 1) (st : State) : Out :=
  branchIf st st (!arithBase c (subtract (st.gr r1) (st.gr r2))) w1 n w

/-- COMIBT (R504). -/
def execComibt (r : Reg) (im5 : BitVec 5) (c : BitVec 3) (w1 : BitVec 11) (n w : BitVec 1) (st : State) : Out :=
  branchIf st st (arithBase c (subtract (lowSignExt5 im5) (st.gr r))) w1 n w

/-- COMIBF (R505). -/
def execComibf (r : Reg) (im5 : BitVec 5) (c : BitVec 3) (w1 : BitVec 11) (n w : BitVec 1) (st : State) : Out :=
  branchIf st st (!arithBase c (subtract (lowSignExt5 im5) (st.gr r))) w1 n w

/-- ADDBT (R506). -/
def execAddbt (r2 r1 : Reg) (c : BitVec 3) (w1 : BitVec 11) (n w : BitVec 1) (st : State) : Out :=
  let x := adder (st.gr r1) (st.gr r2) false
  branchIf st (st.setGr r2 x.res) (arithBase c x) w1 n w

/-- ADDBF (R507). -/
def execAddbf (r2 r1 : Reg) (c : BitVec 3) (w1 : BitVec 11) (n w : BitVec 1) (st : State) : Out :=
  let x := adder (st.gr r1) (st.gr r2) false
  branchIf st (st.setGr r2 x.res) (!arithBase c x) w1 n w

/-- ADDIBT (R508). -/
def execAddibt (r : Reg) (im5 : BitVec 5) (c : BitVec 3) (w1 : BitVec 11) (n w : BitVec 1) (st : State) : Out :=
  let x := adder (lowSignExt5 im5) (st.gr r) false
  branchIf st (st.setGr r x.res) (arithBase c x) w1 n w

/-- ADDIBF (R509). -/
def execAddibf (r : Reg) (im5 : BitVec 5) (c : BitVec 3) (w1 : BitVec 11) (n w : BitVec 1) (st : State) : Out :=
  let x := adder (lowSignExt5 im5) (st.gr r) false
  branchIf st (st.setGr r x.res) (!arithBase c x) w1 n w

/-- The condition of BB and BVB on the tested bit: `<` (c = 2), `>=` (c = 6); with another `c` a free
value (R510, R511, U36). -/
def State.bitCond (st : State) (c : BitVec 3) (bit : Bool) : Bool × State :=
  if c = 2#3 then (bit, st) else if c = 6#3 then (!bit, st) else st.drawBit

/-- BVB (R510): the bit that the Shift Amount Register selects. -/
def execBvb (r : Reg) (c : BitVec 3) (w1 : BitVec 11) (n w : BitVec 1) (st : State) : Out :=
  let taken := st.bitCond c (mbit (st.gr r) st.sar.toNat)
  branchIf st taken.2 taken.1 w1 n w

/-- BB (R511). -/
def execBb (p : BitVec 5) (r : Reg) (c : BitVec 3) (w1 : BitVec 11) (n w : BitVec 1) (st : State) :
    Out :=
  let taken := st.bitCond c (mbit (st.gr r) p.toNat)
  branchIf st taken.2 taken.1 w1 n w

end Sys2Proof.Machine
end

