-- ==== Sys2Proof/Machine/Immediate.lean ====
section
/-!
DEFINITION. The immediate instructions (spec/41_immediate.md).
-/

namespace Sys2Proof.Machine

/-- LDO (R471). -/
def execLdo (b t : Reg) (im14 : BitVec 14) (st : State) : Out :=
  done st (st.setGr t (st.gr b + lowSignExt14 im14))

/-- LDIL (R472). -/
def execLdil (t : Reg) (im21 : BitVec 21) (st : State) : Out :=
  done st (st.setGr t (longImm21 im21))

/-- ADDIL (R473): the target is GR 1. -/
def execAddil (r : Reg) (im21 : BitVec 21) (st : State) : Out :=
  done st (st.setGr 1#5 (longImm21 im21 + st.gr r))

end Sys2Proof.Machine
end

