-- ==== Sys2Proof/Machine/MemoryRef.lean ====
section
/-!
DEFINITION. The memory reference instructions (spec/40_memory_reference.md): loads, stores,
load-and-clear and store bytes.
-/

namespace Sys2Proof.Machine

/-! ### Shared forms (R403, R410) -/

/-- A load: the checks, the value, then the base update, then the target, so that with `b = t` the
load wins (R410 (1)). -/
def load (s0 : State) (ref : DataRef) (ea : Ea) (b t : Reg) (value : State → Nat → Word) : Out :=
  s0.access ref ea.space ea.offset fun s a =>
    done s0 ((s.modifyBase b ea.base).setGr t (value s a))

/-- A store of bytes computed before the base update (R407, R410 (1)). -/
def store (s0 : State) (ref : DataRef) (ea : Ea) (b : Reg) (bytes : List Byte) : Out :=
  s0.access ref ea.space ea.offset fun s a => done s0 ((s.storeBytes a bytes).modifyBase b ea.base)

/-- The load-and-clear semaphore operation (R425): with no other agent, indivisible. -/
def loadAndClear (s0 : State) (ea : Ea) (b t : Reg) : Out :=
  s0.access .semaphore ea.space ea.offset fun s a =>
    done s0 (((s.storeBytes a (s.wordOf 0#32)).modifyBase b ea.base).setGr t (s.loadWord a))

/-! ### Long displacement -/

/-- LDW (R412). -/
def execLdw (b t : Reg) (s : BitVec 2) (im14 : BitVec 14) (st : State) : Out :=
  load st (.plain .load 4) (longEa st b s im14) b t State.loadWord

/-- LDH (R413). -/
def execLdh (b t : Reg) (s : BitVec 2) (im14 : BitVec 14) (st : State) : Out :=
  load st (.plain .load 2) (longEa st b s im14) b t State.loadHalf

/-- LDB (R414). -/
def execLdb (b t : Reg) (s : BitVec 2) (im14 : BitVec 14) (st : State) : Out :=
  load st (.plain .load 1) (longEa st b s im14) b t State.loadByte

/-- LDWM (R418). -/
def execLdwm (b t : Reg) (s : BitVec 2) (im14 : BitVec 14) (st : State) : Out :=
  load st (.plain .load 4) (longModifyEa st b s im14) b t State.loadWord

/-- STW (R415). -/
def execStw (b r : Reg) (s : BitVec 2) (im14 : BitVec 14) (st : State) : Out :=
  store st (.plain .store 4) (longEa st b s im14) b (st.wordOf (st.gr r))

/-- STH (R416). -/
def execSth (b r : Reg) (s : BitVec 2) (im14 : BitVec 14) (st : State) : Out :=
  store st (.plain .store 2) (longEa st b s im14) b (st.halfOf (st.gr r))

/-- STB (R417). -/
def execStb (b r : Reg) (s : BitVec 2) (im14 : BitVec 14) (st : State) : Out :=
  store st (.plain .store 1) (longEa st b s im14) b (st.byteOf (st.gr r))

/-- STWM (R419). -/
def execStwm (b r : Reg) (s : BitVec 2) (im14 : BitVec 14) (st : State) : Out :=
  store st (.plain .store 4) (longModifyEa st b s im14) b (st.wordOf (st.gr r))

/-! ### Indexed -/

/-- LDWX (R420). -/
def execLdwx (b x : Reg) (s : BitVec 2) (u : BitVec 1) (_cc : BitVec 2) (m : BitVec 1) (t : Reg) (st : State) : Out :=
  load st (.plain .load 4) (indexedEa st b x s u m 2) b t State.loadWord

/-- LDHX (R421). -/
def execLdhx (b x : Reg) (s : BitVec 2) (u : BitVec 1) (_cc : BitVec 2) (m : BitVec 1) (t : Reg) (st : State) : Out :=
  load st (.plain .load 2) (indexedEa st b x s u m 1) b t State.loadHalf

/-- LDBX (R422). -/
def execLdbx (b x : Reg) (s : BitVec 2) (u : BitVec 1) (_cc : BitVec 2) (m : BitVec 1) (t : Reg) (st : State) : Out :=
  load st (.plain .load 1) (indexedEa st b x s u m 0) b t State.loadByte

/-- LDCWX (R424): the index shift is three. -/
def execLdcwx (b x : Reg) (s : BitVec 2) (u : BitVec 1) (_cc : BitVec 2) (m : BitVec 1) (t : Reg) (st : State) : Out :=
  loadAndClear st (indexedEa st b x s u m 3) b t

/-- LDWAX (R423). -/
def execLdwax (b x : Reg) (u : BitVec 1) (_cc : BitVec 2) (m : BitVec 1) (t : Reg) (st : State) : Out :=
  privileged st (load st (.absoluteWord .load) (indexedEa st b x 0#2 u m 2) b t State.loadWord)

/-! ### Short displacement -/

/-- LDWS (R426). -/
def execLdws (b : Reg) (im5 : BitVec 5) (s : BitVec 2) (a : BitVec 1) (_cc : BitVec 2) (m : BitVec 1) (t : Reg) (st : State) : Out :=
  load st (.plain .load 4) (shortEa st b im5 s a m) b t State.loadWord

/-- LDHS (R427). -/
def execLdhs (b : Reg) (im5 : BitVec 5) (s : BitVec 2) (a : BitVec 1) (_cc : BitVec 2) (m : BitVec 1) (t : Reg) (st : State) : Out :=
  load st (.plain .load 2) (shortEa st b im5 s a m) b t State.loadHalf

/-- LDBS (R428). -/
def execLdbs (b : Reg) (im5 : BitVec 5) (s : BitVec 2) (a : BitVec 1) (_cc : BitVec 2) (m : BitVec 1) (t : Reg) (st : State) : Out :=
  load st (.plain .load 1) (shortEa st b im5 s a m) b t State.loadByte

/-- LDCWS (R430). -/
def execLdcws (b : Reg) (im5 : BitVec 5) (s : BitVec 2) (a : BitVec 1) (_cc : BitVec 2) (m : BitVec 1) (t : Reg) (st : State) : Out :=
  loadAndClear st (shortEa st b im5 s a m) b t

/-- LDWAS (R429). -/
def execLdwas (b : Reg) (im5 : BitVec 5) (a : BitVec 1) (_cc : BitVec 2) (m : BitVec 1) (t : Reg) (st : State) : Out :=
  privileged st (load st (.absoluteWord .load) (shortEa st b im5 0#2 a m) b t State.loadWord)

/-- STWS (R431). -/
def execStws (b r : Reg) (s : BitVec 2) (a : BitVec 1) (_cc : BitVec 2) (m : BitVec 1) (im5 : BitVec 5) (st : State) : Out :=
  store st (.plain .store 4) (shortEa st b im5 s a m) b (st.wordOf (st.gr r))

/-- STHS (R433). -/
def execSths (b r : Reg) (s : BitVec 2) (a : BitVec 1) (_cc : BitVec 2) (m : BitVec 1) (im5 : BitVec 5) (st : State) : Out :=
  store st (.plain .store 2) (shortEa st b im5 s a m) b (st.halfOf (st.gr r))

/-- STBS (R434). -/
def execStbs (b r : Reg) (s : BitVec 2) (a : BitVec 1) (_cc : BitVec 2) (m : BitVec 1) (im5 : BitVec 5) (st : State) : Out :=
  store st (.plain .store 1) (shortEa st b im5 s a m) b (st.byteOf (st.gr r))

/-- STWAS (R435). -/
def execStwas (b r : Reg) (a : BitVec 1) (_cc : BitVec 2) (m : BitVec 1) (im5 : BitVec 5) (st : State) : Out :=
  privileged st (store st (.absoluteWord .store) (shortEa st b im5 0#2 a m) b
    (st.wordOf (st.gr r)))

/-- The bytes that STBYS stores and where, from the word address on: with `k` the byte position, the
beginning case stores at `k..3`, the ending case at `0..k-1`; every byte is the one a whole word store
would put there (R432). -/
def partialBytes (word : List Byte) (ending : Bool) (k : Nat) : Nat × List Byte :=
  if ending then (0, word.take k) else (k, word.drop k)

/-- STBYS (R432). The checks are made for the word; IOR receives the whole offset. -/
def execStbys (b r : Reg) (s : BitVec 2) (a : BitVec 1) (_cc : BitVec 2) (m : BitVec 1)
    (im5 : BitVec 5) (st : State) : Out :=
  let ea := bytesEa st b im5 s a m
  let part := partialBytes (st.wordOf (st.gr r)) (isOne a) (ea.offset &&& 3#32).toNat
  st.accessAs (.plain .store 4) ea.space (ea.offset &&& 0xFFFFFFFC#32) ea.offset fun s' addr =>
    done st ((s'.storeBytes (addr + part.1) part.2).modifyBase b ea.base)

end Sys2Proof.Machine
end

