-- ==== Sys2Proof/Machine/FpArith.lean ====
section
/-!
DEFINITION. Floating-point values and arithmetic (spec/47_fp_state.md R750 to R806): an operand or a
result is the number that its bits spell; arithmetic is exact, then rounded once.
-/

namespace Sys2Proof

/-! ### Formats (R750, R751) -/

/-- The width of the exponent field. -/
def FpFmt.ebits : FpFmt → Nat
  | .sgl => 8
  | .dbl => 11
  | .quad => 15

/-- The width of the fraction field, `p - 1`. -/
def FpFmt.fbits : FpFmt → Nat
  | .sgl => 23
  | .dbl => 52
  | .quad => 112

/-- The width of the format. -/
def FpFmt.width (f : FpFmt) : Nat := 1 + f.ebits + f.fbits

/-- The exponent bias, which is also Emax. -/
def FpFmt.bias : FpFmt → Int
  | .sgl => 127
  | .dbl => 1023
  | .quad => 16383

/-- Emin. -/
def FpFmt.emin (f : FpFmt) : Int := 1 - f.bias

/-- The bias adjustment `a` of trapped overflows and underflows (R792). -/
def FpFmt.adjust : FpFmt → Int
  | .sgl => 192
  | .dbl => 1536
  | .quad => 24576

/-- The largest exponent field: all ones. -/
def FpFmt.emask (f : FpFmt) : Nat := 2 ^ f.ebits - 1

end Sys2Proof

namespace Sys2Proof.Machine

/-! ### Fields and values (R750, R752, R753) -/

/-- The sign bit, the exponent field and the fraction. -/
def fpSign (f : FpFmt) (x : Nat) : Bool := x.testBit (f.width - 1)
def fpExpField (f : FpFmt) (x : Nat) : Nat := x >>> f.fbits % 2 ^ f.ebits
def fpFrac (f : FpFmt) (x : Nat) : Nat := x % 2 ^ f.fbits

/-- The bits with a given sign, exponent field and fraction. -/
def fpJoin (f : FpFmt) (neg : Bool) (e frac : Nat) : Nat :=
  neg.toNat <<< (f.width - 1) ||| e <<< f.fbits ||| frac

/-- A NaN: exponent all ones and a fraction other than zero (R752). -/
def fpIsNan (f : FpFmt) (x : Nat) : Bool := fpExpField f x == f.emask && fpFrac f x != 0

/-- A signaling NaN: the leftmost fraction bit is 1 (R753). -/
def fpIsSnan (f : FpFmt) (x : Nat) : Bool := fpIsNan f x && x.testBit (f.fbits - 1)

/-- The value of an operand that is no NaN: `num neg m e` is `m * 2^e`, `m` positive (R752). -/
inductive FpVal
  | inf (neg : Bool)
  | zero (neg : Bool)
  | num (neg : Bool) (m : Nat) (e : Int)
deriving DecidableEq, Repr

/-- The value of the bits (R752). -/
def fpValue (f : FpFmt) (x : Nat) : FpVal :=
  let neg := fpSign f x
  let frac := fpFrac f x
  let lowest := f.emin - f.fbits
  if fpExpField f x = f.emask then .inf neg
  else if fpExpField f x = 0 then if frac = 0 then .zero neg else .num neg frac lowest
  else .num neg (2 ^ f.fbits + frac) (lowest + fpExpField f x - 1)

/-- An infinity, a zero, the largest finite number. -/
def fpInf (f : FpFmt) (neg : Bool) : Nat := fpJoin f neg f.emask 0
def fpZero (f : FpFmt) (neg : Bool) : Nat := fpJoin f neg 0 0
def fpMaxFinite (f : FpFmt) (neg : Bool) : Nat := fpJoin f neg (f.emask - 1) (2 ^ f.fbits - 1)

/-- The number `m * 2^q`, which must be one of the format: a normalized number, or a multiple of the
smallest denormal when `q` is its exponent. -/
def fpPack (f : FpFmt) (neg : Bool) (m : Nat) (q : Int) : Nat :=
  let e := q + m.log2
  if e < f.emin then fpJoin f neg 0 m
  else
    let frac := if m.log2 ≤ f.fbits then m <<< (f.fbits - m.log2) else m >>> (m.log2 - f.fbits)
    fpJoin f neg (e + f.bias).toNat (frac - 2 ^ f.fbits)

/-! ### Rounding (R776) -/

/-- An exact nonzero magnitude: `mant * 2^exp`, or strictly between that and `(mant + 1) * 2^exp` when
`sticky`, which is used only with more significant bits than any rounding keeps. -/
structure FpExact where
  neg : Bool
  mant : Nat
  exp : Int
  sticky : Bool
deriving DecidableEq, Repr

/-- `x` rounded to a multiple of `2^q` in mode `rm`: the multiple, and whether that is inexact. -/
def roundAt (rm : BitVec 2) (x : FpExact) (q : Int) : Nat × Bool :=
  if q ≤ x.exp then (x.mant <<< (x.exp - q).toNat, x.sticky)
  else
    let k := (q - x.exp).toNat
    let quo := x.mant >>> k
    let low := x.mant % 2 ^ k
    let half := 2 ^ (k - 1)
    let inexact := low != 0 || x.sticky
    let up := match rm.toNat with
      | 0 => decide (half < low) || (low == half && (x.sticky || quo % 2 == 1))
      | 1 => false
      | 2 => inexact && !x.neg
      | _ => inexact && x.neg
    (if up then quo + 1 else quo, inexact)

/-- The exponent of the leading bit. -/
def FpExact.msb (x : FpExact) : Int := x.exp + x.mant.log2

/-! ### Exceptions (R756, R757, R793, R794): V, Z, O, U, I are numbered 0 to 4 -/

/-- The bit positions of the Status Register's fields (R757). -/
def fpCqLo : Nat := 10
def fpRmLo : Nat := 21
def fpTBit : Nat := 25
def fpCBit : Nat := 5

/-- The rounding mode (R758). -/
def fpRm (sr : Word) : BitVec 2 := field sr fpRmLo 2

/-- The trap enable of an exception (R759). -/
def fpEnabled (sr : Word) (i : Nat) : Bool := mbit sr (27 + i)

/-- The flag of an exception, as a mask of the Status Register (R760). -/
def fpFlag (i : Nat) : Word := 0x80000000#32 >>> i

/-- What an operation delivers. -/
inductive FpOutcome
  /-- a result, flags to set, and the exception code to record (0: none) -/
  | result (bits : Nat) (flags : Word) (code : BitVec 6)
  /-- a trapping invalid operation or division by zero: operands preserved (R792) -/
  | preserved (code : BitVec 6)
  /-- the unimplemented exception: operands preserved (R797) -/
  | unimplemented
deriving DecidableEq, Repr

/-- A result with the flags so far, and the inexact exception when `inexact` (R800). -/
def fpInexact (sr : Word) (bits : Nat) (flags : Word) (inexact : Bool) : FpOutcome :=
  if inexact then
    if fpEnabled sr 4 then .result bits flags 0b000010#6 else .result bits (flags ||| fpFlag 4) 0#6
  else .result bits flags 0#6

/-- A bias-adjusted result of a trapped overflow or underflow with `code`, or with `both` when the
inexact trap is taken too (R794). -/
def fpAdjusted (sr : Word) (bits : Nat) (inexact : Bool) (code both : BitVec 6) : FpOutcome :=
  if inexact then
    if fpEnabled sr 4 then .result bits 0#32 both else .result bits (fpFlag 4) code
  else .result bits 0#32 code

/-- The result of an overflow that does not trap (R801). -/
def fpOverflow (f : FpFmt) (rm : BitVec 2) (neg : Bool) : Nat :=
  match rm.toNat with
  | 0 => fpInf f neg
  | 1 => fpMaxFinite f neg
  | 2 => if neg then fpMaxFinite f neg else fpInf f neg
  | _ => if neg then fpInf f neg else fpMaxFinite f neg

/-- `fp_deliver` (R805): `conv` for the conversions to a floating-point format. -/
def fpDeliver (sr : Word) (f : FpFmt) (conv : Bool) (x : FpExact) : FpOutcome :=
  let rm := fpRm sr
  let q := x.msb - f.fbits
  let r := roundAt rm x q
  let top := q + r.1.log2
  if f.bias < top then
    if fpEnabled sr 2 then
      if conv ∧ f.bias + f.adjust + 1 ≤ top then .unimplemented
      else fpAdjusted sr (fpPack f x.neg r.1 (q - f.adjust)) r.2 0b001000#6 0b001010#6
    else fpInexact sr (fpOverflow f rm x.neg) (fpFlag 2) true
  else if top < f.emin then
    if fpEnabled sr 3 then
      if conv ∧ top < f.emin - f.adjust then .unimplemented
      else fpAdjusted sr (fpPack f x.neg r.1 (q + f.adjust)) r.2 0b000100#6 0b000110#6
    else
      let lowest := f.emin - f.fbits
      let d := roundAt rm x lowest
      let bits := if d.1 = 0 then fpZero f x.neg else fpPack f x.neg d.1 lowest
      fpInexact sr bits (if d.2 then fpFlag 3 else 0#32) d.2
  else fpInexact sr (fpPack f x.neg r.1 q) 0#32 r.2

/-! ### NaNs (R778, R806) -/

/-- An exact result. -/
def fpExactly (bits : Nat) : FpOutcome := .result bits 0#32 0#6

/-- `quiet`: b1 becomes 0, and b2 becomes 1 when the rest of the fraction is 0. -/
def fpQuiet (f : FpFmt) (x : Nat) : Nat :=
  let rest := fpFrac f x % 2 ^ (f.fbits - 1)
  fpJoin f (fpSign f x) f.emask (if rest = 0 then 2 ^ (f.fbits - 2) else rest)

/-- The NaN of an invalid operation with no NaN operand: sign 0, only b2 set (R778 (g)). -/
def fpDefaultNan (f : FpFmt) : Nat := fpJoin f false f.emask (2 ^ (f.fbits - 2))

/-- An invalid operation: a trap, or a quiet NaN and the V flag (R798). -/
def fpInvalid (sr : Word) (nan : Nat) : FpOutcome :=
  if fpEnabled sr 0 then .preserved 0b100000#6 else .result nan (fpFlag 0) 0#6

/-- `invalid_no_nan` (R806). -/
def fpInvalidNoNan (sr : Word) (f : FpFmt) : FpOutcome := fpInvalid sr (fpDefaultNan f)

/-- `nan_result` of two operands, at least one of them a NaN (R806). -/
def fpNanResult (sr : Word) (f : FpFmt) (a b : Nat) : FpOutcome :=
  if fpIsSnan f a then fpInvalid sr (fpQuiet f a)
  else if fpIsSnan f b then fpInvalid sr (fpQuiet f b)
  else if fpIsNan f a then fpExactly a
  else fpExactly b

/-- A quiet NaN in another format (R778 (h)). -/
def fpResizeNan (sf df : FpFmt) (x : Nat) : Nat :=
  let frac := fpFrac sf x
  let kept := if sf.fbits ≤ df.fbits then frac <<< (df.fbits - sf.fbits)
    else frac >>> (sf.fbits - df.fbits)
  fpJoin df (fpSign sf x) df.emask (if kept = 0 then 2 ^ (df.fbits - 2) else kept)

/-! ### Operations -/

/-- The largest number whose square is at most `n`, among those whose bits above `bits` are those of
`root`. -/
def sqrtBits (n : Nat) (bits root : Nat) : Nat :=
  match bits with
  | 0 => root
  | k + 1 =>
    let c := root + 2 ^ k
    sqrtBits n k (if c * c ≤ n then c else root)

/-- The square root of `m * 2^e`, to more bits than any format keeps. -/
def sqrtExact (f : FpFmt) (m : Nat) (e : Int) : FpExact :=
  let shift := 2 * (f.fbits + 3) + (if e % 2 = 0 then 0 else 1)
  let n := m <<< shift
  let root := sqrtBits n (n.log2 / 2 + 1) 0
  { neg := false, mant := root, exp := (e - shift) / 2, sticky := root * root != n }

/-- FSQRT (R838). -/
def fpSqrt (sr : Word) (f : FpFmt) (a : Nat) : FpOutcome :=
  if fpIsNan f a then fpNanResult sr f a a
  else
    match fpValue f a with
    | .zero _ => fpExactly a
    | .inf neg => if neg then fpInvalidNoNan sr f else fpExactly a
    | .num neg m e => if neg then fpInvalidNoNan sr f else fpDeliver sr f false (sqrtExact f m e)

/-- FRND (R839). -/
def fpRound (sr : Word) (f : FpFmt) (a : Nat) : FpOutcome :=
  if fpIsNan f a then fpNanResult sr f a a
  else
    match fpValue f a with
    | .zero _ => fpExactly a
    | .inf _ => fpExactly a
    | .num neg m e =>
      let r := roundAt (fpRm sr) { neg := neg, mant := m, exp := e, sticky := false } 0
      fpInexact sr (if r.1 = 0 then fpZero f neg else fpPack f neg r.1 0) 0#32 r.2

/-- FCNVFF (R840). -/
def fpConvert (sr : Word) (sf df : FpFmt) (a : Nat) : FpOutcome :=
  if fpIsSnan sf a then fpInvalid sr (fpResizeNan sf df (fpQuiet sf a))
  else if fpIsNan sf a then fpExactly (fpResizeNan sf df a)
  else
    match fpValue sf a with
    | .zero neg => fpExactly (fpZero df neg)
    | .inf neg => fpExactly (fpInf df neg)
    | .num neg m e => fpDeliver sr df true { neg := neg, mant := m, exp := e, sticky := false }

/-- FCNVXF of a two's complement number as wide as the format `sf` (R841). -/
def fpFromFixed (sr : Word) (sf df : FpFmt) (a : Nat) : FpOutcome :=
  if a = 0 then fpExactly (fpZero df false)
  else
    let neg := a.testBit (sf.width - 1)
    fpDeliver sr df true
      { neg := neg, mant := if neg then 2 ^ sf.width - a else a, exp := 0, sticky := false }

/-- `convert_float_to_fixed` (R842, R843). -/
def fpToFixed (sr : Word) (rm : BitVec 2) (sf df : FpFmt) (a : Nat) : FpOutcome :=
  if fpIsNan sf a then .unimplemented
  else
    match fpValue sf a with
    | .zero _ => fpExactly 0
    | .inf _ => .unimplemented
    | .num neg m e =>
      let r := roundAt rm { neg := neg, mant := m, exp := e, sticky := false } 0
      if (if neg then 2 ^ (df.width - 1) else 2 ^ (df.width - 1) - 1) < r.1 then .unimplemented
      else fpInexact sr (if neg then (2 ^ df.width - r.1) % 2 ^ df.width else r.1) 0#32 r.2

/-- A number as a signed integer multiple of `2^q`, `q` at most its exponent. -/
def fpScaled (neg : Bool) (m : Nat) (e q : Int) : Int :=
  let n : Nat := m <<< (e - q).toNat
  if neg then -(n : Int) else n

/-- The sum of two operands that are no NaNs (R850). DEDUCED, unsafe (notes/assumptions/55.md): zero + x
is the exact sum x, so with the U trap enabled and x denormal it traps as a tiny exact sum. -/
def fpSum (sr : Word) (f : FpFmt) (x y : FpVal) : FpOutcome :=
  let cancelled := fpZero f (fpRm sr == 3#2)
  let exact (neg : Bool) (m : Nat) (e : Int) :=
    fpDeliver sr f false { neg := neg, mant := m, exp := e, sticky := false }
  match x, y with
  | .inf s, .inf t => if s = t then fpExactly (fpInf f s) else fpInvalidNoNan sr f
  | .inf s, _ => fpExactly (fpInf f s)
  | _, .inf t => fpExactly (fpInf f t)
  | .zero s, .zero t => fpExactly (if s = t then fpZero f s else cancelled)
  | .zero _, .num t m e => exact t m e
  | .num s m e, .zero _ => exact s m e
  | .num s m e, .num t n d =>
    let q := min e d
    let v := fpScaled s m e q + fpScaled t n d q
    if v = 0 then fpExactly cancelled else exact (decide (v < 0)) v.natAbs q

/-- The value with the opposite sign. -/
def FpVal.negate : FpVal → FpVal
  | .inf s => .inf (!s)
  | .zero s => .zero (!s)
  | .num s m e => .num (!s) m e

/-- FADD (R850). -/
def fpAdd (sr : Word) (f : FpFmt) (a b : Nat) : FpOutcome :=
  if fpIsNan f a || fpIsNan f b then fpNanResult sr f a b
  else fpSum sr f (fpValue f a) (fpValue f b)

/-- FSUB (R851). -/
def fpSub (sr : Word) (f : FpFmt) (a b : Nat) : FpOutcome :=
  if fpIsNan f a || fpIsNan f b then fpNanResult sr f a b
  else fpSum sr f (fpValue f a) (fpValue f b).negate

/-- FMPY (R852). -/
def fpMul (sr : Word) (f : FpFmt) (a b : Nat) : FpOutcome :=
  if fpIsNan f a || fpIsNan f b then fpNanResult sr f a b
  else
    match fpValue f a, fpValue f b with
    | .inf _, .zero _ => fpInvalidNoNan sr f
    | .zero _, .inf _ => fpInvalidNoNan sr f
    | .inf s, .inf t => fpExactly (fpInf f (s != t))
    | .inf s, .num t _ _ => fpExactly (fpInf f (s != t))
    | .num s _ _, .inf t => fpExactly (fpInf f (s != t))
    | .zero s, .zero t => fpExactly (fpZero f (s != t))
    | .zero s, .num t _ _ => fpExactly (fpZero f (s != t))
    | .num s _ _, .zero t => fpExactly (fpZero f (s != t))
    | .num s m e, .num t n d =>
      fpDeliver sr f false { neg := s != t, mant := m * n, exp := e + d, sticky := false }

/-- FDIV (R853). -/
def fpDiv (sr : Word) (f : FpFmt) (a b : Nat) : FpOutcome :=
  if fpIsNan f a || fpIsNan f b then fpNanResult sr f a b
  else
    match fpValue f a, fpValue f b with
    | .inf _, .inf _ => fpInvalidNoNan sr f
    | .zero _, .zero _ => fpInvalidNoNan sr f
    | .inf s, .zero t => fpExactly (fpInf f (s != t))
    | .inf s, .num t _ _ => fpExactly (fpInf f (s != t))
    | .zero s, .inf t => fpExactly (fpZero f (s != t))
    | .num s _ _, .inf t => fpExactly (fpZero f (s != t))
    | .num s _ _, .zero t =>
      if fpEnabled sr 1 then .preserved 0b010000#6
      else .result (fpInf f (s != t)) (fpFlag 1) 0#6
    | .zero s, .num t _ _ => fpExactly (fpZero f (s != t))
    | .num s m e, .num t n d =>
      let k := f.fbits + 4 + n.log2
      fpDeliver sr f false
        { neg := s != t, mant := m <<< k / n, exp := e - d - k, sticky := m <<< k % n != 0 }

/-- The order of two values: less, equal, greater (R845). -/
def fpCompare (x y : FpVal) : Ordering :=
  let key (v : FpVal) : Int := match v with
    | .inf neg => if neg then -2 else 2
    | .zero _ => 0
    | .num neg _ _ => if neg then -1 else 1
  match x, y with
  | .num s m e, .num t n d =>
    let q := min e d
    compare (fpScaled s m e q) (fpScaled t n d q)
  | _, _ => compare (key x) (key y)

end Sys2Proof.Machine
end

