-- ==== Sys2Proof/Machine/Float.lean ====
section
/-!
DEFINITION. The floating-point coprocessor's instructions (spec/48_fp_instructions.md) over its
registers and exceptions (spec/47_fp_state.md).
-/

namespace Sys2Proof.Machine

/-! ### Registers (R741 to R746) -/

/-- A register specifier: the 5-bit field and the half selected for a single-word operand (R744). -/
structure FpReg where
  n : Reg
  half : Bool
deriving DecidableEq, Repr

/-- A specifier with no half select (opcode 0C): the left half. -/
def FpReg.left (n : Reg) : FpReg := ⟨n, false⟩

/-- A specifier with a half select bit (opcode 0E, opcode 09). -/
def FpReg.select (n : Reg) (h : BitVec 1) : FpReg := ⟨n, isOne h⟩

/-- The left or the right word of a register. -/
def State.fpHalf (s : State) (n : Reg) (half : Bool) : Word :=
  if half then (readReg s.fprs n).extractLsb' 0 32 else (readReg s.fprs n).extractLsb' 32 32

/-- Write a whole register. -/
def State.setFpr (s : State) (n : Reg) (v : Dword) : State := { s with fprs := writeReg s.fprs n v }

/-- Write one half of a register; the other is unchanged (R746). -/
def State.setFpHalf (s : State) (n : Reg) (half : Bool) (v : Word) : State :=
  s.setFpr n (if half then (s.fpHalf n false ++ v : BitVec 64) else (v ++ s.fpHalf n true : BitVec 64))

/-- The Status Register (R756). -/
def State.fpsr (s : State) : Word := s.fpHalf 0#5 false

def State.setFpsr (s : State) (v : Word) : State := s.setFpHalf 0#5 false v

/-- The delayed trap bit T (R763). -/
def State.fpT (s : State) : Bool := mbit s.fpsr fpTBit

/-- Whether a specifier can be a source (R821, U24). -/
def fpSourceOk (r : FpReg) (f : FpFmt) : Bool :=
  match f with
  | .sgl => (r.n == 0#5 && !r.half) || decide (3 < r.n.toNat)
  | .dbl => !r.half && (r.n == 0#5 || decide (3 < r.n.toNat))
  | .quad => !r.half && r.n.toNat % 2 == 0 && (r.n == 0#5 || decide (3 < r.n.toNat))

/-- Whether a specifier can be a destination (R821, U24). -/
def fpDestOk (r : FpReg) (f : FpFmt) : Bool :=
  decide (3 < r.n.toNat) &&
    match f with
    | .sgl => true
    | .dbl => !r.half
    | .quad => !r.half && r.n.toNat % 2 == 0

/-- `fp_read` (R821): register 0 reads as zeros. -/
def State.fpRead (s : State) (r : FpReg) (f : FpFmt) : Nat :=
  if r.n = 0#5 then 0
  else
    match f with
    | .sgl => (s.fpHalf r.n r.half).toNat
    | .dbl => (readReg s.fprs r.n).toNat
    | .quad => (readReg s.fprs r.n ++ readReg s.fprs (r.n + 1#5) : BitVec 128).toNat

/-- `fp_write` (R821). -/
def State.fpWrite (s : State) (r : FpReg) (f : FpFmt) (v : Nat) : State :=
  match f with
  | .sgl => s.setFpHalf r.n r.half (BitVec.ofNat 32 v)
  | .dbl => s.setFpr r.n (BitVec.ofNat 64 v)
  | .quad =>
    (s.setFpr r.n (BitVec.ofNat 64 (v >>> 64))).setFpr (r.n + 1#5) (BitVec.ofNat 64 v)

/-- The words a specifier names, by register and half. -/
def fpWords (r : FpReg) (f : FpFmt) : List (Reg × Bool) :=
  match f with
  | .sgl => [(r.n, r.half)]
  | .dbl => [(r.n, false), (r.n, true)]
  | .quad => [(r.n, false), (r.n, true), (r.n + 1#5, false), (r.n + 1#5, true)]

/-- Free values in those of the words `dest` that are no words of a source (R792, U43). -/
def State.fpLose (s : State) (sources dest : List (Reg × Bool)) : State :=
  match dest with
  | [] => s
  | w :: rest =>
    if sources.contains w then s.fpLose sources rest
    else (s.drawWord.2.setFpHalf w.1 w.2 s.drawWord.1).fpLose sources rest

/-! ### Exceptions -/

/-- The identification word of the identify format; its `un` bits are a free value (R756, U45). -/
def State.fpIdentity (s : State) : Word :=
  setField (setField (Config.freeWord s.draws) 5 5 s.cfg.fpModel) 10 11 s.cfg.fpRevision

/-- A floating-point instruction other than a doubleword store of register 0 ends the identify format. The
Status Register has the fields it had when COPR,0,0 stood between two doubleword stores of register 0
(R835, D10 (14)); where it did not, its fields other than T are free values (U27). -/
def State.endIdentify (s : State) : State :=
  if s.fpIdentifyValid && !(s.fpBracketed && s.fpZeroStored) then
    { s.drawWord.2.setFpsr (setMbit s.drawWord.1 fpTBit s.fpT) with
      fpIdentifyValid := false, fpZeroStored := false }
  else { s with fpIdentifyValid := false, fpZeroStored := false }

/-- `fp_record_trap`: the code over the instruction's low 26 bits in Exception Register 1, and T
(R780, R791). -/
def State.fpRecord (s : State) (code : BitVec 6) : State :=
  (s.setFpHalf 0#5 true (code ++ field s.iword 6 26)).setFpsr (setMbit s.fpsr fpTBit true)

/-- Some exception register holds an exception: its code is not zero (R784). -/
def State.fpQueued (s : State) : Bool :=
  [(0#5, true), (1#5, false), (1#5, true), (2#5, false), (2#5, true), (3#5, false), (3#5, true)].any
    fun w => field (s.fpHalf w.1 w.2) 0 6 != 0#6

/-- CCR bit `uid` (R88). -/
def State.ccrBit (s : State) (uid : BitVec 3) : Bool := s.ccr.getLsbD (7 - uid.toNat)

/-- CCR bits 0 and 1, which enable the floating-point coprocessor, before an instruction that names it
(R770, R823): both 0 is `emulate`; different is an undefined operation (U25). -/
def fpEnable (st : State) (emulate act : Out) : Out :=
  if st.ccrBit 0#3 ≠ st.ccrBit 1#3 then .refused .fpConfiguration
  else if st.ccrBit 0#3 then act
  else emulate

/-- The start of a floating-point instruction that is no load or store (R823, R784). -/
def fpStart (st : State) (act : Out) : Out :=
  fpEnable st (trapInstr 22 st)
    (if st.fpT then trapInstr 14 st
    else if st.fpQueued then .refused .fpExceptionQueue
    else act)

/-- An operation, which ends the identify format (R823 step 5). -/
def fpOperation (st : State) (act : State → Out) : Out := fpStart st (act st.endIdentify)

/-- The unimplemented exception codes of the major opcodes (R781). -/
def fpUnimp0C : BitVec 6 := 0b001001#6
def fpUnimp0E : BitVec 6 := 0b001011#6

/-- The operation and format are left to software (R797, D10). DESIGN CHOICE (notes/assumptions/56.md): an
instruction of two formats is left out when the pair with either of them is. -/
def State.fpMissing (s : State) (op : FpOp) (f : FpFmt) : Bool := s.cfg.fpUnimplemented.contains (op, f)

/-- What an operation leaves: its result and flags, or the operands preserved (R792, R793). -/
def State.fpFinish (s : State) (unimp : BitVec 6) (sources : List (Reg × Bool)) (t : FpReg) (f : FpFmt)
    (o : FpOutcome) : State :=
  match o with
  | .result bits flags code =>
    let s1 := (s.fpWrite t f bits).setFpsr (s.fpsr ||| flags)
    if code = 0#6 then s1 else s1.fpRecord code
  | .preserved code => (s.fpLose sources (fpWords t f)).fpRecord code
  | .unimplemented => (s.fpLose sources (fpWords t f)).fpRecord unimp

/-! ### Operand formats (R773) -/

/-- The `fmt`, `sf` and `df` codes of opcode 0C. -/
def fpFmt0C (c : BitVec 2) : Option FpFmt :=
  match c.toNat with
  | 0 => some .sgl
  | 1 => some .dbl
  | 3 => some .quad
  | _ => none

/-- The codes of opcode 0E, classes 0 and 1. -/
def fpFmt0E (c : BitVec 2) : Option FpFmt :=
  match c.toNat with
  | 0 => some .sgl
  | 1 => some .dbl
  | _ => none

/-- The format of opcode 0E, classes 2 and 3: with DBL the half select of `r2` must be 0. -/
def fpFmtF (f r2h : BitVec 1) : Option FpFmt :=
  if isOne f then if isOne r2h then none else some .dbl else some .sgl

/-! ### Common forms -/

/-- One source, one destination, a format each; a pair of FP_UNIMPLEMENTED with either format leaves it
out (notes/assumptions/56.md). -/
def fpUnary (st : State) (op : FpOp) (unimp : BitVec 6) (sf df : Option FpFmt) (r t : FpReg)
    (compute : Word → FpFmt → FpFmt → Nat → FpOutcome) : Out :=
  fpOperation st fun s =>
    match sf, df with
    | some sf, some df =>
      if fpSourceOk r sf && fpDestOk t df then
        done st (s.fpFinish unimp (fpWords r sf) t df
          (if s.fpMissing op sf || s.fpMissing op df then .unimplemented
          else compute s.fpsr sf df (s.fpRead r sf)))
      else .refused .fpSpecifier
    | _, _ => .refused .fpFormat

/-- Two sources, one destination, one format. -/
def fpBinary (st : State) (op : FpOp) (unimp : BitVec 6) (fmt : Option FpFmt) (r1 r2 t : FpReg)
    (compute : Word → FpFmt → Nat → Nat → FpOutcome) : Out :=
  fpOperation st fun s =>
    match fmt with
    | some f =>
      if fpSourceOk r1 f && fpSourceOk r2 f && fpDestOk t f then
        done st (s.fpFinish unimp (fpWords r1 f ++ fpWords r2 f) t f
          (if s.fpMissing op f then .unimplemented
          else compute s.fpsr f (s.fpRead r1 f) (s.fpRead r2 f)))
      else .refused .fpSpecifier
    | none => .refused .fpFormat

/-! ### Class 0: copy, absolute value, square root, round (R835 to R839) -/

/-- COPR,0,0: the identify format becomes valid (R835). It begins bracketed when the floating-point
instruction before it was a doubleword store of register 0, and no earlier identify format that still
stands began otherwise (U27). DESIGN CHOICE, safe (notes/assumptions/25.md): after a context switch
between the two, the restore's load of register 0 is that instruction, so the format begins unbracketed. -/
def execCopr00 (st : State) : Out :=
  fpStart st
    (done st { st with
      fpIdentifyValid := true
      fpZeroStored := false
      fpBracketed := st.fpZeroStored && (!st.fpIdentifyValid || st.fpBracketed) })

/-- The copied bits. -/
def fpCopy (_ : Word) (_ _ : FpFmt) (a : Nat) : FpOutcome := fpExactly a

/-- The bits with sign 0. -/
def fpAbsolute (_ : Word) (f _ : FpFmt) (a : Nat) : FpOutcome := fpExactly (a % 2 ^ (f.width - 1))

/-- FCPY, opcode 0C (R836). -/
def execFcpy (r : Reg) (fmt : BitVec 2) (t : Reg) (st : State) : Out :=
  fpUnary st .fcpy fpUnimp0C (fpFmt0C fmt) (fpFmt0C fmt) (.left r) (.left t) fpCopy

/-- FCPY, opcode 0E (R836). -/
def execFcpy0E (r : Reg) (fmt : BitVec 2) (r_h t_h : BitVec 1) (t : Reg) (st : State) : Out :=
  fpUnary st .fcpy fpUnimp0E (fpFmt0E fmt) (fpFmt0E fmt) (.select r r_h) (.select t t_h) fpCopy

/-- FABS, opcode 0C (R837). -/
def execFabs (r : Reg) (fmt : BitVec 2) (t : Reg) (st : State) : Out :=
  fpUnary st .fabs fpUnimp0C (fpFmt0C fmt) (fpFmt0C fmt) (.left r) (.left t) fpAbsolute

/-- FABS, opcode 0E (R837). -/
def execFabs0E (r : Reg) (fmt : BitVec 2) (r_h t_h : BitVec 1) (t : Reg) (st : State) : Out :=
  fpUnary st .fabs fpUnimp0E (fpFmt0E fmt) (fpFmt0E fmt) (.select r r_h) (.select t t_h) fpAbsolute

/-- FSQRT, opcode 0C (R838). -/
def execFsqrt (r : Reg) (fmt : BitVec 2) (t : Reg) (st : State) : Out :=
  fpUnary st .fsqrt fpUnimp0C (fpFmt0C fmt) (fpFmt0C fmt) (.left r) (.left t)
    fun sr f _ a => fpSqrt sr f a

/-- FSQRT, opcode 0E (R838). -/
def execFsqrt0E (r : Reg) (fmt : BitVec 2) (r_h t_h : BitVec 1) (t : Reg) (st : State) : Out :=
  fpUnary st .fsqrt fpUnimp0E (fpFmt0E fmt) (fpFmt0E fmt) (.select r r_h) (.select t t_h)
    fun sr f _ a => fpSqrt sr f a

/-- FRND, opcode 0C (R839). -/
def execFrnd (r : Reg) (fmt : BitVec 2) (t : Reg) (st : State) : Out :=
  fpUnary st .frnd fpUnimp0C (fpFmt0C fmt) (fpFmt0C fmt) (.left r) (.left t)
    fun sr f _ a => fpRound sr f a

/-- FRND, opcode 0E (R839). -/
def execFrnd0E (r : Reg) (fmt : BitVec 2) (r_h t_h : BitVec 1) (t : Reg) (st : State) : Out :=
  fpUnary st .frnd fpUnimp0E (fpFmt0E fmt) (fpFmt0E fmt) (.select r r_h) (.select t t_h)
    fun sr f _ a => fpRound sr f a

/-! ### Class 1: conversions (R840 to R843) -/

/-- The formats of FCNVFF: the same one twice is an undefined operation (R840, U24). -/
def fpDistinct (sf df : Option FpFmt) : Option FpFmt := if sf = df then none else sf

/-- FCNVFF, opcode 0C (R840). -/
def execFcnvff (r : Reg) (df sf : BitVec 2) (t : Reg) (st : State) : Out :=
  fpUnary st .fcnvff fpUnimp0C (fpDistinct (fpFmt0C sf) (fpFmt0C df)) (fpFmt0C df) (.left r) (.left t)
    fpConvert

/-- FCNVFF, opcode 0E (R840). -/
def execFcnvff0E (r : Reg) (df sf : BitVec 2) (r_h t_h : BitVec 1) (t : Reg) (st : State) : Out :=
  fpUnary st .fcnvff fpUnimp0E (fpDistinct (fpFmt0E sf) (fpFmt0E df)) (fpFmt0E df) (.select r r_h)
    (.select t t_h) fpConvert

/-- FCNVXF, opcode 0C (R841). -/
def execFcnvxf (r : Reg) (df sf : BitVec 2) (t : Reg) (st : State) : Out :=
  fpUnary st .fcnvxf fpUnimp0C (fpFmt0C sf) (fpFmt0C df) (.left r) (.left t) fpFromFixed

/-- FCNVXF, opcode 0E (R841). -/
def execFcnvxf0E (r : Reg) (df sf : BitVec 2) (r_h t_h : BitVec 1) (t : Reg) (st : State) : Out :=
  fpUnary st .fcnvxf fpUnimp0E (fpFmt0E sf) (fpFmt0E df) (.select r r_h) (.select t t_h) fpFromFixed

/-- FCNVFX, opcode 0C (R842). -/
def execFcnvfx (r : Reg) (df sf : BitVec 2) (t : Reg) (st : State) : Out :=
  fpUnary st .fcnvfx fpUnimp0C (fpFmt0C sf) (fpFmt0C df) (.left r) (.left t)
    fun sr sf df a => fpToFixed sr (fpRm sr) sf df a

/-- FCNVFX, opcode 0E (R842). -/
def execFcnvfx0E (r : Reg) (df sf : BitVec 2) (r_h t_h : BitVec 1) (t : Reg) (st : State) : Out :=
  fpUnary st .fcnvfx fpUnimp0E (fpFmt0E sf) (fpFmt0E df) (.select r r_h) (.select t t_h)
    fun sr sf df a => fpToFixed sr (fpRm sr) sf df a

/-- FCNVFXT, opcode 0C (R843). -/
def execFcnvfxt (r : Reg) (df sf : BitVec 2) (t : Reg) (st : State) : Out :=
  fpUnary st .fcnvfxt fpUnimp0C (fpFmt0C sf) (fpFmt0C df) (.left r) (.left t)
    fun sr sf df a => fpToFixed sr 1#2 sf df a

/-- FCNVFXT, opcode 0E (R843). -/
def execFcnvfxt0E (r : Reg) (df sf : BitVec 2) (r_h t_h : BitVec 1) (t : Reg) (st : State) : Out :=
  fpUnary st .fcnvfxt fpUnimp0E (fpFmt0E sf) (fpFmt0E df) (.select r r_h) (.select t t_h)
    fun sr sf df a => fpToFixed sr 1#2 sf df a

/-! ### Class 2: compare and test (R844 to R846) -/

/-- The condition `c` of FCMP for a relation; `none` is unordered (R844). -/
def fpRelation (c : BitVec 5) (o : Option Ordering) : Bool :=
  match o with
  | some .gt => c.getLsbD 4
  | some .lt => c.getLsbD 3
  | some .eq => c.getLsbD 2
  | none => c.getLsbD 1

/-- The Status Register after a comparison: CQ shifts right and takes C, C takes the result (R762). -/
def fpPushC (sr : Word) (r : Bool) : Word :=
  setMbit (setField sr fpCqLo 11 (ofBool1 (mbit sr fpCBit) ++ field sr fpCqLo 10 : BitVec 11)) fpCBit r

/-- FCMP's effect on two operands (R845). -/
def State.fpComparison (s : State) (f : FpFmt) (c : BitVec 5) (a b : Nat) : State :=
  if fpIsNan f a || fpIsNan f b then
    if c.getLsbD 0 || fpIsSnan f a || fpIsSnan f b then
      if fpEnabled s.fpsr 0 then s.fpRecord 0b100000#6
      else s.setFpsr (fpPushC (s.fpsr ||| fpFlag 0) (fpRelation c none))
    else s.setFpsr (fpPushC s.fpsr (fpRelation c none))
  else s.setFpsr (fpPushC s.fpsr (fpRelation c (some (fpCompare (fpValue f a) (fpValue f b)))))

/-- The common form of FCMP. -/
def fpCompareOp (st : State) (unimp : BitVec 6) (fmt : Option FpFmt) (r1 r2 : FpReg) (c : BitVec 5) :
    Out :=
  fpOperation st fun s =>
    match fmt with
    | some f =>
      if fpSourceOk r1 f && fpSourceOk r2 f then
        done st (if s.fpMissing .fcmp f then s.fpRecord unimp
          else s.fpComparison f c (s.fpRead r1 f) (s.fpRead r2 f))
      else .refused .fpSpecifier
    | none => .refused .fpFormat

/-- FCMP, opcode 0C (R845). -/
def execFcmp (r1 r2 : Reg) (fmt : BitVec 2) (c : BitVec 5) (st : State) : Out :=
  fpCompareOp st fpUnimp0C (fpFmt0C fmt) (.left r1) (.left r2) c

/-- FCMP, opcode 0E (R845). -/
def execFcmp0E (r1 r2 : Reg) (r2_h f r1_h : BitVec 1) (c : BitVec 5) (st : State) : Out :=
  fpCompareOp st fpUnimp0E (fpFmtF f r2_h) (.select r1 r1_h) (.select r2 r2_h) c

/-- Table 6-14; `none` for the unlisted values (R846). -/
def fpTest (c : BitVec 5) (sr : Word) : Option Bool :=
  let cb := mbit sr fpCBit
  let cq (i : Nat) := mbit sr (fpCqLo + i)
  let none0 (n : Nat) := (List.range n).all fun i => !cq i
  match c.toNat with
  | 0 => some cb
  | 1 => some (!cb && none0 11)
  | 2 => some (cb && cq 5 || cq 0 && cq 6 || cq 1 && cq 7 || cq 2 && cq 8 || cq 3 && cq 9
      || cq 4 && cq 10)
  | 5 => some (!cb && none0 7)
  | 6 => some (cb && cq 3 || cq 0 && cq 4 || cq 1 && cq 5 || cq 2 && cq 6)
  | 9 => some (!cb && none0 5)
  | 13 => some (!cb && none0 3)
  | 17 => some (!cb && none0 1)
  | _ => none

/-- FTEST (R846): an unlisted condition is a free value (U28). -/
def execFtest (c : BitVec 5) (st : State) : Out :=
  fpOperation st fun s =>
    match fpTest c s.fpsr with
    | some b => doneNullify st s b
    | none => doneNullify st s.drawBit.2 s.drawBit.1

/-! ### Class 3: two-operand arithmetic (R849 to R855) -/

/-- FADD, opcode 0C (R850). -/
def execFadd (r1 r2 : Reg) (fmt : BitVec 2) (t : Reg) (st : State) : Out :=
  fpBinary st .fadd fpUnimp0C (fpFmt0C fmt) (.left r1) (.left r2) (.left t) fpAdd

/-- FADD, opcode 0E (R850). -/
def execFadd0E (r1 r2 : Reg) (r2_h f r1_h t_h : BitVec 1) (t : Reg) (st : State) : Out :=
  fpBinary st .fadd fpUnimp0E (fpFmtF f r2_h) (.select r1 r1_h) (.select r2 r2_h) (.select t t_h) fpAdd

/-- FSUB, opcode 0C (R851). -/
def execFsub (r1 r2 : Reg) (fmt : BitVec 2) (t : Reg) (st : State) : Out :=
  fpBinary st .fsub fpUnimp0C (fpFmt0C fmt) (.left r1) (.left r2) (.left t) fpSub

/-- FSUB, opcode 0E (R851). -/
def execFsub0E (r1 r2 : Reg) (r2_h f r1_h t_h : BitVec 1) (t : Reg) (st : State) : Out :=
  fpBinary st .fsub fpUnimp0E (fpFmtF f r2_h) (.select r1 r1_h) (.select r2 r2_h) (.select t t_h) fpSub

/-- FMPY, opcode 0C (R852). -/
def execFmpy (r1 r2 : Reg) (fmt : BitVec 2) (t : Reg) (st : State) : Out :=
  fpBinary st .fmpy fpUnimp0C (fpFmt0C fmt) (.left r1) (.left r2) (.left t) fpMul

/-- FMPY, opcode 0E (R852). -/
def execFmpy0E (r1 r2 : Reg) (r2_h f r1_h t_h : BitVec 1) (t : Reg) (st : State) : Out :=
  fpBinary st .fmpy fpUnimp0E (fpFmtF f r2_h) (.select r1 r1_h) (.select r2 r2_h) (.select t t_h) fpMul

/-- FDIV, opcode 0C (R853). -/
def execFdiv (r1 r2 : Reg) (fmt : BitVec 2) (t : Reg) (st : State) : Out :=
  fpBinary st .fdiv fpUnimp0C (fpFmt0C fmt) (.left r1) (.left r2) (.left t) fpDiv

/-- FDIV, opcode 0E (R853). -/
def execFdiv0E (r1 r2 : Reg) (r2_h f r1_h t_h : BitVec 1) (t : Reg) (st : State) : Out :=
  fpBinary st .fdiv fpUnimp0E (fpFmtF f r2_h) (.select r1 r1_h) (.select r2 r2_h) (.select t t_h) fpDiv

/-- XMPYU (R855): 32-bit sources, a 64-bit destination, no exception but unimplemented, for which its
format is SGL (notes/assumptions/56.md). -/
def execXmpyu (r1 r2 : Reg) (r2_h r1_h : BitVec 1) (t : Reg) (st : State) : Out :=
  let a := FpReg.select r1 r1_h
  let b := FpReg.select r2 r2_h
  fpOperation st fun s =>
    if fpSourceOk a .sgl && fpSourceOk b .sgl && fpDestOk (.left t) .dbl then
      done st (s.fpFinish fpUnimp0E (fpWords a .sgl ++ fpWords b .sgl) (.left t) .dbl
        (if s.fpMissing .xmpyu .sgl then .unimplemented
        else fpExactly (s.fpRead a .sgl * s.fpRead b .sgl)))
    else .refused .fpSpecifier

/-! ### Multiple-operation instructions (R859 to R861) -/

/-- A specifier of a multiple-operation instruction: the top sixteen registers in single format (R859,
Table 6-17). -/
def fpMulti (f : FpFmt) (v : Reg) : FpReg :=
  match f with
  | .sgl => ⟨1#1 ++ v.extractLsb' 0 4, v.getLsbD 4⟩
  | _ => ⟨v, false⟩

/-- Both operations; a trapping exception in either is the unimplemented exception of the whole
(R782, R860). -/
def fpMultiple (st : State) (op : FpOp) (unimp : BitVec 6) (rm1 rm2 ta ra : Reg) (f : BitVec 1)
    (tm : Reg) (second : Word → FpFmt → Nat → Nat → FpOutcome) : Out :=
  let fmt : FpFmt := if isOne f then .sgl else .dbl
  let x1 := fpMulti fmt rm1
  let x2 := fpMulti fmt rm2
  let xt := fpMulti fmt tm
  let y := fpMulti fmt ra
  let yt := fpMulti fmt ta
  fpOperation st fun s =>
    if ra = 0#5 ∨ ra = tm ∨ ta = rm1 ∨ ta = rm2 ∨ ta = tm then .refused .fpOverlap
    else if fpSourceOk x1 fmt && fpSourceOk x2 fmt && fpDestOk xt fmt && fpSourceOk y fmt
        && fpDestOk yt fmt then
      let sr := s.fpsr
      let sources := fpWords x1 fmt ++ fpWords x2 fmt ++ fpWords y fmt ++ fpWords yt fmt
      let whole := done st ((s.fpLose sources (fpWords xt fmt)).fpRecord unimp)
      if s.fpMissing op fmt then whole
      else
        match fpMul sr fmt (s.fpRead x1 fmt) (s.fpRead x2 fmt),
          second sr fmt (s.fpRead yt fmt) (s.fpRead y fmt) with
        | .result p flags1 0#6, .result q flags2 0#6 =>
          done st (((s.fpWrite xt fmt p).fpWrite yt fmt q).setFpsr (sr ||| flags1 ||| flags2))
        | _, _ => whole
    else .refused .fpSpecifier

/-- FMPYADD (R860). -/
def execFmpyadd (rm1 rm2 ta ra : Reg) (f : BitVec 1) (tm : Reg) (st : State) : Out :=
  fpMultiple st .fmpyadd 0b000011#6 rm1 rm2 ta ra f tm fpAdd

/-- FMPYSUB (R861): `ta` is the minuend. -/
def execFmpysub (rm1 rm2 ta ra : Reg) (f : BitVec 1) (tm : Reg) (st : State) : Out :=
  fpMultiple st .fmpysub 0b100011#6 rm1 rm2 ta ra f tm fpSub

/-! ### Loads and stores (R824 to R832) -/

/-- An assist emulation trap of a coprocessor load or store: after every data reference check that can
trap, with the address in ISR and IOR; ISR is a free value while PSW D is 0 (R700, R934, U35). Nothing is
accessed, so where the access alone would be undefined (unaligned, in the I/O address space, unbacked) 22
is taken too; an unaligned untranslated address is compared with the data breakpoints first (31, R893,
R913). -/
def emulateReference (st : State) (ref : DataRef) (space offset : Word) : Out :=
  let emulate : Out := trapReference 22 st ref space offset offset
  match st.dataCheck ref space offset with
  | .ok _ => emulate
  | .trap n => trapReference n st ref space offset offset
  | .refused .coprocessorIo => emulate
  | .refused .unaligned =>
    match st.dataBreakpoint ref.kind offset with
    | .undefined => .refused .debugMask
    | .hit => trapReference 31 st ref space offset offset
    | .none => emulate
  | .refused r => .refused r
  | .fault _ => emulate

/-- The start of a load or store: CCR, then T, then the data reference (R823). -/
def fpReference (st : State) (ref : DataRef) (ea : Ea) (armed : Bool) (refuse : Bool)
    (k : State → Nat → Out) : Out :=
  fpEnable st (emulateReference st ref ea.space ea.offset)
    (if armed then trapInstr 14 st
    else if refuse then .refused .fpSingleWord
    else st.access ref ea.space ea.offset k)

/-- The single-word registers that a load or store may not name (R824 (a), U30). -/
def fpNoWord (r : FpReg) : Bool := decide (r.n.toNat ≤ 3) && !(r.n == 0#5 && !r.half)

/-- A word load: a word for 0L that sets T is an undefined operation (R824 (d), U30). -/
def fpLoadWord (st : State) (ea : Ea) (b : Reg) (t : FpReg) : Out :=
  fpReference st (.coprocessor .load 4) ea st.fpT (fpNoWord t) fun s a =>
    let w := s.loadWord a
    if t.n = 0#5 ∧ mbit w fpTBit then .refused .fpSingleWord
    else done st ((s.endIdentify.setFpHalf t.n t.half w).modifyBase b ea.base)

/-- A word store; it ends the identify format before it stores (R824 (g)). -/
def fpStoreWord (st : State) (ea : Ea) (b : Reg) (r : FpReg) : Out :=
  fpReference st (.coprocessor .store 4) ea st.fpT (fpNoWord r) fun s a =>
    let s1 := s.endIdentify
    done st ((s1.storeBytes a (st.wordOf (s1.fpHalf r.n r.half))).modifyBase b ea.base)

/-- A doubleword load (R826, R830). -/
def fpLoadDword (st : State) (ea : Ea) (b t : Reg) : Out :=
  fpReference st (.coprocessor .load 8) ea st.fpT false fun s a =>
    done st ((s.endIdentify.setFpr t (s.loadDword a)).modifyBase b ea.base)

/-- A doubleword store of register 0: it takes no trap, stores the identify format while that is valid,
and clears T (R803, R828); the identify format goes on (R756). -/
def State.fpStoreZero (s : State) (a : Nat) : State :=
  let sr := if s.fpIdentifyValid then s.fpIdentity else s.fpsr
  { (s.storeBytes a (s.dwordOf (sr ++ s.fpHalf 0#5 true : BitVec 64))).setFpsr
    (setMbit s.fpsr fpTBit false) with fpZeroStored := true, draws := s.draws + 1 }

/-- A doubleword store (R828, R832). -/
def fpStoreDword (st : State) (ea : Ea) (b r : Reg) : Out :=
  fpReference st (.coprocessor .store 8) ea (st.fpT && r != 0#5) false fun s a =>
    if r = 0#5 then done st ((s.fpStoreZero a).modifyBase b ea.base)
    else
      done st ((s.endIdentify.storeBytes a (st.dwordOf (readReg s.fprs r))).modifyBase b ea.base)

/-- FLDWX (R825). -/
def execFldwx (b x : Reg) (s : BitVec 2) (u : BitVec 1) (_cc : BitVec 2) (t_h m : BitVec 1) (t : Reg)
    (st : State) : Out :=
  fpLoadWord st (indexedEa st b x s u m 2) b (.select t t_h)

/-- FSTWX (R827). -/
def execFstwx (b x : Reg) (s : BitVec 2) (u : BitVec 1) (_cc : BitVec 2) (r_h m : BitVec 1) (r : Reg)
    (st : State) : Out :=
  fpStoreWord st (indexedEa st b x s u m 2) b (.select r r_h)

/-- FLDDX (R826). -/
def execFlddx (b x : Reg) (s : BitVec 2) (u : BitVec 1) (_cc : BitVec 2) (m : BitVec 1) (t : Reg)
    (st : State) : Out :=
  fpLoadDword st (indexedEa st b x s u m 3) b t

/-- FSTDX (R828). -/
def execFstdx (b x : Reg) (s : BitVec 2) (u : BitVec 1) (_cc : BitVec 2) (m : BitVec 1) (r : Reg)
    (st : State) : Out :=
  fpStoreDword st (indexedEa st b x s u m 3) b r

/-- FLDWS (R829). -/
def execFldws (b : Reg) (im5 : BitVec 5) (s : BitVec 2) (a : BitVec 1) (_cc : BitVec 2)
    (t_h m : BitVec 1) (t : Reg) (st : State) : Out :=
  fpLoadWord st (shortEa st b im5 s a m) b (.select t t_h)

/-- FSTWS (R831). -/
def execFstws (b : Reg) (im5 : BitVec 5) (s : BitVec 2) (a : BitVec 1) (_cc : BitVec 2)
    (r_h m : BitVec 1) (r : Reg) (st : State) : Out :=
  fpStoreWord st (shortEa st b im5 s a m) b (.select r r_h)

/-- FLDDS (R830). -/
def execFldds (b : Reg) (im5 : BitVec 5) (s : BitVec 2) (a : BitVec 1) (_cc : BitVec 2) (m : BitVec 1)
    (t : Reg) (st : State) : Out :=
  fpLoadDword st (shortEa st b im5 s a m) b t

/-- FSTDS (R832). -/
def execFstds (b : Reg) (im5 : BitVec 5) (s : BitVec 2) (a : BitVec 1) (_cc : BitVec 2) (m : BitVec 1)
    (r : Reg) (st : State) : Out :=
  fpStoreDword st (shortEa st b im5 s a m) b r

end Sys2Proof.Machine
end

