-- ==== Sys2Proof/Machine/Assist.lean ====
section
/-!
DEFINITION. The assist instructions (spec/46_assist.md): special function units and coprocessors. The
unarchitected units are free functions of Config.
-/

namespace Sys2Proof.Machine

/-! ### Special function units (R700 to R710) -/

/-- SCR bit `sfu` (R89). -/
def State.scrBit (s : State) (sfu : BitVec 3) : Bool := s.scr.getLsbD (7 - sfu.toNat)

/-- A word for the debug SFU that none of its instructions takes is an illegal instruction (U33). -/
def sfuGate (st : State) (sfu : BitVec 3) (act : Out) : Out :=
  if !st.scrBit sfu then trapInstr 22 st
  else if sfu = 1#3 then trapUndefined st
  else act

/-- An operation of an unarchitected unit: an exception is trap 14; otherwise its state changes, and it
nullifies when `n` and its condition are 1 (R704). `form` is the format, `mayRaise` says whether the
instruction has the exception, `finish` is the effect on the general registers. -/
def sfuOperation (st : State) (sfu : BitVec 3) (form : Nat) (sop : Nat) (n : BitVec 1) (a b : Word)
    (mayRaise : Bool) (finish : Word → State → State) : Out :=
  sfuGate st sfu
    (let old := readReg8 st.sfuStates sfu
    if mayRaise && Config.sfuRaises sfu form sop st.priv a b old then trapInstr 14 st
    else
      let s1 := { st with
        sfuStates := writeReg8 st.sfuStates sfu (Config.sfuState sfu form sop st.priv a b old) }
      doneNullify st (finish (Config.sfuResult sfu form sop st.priv a b old) s1)
        (isOne n && Config.sfuCond sfu form sop st.priv a b old))

/-- SPOP0 (R706). -/
def execSpop0 (sop1 : BitVec 15) (sfu : BitVec 3) (n : BitVec 1) (sop2 : BitVec 5) (st : State) : Out :=
  sfuOperation st sfu 0 (sop1 ++ sfu ++ n ++ sop2 : BitVec 24).toNat n 0#32 0#32 true
    fun _ s => s

/-- SPOP1 (R707). With sop 0 and n 0 it identifies the unit, whose state is a free value afterwards
(R710); with sop 0 and n 1 it is an operation that has no exception (R707: 14 "not for sop = 0"). -/
def execSpop1 (sop : BitVec 15) (sfu : BitVec 3) (n : BitVec 1) (t : Reg) (st : State) : Out :=
  if sop = 0#15 ∧ n = 0#1 then
    sfuGate st sfu
      (done st ({ st with
        sfuStates := writeReg8 st.sfuStates sfu (Config.freeIndex st.draws)
        draws := st.draws + 1 }.setGr t (Config.sfuId sfu)))
  else
    sfuOperation st sfu 1 (sop ++ sfu ++ n : BitVec 19).toNat n 0#32 0#32
      (decide (sop ≠ 0#15)) fun w s => s.setGr t w

/-- SPOP2 (R708). -/
def execSpop2 (r : Reg) (sop1 : BitVec 10) (sfu : BitVec 3) (n : BitVec 1) (sop2 : BitVec 5)
    (st : State) : Out :=
  sfuOperation st sfu 2 (sop1 ++ sfu ++ n ++ sop2 : BitVec 19).toNat n (st.gr r) 0#32 true
    fun _ s => s

/-- SPOP3 (R709). -/
def execSpop3 (r2 r1 : Reg) (sop1 : BitVec 5) (sfu : BitVec 3) (n : BitVec 1) (sop2 : BitVec 5)
    (st : State) : Out :=
  sfuOperation st sfu 3 (sop1 ++ sfu ++ n ++ sop2 : BitVec 14).toNat n (st.gr r1) (st.gr r2)
    true fun _ s => s

/-! ### Coprocessor operations (R711 to R716) -/

/-- The registers of an unarchitected coprocessor. -/
def State.cprFile (s : State) (uid : BitVec 3) : Vector Dword 32 := readReg8 s.cprs uid

/-- `CPR[uid]` replaced. -/
def State.setCprFile (s : State) (uid : BitVec 3) (v : Vector Dword 32) : State :=
  { s with cprs := writeReg8 s.cprs uid v }

/-- A reserved sub-op of opcode 0C, uid 0: class 0 sub 6, 7; class 3 sub 4, 5, 6 (R772, R822 (a)).
DESIGN CHOICE, unsafe (notes/assumptions/54.md): a word that has a reserved sub-op and also an undefined
format code (fmt 2) or a non-zero literal-zero field (bit 26, or bits 11..15 in class 0) falls under (a)
and (b) of R822; here the sub-op decides, so it takes trap 14. -/
def fpReserved0C (sop1 : BitVec 17) : Bool :=
  let sub := (sop1.extractLsb' 4 3).toNat
  match (sop1.extractLsb' 0 2).toNat with
  | 0 => sub == 6 || sub == 7
  | 3 => sub == 4 || sub == 5 || sub == 6
  | _ => false

/-- A floating-point word that is no instruction: the tests that come before every operation (CCR, the
delayed trap, a queued exception: R823, R784), then the reserved-op exception (14) or the illegal
instruction trap (R796, R822, U24). -/
def fpNoInstruction (st : State) (reserved : Bool) : Out :=
  fpStart st (if reserved then trapInstr 14 st else trapUndefined st)

/-- An operation of an unarchitected coprocessor (R715). IDENTIFY COPROCESSOR is `sop` 0 with `n` 0 for
unit identifiers 4 to 7: register 0 receives the identification, with no exception (R716). -/
def coprOperation (st : State) (uid : BitVec 3) (sop : BitVec 22) (n : BitVec 1) : Out :=
  let old := st.cprFile uid
  if sop = 0#22 ∧ n = 0#1 ∧ 4 ≤ uid.toNat then
    done st (st.setCprFile uid (writeReg old 0#5 (Config.coprId uid)))
  else if Config.coprRaises uid sop n st.priv old then trapInstr 14 st
  else
    let new := Config.coprOp uid sop n st.priv old
    doneNullify st (st.setCprFile uid new) (isOne n && Config.coprCond uid sop n new)

/-- COPR (R715): uid 0 is the floating-point coprocessor, uid 1 has no operation (R770, U25), uid 2 is
the performance monitor (U34). -/
def execCopr (sop1 : BitVec 17) (uid : BitVec 3) (n : BitVec 1) (sop2 : BitVec 5) (st : State) : Out :=
  if uid = 0#3 then fpNoInstruction st (fpReserved0C sop1)
  else if uid = 1#3 then fpEnable st (trapInstr 22 st) (.refused .fpConfiguration)
  else if !st.ccrBit uid then trapInstr 22 st
  else if uid = 2#3 then trapUndefined st
  else coprOperation st uid (sop1 ++ sop2 : BitVec 22) n

/-! ### Coprocessor loads and stores (R717 to R726) -/

/-- The start of a coprocessor load or store (R700, R702, R717 (6)): with its CCR bit 0, trap 22 after
the data reference checks; uid 1 is undefined while the floating-point coprocessor is enabled (U25); the
performance monitor has no registers (D19); the unit may report an exception (14, ahead of the checks).
After the checks the unit is told the register (`send_to_copr`, R711). -/
def coprReference (st : State) (ref : DataRef) (ea : Ea) (uid : BitVec 3) (reg : Reg) (isStore : Bool)
    (k : State → Nat → Out) : Out :=
  let emulate := emulateReference st ref ea.space ea.offset
  if uid = 0#3 ∨ uid = 1#3 then fpEnable st emulate (.refused .fpConfiguration)
  else if !st.ccrBit uid then emulate
  else if uid = 2#3 then .refused .perfmonLoadStore
  else if Config.coprSendRaises uid isStore reg (st.cprFile uid) then trapInstr 14 st
  else
    st.access ref ea.space ea.offset fun s a =>
      k (s.setCprFile uid (Config.coprSend uid isStore reg (s.cprFile uid))) a

/-- A coprocessor load of `n` bytes: `value` gives the register's new contents. -/
def coprLoad (st : State) (n : Nat) (ea : Ea) (uid : BitVec 3) (b t : Reg)
    (value : State → Nat → Dword) : Out :=
  coprReference st (.coprocessor .load n) ea uid t false fun s a =>
    done st ((s.setCprFile uid (writeReg (s.cprFile uid) t (value s a))).modifyBase b ea.base)

/-- A coprocessor store. -/
def coprStore (st : State) (n : Nat) (ea : Ea) (uid : BitVec 3) (b r : Reg)
    (bytes : State → Dword → List Byte) : Out :=
  coprReference st (.coprocessor .store n) ea uid r true fun s a =>
    done st ((s.storeBytes a (bytes s (readReg (s.cprFile uid) r))).modifyBase b ea.base)

/-- A word in a 64-bit coprocessor register. -/
def State.loadCoprWord (s : State) (a : Nat) : Dword := (s.loadWord a).setWidth 64

/-- The word of a 64-bit coprocessor register. -/
def State.coprWordOf (s : State) (v : Dword) : List Byte := s.wordOf (v.setWidth 32)

/-- CLDWX (R718). -/
def execCldwx (b x : Reg) (s : BitVec 2) (u : BitVec 1) (_cc : BitVec 2) (uid : BitVec 3)
    (m : BitVec 1) (t : Reg) (st : State) : Out :=
  coprLoad st 4 (indexedEa st b x s u m 2) uid b t State.loadCoprWord

/-- CLDDX (R719). -/
def execClddx (b x : Reg) (s : BitVec 2) (u : BitVec 1) (_cc : BitVec 2) (uid : BitVec 3)
    (m : BitVec 1) (t : Reg) (st : State) : Out :=
  coprLoad st 8 (indexedEa st b x s u m 3) uid b t State.loadDword

/-- CSTWX (R720). -/
def execCstwx (b x : Reg) (s : BitVec 2) (u : BitVec 1) (_cc : BitVec 2) (uid : BitVec 3)
    (m : BitVec 1) (r : Reg) (st : State) : Out :=
  coprStore st 4 (indexedEa st b x s u m 2) uid b r State.coprWordOf

/-- CSTDX (R721). -/
def execCstdx (b x : Reg) (s : BitVec 2) (u : BitVec 1) (_cc : BitVec 2) (uid : BitVec 3)
    (m : BitVec 1) (r : Reg) (st : State) : Out :=
  coprStore st 8 (indexedEa st b x s u m 3) uid b r State.dwordOf

/-- CLDWS (R722). -/
def execCldws (b : Reg) (im5 : BitVec 5) (s : BitVec 2) (a : BitVec 1) (_cc : BitVec 2)
    (uid : BitVec 3) (m : BitVec 1) (t : Reg) (st : State) : Out :=
  coprLoad st 4 (shortEa st b im5 s a m) uid b t State.loadCoprWord

/-- CLDDS (R723). -/
def execCldds (b : Reg) (im5 : BitVec 5) (s : BitVec 2) (a : BitVec 1) (_cc : BitVec 2)
    (uid : BitVec 3) (m : BitVec 1) (t : Reg) (st : State) : Out :=
  coprLoad st 8 (shortEa st b im5 s a m) uid b t State.loadDword

/-- CSTWS (R724). -/
def execCstws (b : Reg) (im5 : BitVec 5) (s : BitVec 2) (a : BitVec 1) (_cc : BitVec 2)
    (uid : BitVec 3) (m : BitVec 1) (r : Reg) (st : State) : Out :=
  coprStore st 4 (shortEa st b im5 s a m) uid b r State.coprWordOf

/-- CSTDS (R726). -/
def execCstds (b : Reg) (im5 : BitVec 5) (s : BitVec 2) (a : BitVec 1) (_cc : BitVec 2)
    (uid : BitVec 3) (m : BitVec 1) (r : Reg) (st : State) : Out :=
  coprStore st 8 (shortEa st b im5 s a m) uid b r State.dwordOf

end Sys2Proof.Machine
end

