-- ==== Sys2Proof/Machine/PerfmonDebug.lean ====
section
/-!
DEFINITION. The performance monitor coprocessor and the debug special function unit
(spec/49_perfmon_debug.md).
-/

namespace Sys2Proof.Machine

/-! ### Performance monitor (R880 to R884) -/

/-- The performance monitor's CCR bit must be 1, else trap 22. -/
def perfmon (st : State) (enabled : Bool) : Out :=
  if st.ccrBit 2#3 then done st { st with measurementEnabled := enabled } else trapInstr 22 st

/-- PMDIS (R883). -/
def execPmdis (st : State) : Out := perfmon st false

/-- PMENB (R884). -/
def execPmenb (st : State) : Out := perfmon st true

/-! ### Debug special function unit (R891) -/

/-- The debug unit's SCR bit must be 1, else trap 22. -/
def debugUnit (st : State) (act : Out) : Out := if st.scrBit 1#3 then act else trapInstr 22 st

/-- A move from a debug register; a number beyond the implemented ones is an undefined operation
(U33). -/
def fromDebug (st : State) (count r : BitVec 5) (file : Vector Word 32) (t : Reg) : Out :=
  debugUnit st
    (if r.toNat < count.toNat then done st (st.setGr t (readReg file r))
    else .refused .debugRegister)

/-- A move to a debug register; ones in reserved bits are an undefined operation (R890, U1). -/
def toDebug (st : State) (count t : BitVec 5) (reserved value : Word) (act : State) : Out :=
  debugUnit st
    (if count.toNat ≤ t.toNat then .refused .debugRegister
    else if value &&& reserved ≠ 0#32 then .refused .reservedBits
    else done st act)

/-- The reserved bits of a mask register with control bits `control`: all that is neither control nor
an implemented mask bit (R888 to R890). -/
def debugReserved (c : Config) (control : Word) : Word :=
  ~~~(control ||| BitVec.ofNat 32 (2 ^ c.dbgMask.toNat - 1))

/-- The identification number of the debug SFU (R895). -/
def debugId (c : Config) : Word :=
  c.dbgModel ++ c.dbgRevision ++ 0#6 ++ c.dbgIreg ++ c.dbgDreg ++ c.dbgMask

/-- DEBUGID (R895). -/
def execDebugid (t : Reg) (st : State) : Out := debugUnit st (done st (st.setGr t (debugId st.cfg)))

/-- MFDBAO (R897). -/
def execMfdbao (r t : Reg) (st : State) : Out := fromDebug st st.cfg.dbgDreg r st.dbaor t

/-- MFDBAM (R896). -/
def execMfdbam (r t : Reg) (st : State) : Out := fromDebug st st.cfg.dbgDreg r st.dbamr t

/-- MFIBAO (R899). -/
def execMfibao (r t : Reg) (st : State) : Out := fromDebug st st.cfg.dbgIreg r st.ibaor t

/-- MFIBAM (R898). -/
def execMfibam (r t : Reg) (st : State) : Out := fromDebug st st.cfg.dbgIreg r st.ibamr t

/-- MTDBAO (R901). -/
def execMtdbao (r t : Reg) (st : State) : Out :=
  toDebug st st.cfg.dbgDreg t 0#32 (st.gr r) { st with dbaor := writeReg st.dbaor t (st.gr r) }

/-- MTDBAM (R900). -/
def execMtdbam (r t : Reg) (st : State) : Out :=
  toDebug st st.cfg.dbgDreg t (debugReserved st.cfg 0xC0000000#32) (st.gr r)
    { st with dbamr := writeReg st.dbamr t (st.gr r) }

/-- MTIBAO (R903). -/
def execMtibao (r t : Reg) (st : State) : Out :=
  toDebug st st.cfg.dbgIreg t 0#32 (st.gr r) { st with ibaor := writeReg st.ibaor t (st.gr r) }

/-- MTIBAM (R902). -/
def execMtibam (r t : Reg) (st : State) : Out :=
  toDebug st st.cfg.dbgIreg t (debugReserved st.cfg 0x80000000#32) (st.gr r)
    { st with ibamr := writeReg st.ibamr t (st.gr r) }

end Sys2Proof.Machine
end

