-- ==== Sys2Proof/Machine/Shift.lean ====
section
/-!
DEFINITION. The shift, extract and deposit instructions (spec/44_shift_extract_deposit.md).
-/

namespace Sys2Proof.Machine

/-- Write a result and nullify on a condition of Table 5-7 on it (R602). -/
def finishField (s : State) (t : Reg) (c : BitVec 3) (res : Word) : Out :=
  doneNullify s (s.setGr t res) (extractCond c res)

/-- The fixed position forms are defined when the field does not run off the left edge; otherwise the
result and PSW N are free values (R602 (4), U14). -/
def finishFixed (s : State) (t : Reg) (c : BitVec 3) (pos len : Nat) (res : Word) : Out :=
  if len - 1 ≤ pos then finishField s t c res
  else
    doneNullify s ({ s with draws := s.draws + 1 }.setGr t (Config.freeWord s.draws))
      (Config.freeBit s.draws)

/-- A fixed position written complemented: `p = 31 - cp` (R601). -/
def fixedPos (cp : BitVec 5) : Nat := 31 - cp.toNat

/-- VSHD (R603). -/
def execVshd (r2 r1 : Reg) (c : BitVec 3) (t : Reg) (s : State) : Out :=
  finishField s t c (shiftDouble (s.gr r1) (s.gr r2) s.sar.toNat)

/-- SHD (R604). -/
def execShd (r2 r1 : Reg) (c : BitVec 3) (cp : BitVec 5) (t : Reg) (s : State) : Out :=
  finishField s t c (shiftDouble (s.gr r1) (s.gr r2) (fixedPos cp))

/-- VEXTRU (R605). -/
def execVextru (r t : Reg) (c : BitVec 3) (clen : BitVec 5) (s : State) : Out :=
  finishField s t c (extractUnsigned (s.gr r) s.sar.toNat (fieldLen clen))

/-- VEXTRS (R606). -/
def execVextrs (r t : Reg) (c : BitVec 3) (clen : BitVec 5) (s : State) : Out :=
  finishField s t c (extractSigned (s.gr r) s.sar.toNat (fieldLen clen))

/-- EXTRU (R607). -/
def execExtru (r t : Reg) (c : BitVec 3) (p clen : BitVec 5) (s : State) : Out :=
  finishFixed s t c p.toNat (fieldLen clen) (extractUnsigned (s.gr r) p.toNat (fieldLen clen))

/-- EXTRS (R608). -/
def execExtrs (r t : Reg) (c : BitVec 3) (p clen : BitVec 5) (s : State) : Out :=
  finishFixed s t c p.toNat (fieldLen clen) (extractSigned (s.gr r) p.toNat (fieldLen clen))

/-- ZVDEP (R613). -/
def execZvdep (t r : Reg) (c : BitVec 3) (clen : BitVec 5) (s : State) : Out :=
  finishField s t c (deposit 0#32 (s.gr r) s.sar.toNat (fieldLen clen))

/-- VDEP (R609). -/
def execVdep (t r : Reg) (c : BitVec 3) (clen : BitVec 5) (s : State) : Out :=
  finishField s t c (deposit (s.gr t) (s.gr r) s.sar.toNat (fieldLen clen))

/-- ZVDEPI (R615). -/
def execZvdepi (t : Reg) (im5 : BitVec 5) (c : BitVec 3) (clen : BitVec 5) (s : State) : Out :=
  finishField s t c (deposit 0#32 (lowSignExt5 im5) s.sar.toNat (fieldLen clen))

/-- VDEPI (R611). -/
def execVdepi (t : Reg) (im5 : BitVec 5) (c : BitVec 3) (clen : BitVec 5) (s : State) : Out :=
  finishField s t c (deposit (s.gr t) (lowSignExt5 im5) s.sar.toNat (fieldLen clen))

/-- ZDEP (R614). -/
def execZdep (t r : Reg) (c : BitVec 3) (cp clen : BitVec 5) (s : State) : Out :=
  finishFixed s t c (fixedPos cp) (fieldLen clen)
    (deposit 0#32 (s.gr r) (fixedPos cp) (fieldLen clen))

/-- DEP (R610). -/
def execDep (t r : Reg) (c : BitVec 3) (cp clen : BitVec 5) (s : State) : Out :=
  finishFixed s t c (fixedPos cp) (fieldLen clen)
    (deposit (s.gr t) (s.gr r) (fixedPos cp) (fieldLen clen))

/-- ZDEPI (R616). -/
def execZdepi (t : Reg) (im5 : BitVec 5) (c : BitVec 3) (cp clen : BitVec 5) (s : State) : Out :=
  finishFixed s t c (fixedPos cp) (fieldLen clen)
    (deposit 0#32 (lowSignExt5 im5) (fixedPos cp) (fieldLen clen))

/-- DEPI (R612). -/
def execDepi (t : Reg) (im5 : BitVec 5) (c : BitVec 3) (cp clen : BitVec 5) (s : State) : Out :=
  finishFixed s t c (fixedPos cp) (fieldLen clen)
    (deposit (s.gr t) (lowSignExt5 im5) (fixedPos cp) (fieldLen clen))

end Sys2Proof.Machine
end

