-- ==== Sys2Proof/Machine/System.lean ====
section
/-!
DEFINITION. The system control instructions (spec/45_system_control.md).
-/

namespace Sys2Proof.Machine

/-! ### Break and return from interruption -/

/-- BREAK (R631). -/
def execBreakTrap (_im13 : BitVec 13) (_im5 : BitVec 5) (st : State) : Out := trapInstr 9 st

/-- RFI (R632). -/
def execRfi (st : State) : Out := privileged st (.next (completeReturn st st))

/-- RFIR (R633). -/
def execRfir (st : State) : Out := privileged st (.next (completeReturn st st.restoreShadows))

/-! ### System mask (R72) -/

/-- The system mask, PSW bits 25..31. -/
def State.mask (st : State) : BitVec 7 := field st.psw 25 7

/-- The PSW with a new system mask. -/
def State.maskedPsw (st : State) (new : BitVec 7) : Word := setField st.psw 25 7 new

/-- The state with a new system mask; clearing Q makes the interruption registers undefined (U16). -/
def State.setMask (st : State) (new : BitVec 7) : State :=
  let st' := { st with psw := st.maskedPsw new }
  if st.pswQ && !mbit (st.maskedPsw new) 28 then st'.loseInterruptionState else st'

/-- An instruction that writes the ones of `written` and leaves the system mask `new`: ones written to
reserved bits are an undefined operation (U1); so is setting Q (U17). -/
def State.checkMask (st : State) (new written : BitVec 7) (act : Out) : Out :=
  if !st.pswQ ∧ mbit (st.maskedPsw new) 28 then .refused .setsQ
  else if zeroExt written &&& pswReserved st.cfg ≠ 0#32 then .refused .reservedBits
  else act

/-- SSM (R634): it writes the ones of its immediate. -/
def execSsm (i : BitVec 7) (t : Reg) (st : State) : Out :=
  let new := st.mask ||| i
  privileged st (st.checkMask new i (done st ((st.setMask new).setGr t (zeroExt st.mask))))

/-- RSM (R635): it writes no one, and has no undefined case. -/
def execRsm (i : BitVec 7) (t : Reg) (st : State) : Out :=
  privileged st (done st ((st.setMask (st.mask &&& ~~~i)).setGr t (zeroExt st.mask)))

/-- MTSM (R636): it writes the whole mask. -/
def execMtsm (r : Reg) (st : State) : Out :=
  let new := field (st.gr r) 25 7
  privileged st (st.checkMask new new (done st (st.setMask new)))

/-! ### Space and control register moves -/

/-- LDSID (R639). -/
def execLdsid (b : Reg) (s : BitVec 2) (t : Reg) (st : State) : Out :=
  done st (st.setGr t (st.space s (st.gr b)))

/-- MFSP (R640). -/
def execMfsp (s : BitVec 3) (t : Reg) (st : State) : Out :=
  done st (st.setGr t (st.sr (assemble3 s)))

/-- MTSP (R641): null in Level 0; SR 5, 6 and 7 only at privilege level 0, else trap 11. -/
def execMtsp (r : Reg) (s : BitVec 3) (st : State) : Out :=
  if !st.level0 ∧ 5 ≤ (assemble3 s).toNat ∧ st.priv ≠ 0#2 then trapInstr 11 st
  else done st (st.setSr (assemble3 s) (st.gr r))

/-- The control registers that do not exist in Level 0 (R82). -/
def absentInLevel0 (n : Nat) : Bool :=
  n == 8 || n == 9 || n == 12 || n == 13 || n == 17 || n == 20

/-- The implemented bits of a protection identifier (R87, R643, spec/90_conflicts.md C5). -/
def pidMask (c : Config) : Word := BitVec.ofNat 32 (2 ^ (16 + c.pidExtra.val) - 1)

/-- The coprocessors that exist: bits 0 and 1 floating point, bit 2 the performance monitor (R88). -/
def ccrPresent (c : Config) : BitVec 8 :=
  (if c.hasFp then 0xC0#8 else 0#8) ||| (if c.hasPerfmon then 0x20#8 else 0#8)
    ||| (c.coprPresent &&& 0x1F#8)

/-- The special function units that exist: bit 1 the debug SFU, Level 0 only (R89). -/
def scrPresent (c : Config) : BitVec 8 :=
  (if c.level == .l0 && c.hasDebugSfu then 0x40#8 else 0#8) ||| (c.sfuPresent &&& 0xBF#8)

/-- The effect of a permitted MTCTL (R643). -/
def State.setCr (st : State) (n : Nat) (v : Word) : State :=
  match n with
  | 0 => { st with rctr := v }
  | 8 => { st with pid1 := v &&& pidMask st.cfg }
  | 9 => { st with pid2 := v &&& pidMask st.cfg }
  | 10 => { st with
      scr := field v 16 8 &&& scrPresent st.cfg
      ccr := field v 24 8 &&& ccrPresent st.cfg }
  | 11 => { st with sar := field v 27 5 }
  | 12 => { st with pid3 := v &&& pidMask st.cfg }
  | 13 => { st with pid4 := v &&& pidMask st.cfg }
  | 14 => { st with iva := v }
  | 15 => { st with eiem := v }
  | 16 => { st with itmrCmp := v }
  | 17 => { st with iiasqFront := st.iiasqBack, iiasqBack := v }
  | 18 => { st with iiaoqFront := st.iiaoqBack, iiaoqBack := v }
  | 22 => { st with ipsw := v }
  | 23 => { st with eirr := st.eirr &&& ~~~v }
  | 24 => { st with trs := writeReg8 st.trs 0#3 v }
  | 25 => { st with trs := writeReg8 st.trs 1#3 v }
  | 26 => { st with trs := writeReg8 st.trs 2#3 v }
  | 27 => { st with trs := writeReg8 st.trs 3#3 v }
  | 28 => { st with trs := writeReg8 st.trs 4#3 v }
  | 29 => { st with trs := writeReg8 st.trs 5#3 v }
  | 30 => { st with trs := writeReg8 st.trs 6#3 v }
  | 31 => { st with trs := writeReg8 st.trs 7#3 v }
  | _ => st

/-- The contents of a control register as MFCTL returns them (R644): CR 16 gives the counter, CR 17 and
18 the front elements. -/
def State.cr (st : State) (n : Nat) : Word :=
  match n with
  | 0 => st.rctr
  | 8 => st.pid1
  | 9 => st.pid2
  | 10 => (0#16 ++ st.scr ++ st.ccr : BitVec 32)
  | 11 => zeroExt st.sar
  | 12 => st.pid3
  | 13 => st.pid4
  | 14 => st.iva
  | 15 => st.eiem
  | 16 => st.itmr
  | 17 => st.iiasqFront
  | 18 => st.iiaoqFront
  | 19 => st.iir
  | 20 => st.isr
  | 21 => st.ior
  | 22 => st.ipsw
  | 23 => st.eirr
  | 24 => readReg8 st.trs 0#3
  | 25 => readReg8 st.trs 1#3
  | 26 => readReg8 st.trs 2#3
  | 27 => readReg8 st.trs 3#3
  | 28 => readReg8 st.trs 4#3
  | 29 => readReg8 st.trs 5#3
  | 30 => readReg8 st.trs 6#3
  | 31 => readReg8 st.trs 7#3
  | _ => 0#32

/-- MTCTL (R642): a register that Level 0 lacks, then the privilege test, which precedes every undefined
case (U18); the undefined writes are refused (U18, U1, U41). -/
def execMtctl (t r : Reg) (st : State) : Out :=
  let n := t.toNat
  if st.level0 ∧ absentInLevel0 n then done st st
  else if n ≠ 11 ∧ st.priv ≠ 0#2 then trapInstr 11 st
  else if 1 ≤ n ∧ n ≤ 7 then .refused .controlRegisterWrite
  else if n = 0 ∧ st.pswR then .refused .controlRegisterWrite
  else if (n = 17 ∨ n = 18 ∨ n = 22) ∧ st.pswQ then .refused .controlRegisterWrite
  else if 19 ≤ n ∧ n ≤ 21 then .refused .controlRegisterWrite
  else if n = 14 ∧ field (st.gr r) 21 11 ≠ 0#11 then .refused .reservedBits
  else if n = 22 ∧ st.gr r &&& pswReserved st.cfg ≠ 0#32 then .refused .reservedBits
  else done st (st.setCr n (st.gr r))

/-- MFCTL (R644): a register that Level 0 lacks, then the privilege test, which precedes every undefined
case; an undefined read leaves a free value in GR t (U18). -/
def execMfctl (r t : Reg) (st : State) : Out :=
  let n := r.toNat
  let free := done st (st.drawWord.2.setGr t st.drawWord.1)
  if st.level0 ∧ absentInLevel0 n then done st (st.setGr t 0#32)
  else if st.priv ≠ 0#2 ∧ !(n == 11 || n == 26 || n == 27 || (n == 16 && !st.pswS)) then
    trapInstr 11 st
  else if 1 ≤ n ∧ n ≤ 7 then free
  else if 17 ≤ n ∧ n ≤ 22 ∧ st.pswQ then free
  else if n = 0 ∧ st.pswR then free
  else done st (st.setGr t (st.cr n))

/-! ### Synchronization: with one processor in program order, null instructions -/

/-- SYNC (R646). -/
def execSync (st : State) : Out := done st st

/-- SYNCDMA (R647). -/
def execSyncdma (st : State) : Out := done st st

/-! ### Memory management: common forms (R648, R649)

These instructions run in `st.unrely`: after one of them, LPA excepted, no data translation is relied upon
(R201). An interrupted one leaves what was relied upon. -/

/-- The address of a format 15 instruction: the index is never shifted (R648). -/
def dataEa (st : State) (b x : Reg) (s : BitVec 2) (m : BitVec 1) : Ea := indexedEa st b x s 0#1 m 0

/-- The address of a format 16 instruction: the 3-bit field names the space register (R648). -/
def instrEa (st : State) (b x : Reg) (s : BitVec 3) (m : BitVec 1) : Ea :=
  { indexedEa st b x 0#2 0#1 m 0 with space := st.sr (assemble3 s) }

/-- A translation, made in `s0`, by an instruction that makes no access: trap `n` when the entry is absent
(R649). -/
def nonAccess (st s0 : State) (instr : Bool) (n : Nat) (space offset : Word)
    (k : TlbEntry → State → Out) : Out :=
  match s0.translate instr space offset with
  | some (e, s) => k e s
  | none => trapAddress n st space offset

/-- An operation on the TLB: null in Level 0, else privileged (R660 to R670). -/
def tlbOperation (st : State) (act : Out) : Out :=
  if st.level0 then done st st else privileged st act

/-! ### Probes, LPA, LCI -/

/-- A probe at privilege level `pl` (R650 to R653); in Level 0 the result is 1. -/
def probe (st : State) (b : Reg) (s : BitVec 2) (t : Reg) (write : Bool) (pl : BitVec 2) : Out :=
  if st.level0 then done st (st.setGr t 1#32)
  else
    nonAccess st st.unrely false 17 (st.space s (st.gr b)) (st.gr b) fun e s' =>
      done st (s'.setGr t (if st.probeAllowed e write pl then 1#32 else 0#32))

/-- PROBER (R650). -/
def execProber (b r : Reg) (s : BitVec 2) (t : Reg) (st : State) : Out :=
  probe st b s t false (field (st.gr r) 30 2)

/-- PROBERI (R651). -/
def execProberi (b : Reg) (im5 : BitVec 5) (s : BitVec 2) (t : Reg) (st : State) : Out :=
  probe st b s t false (im5.setWidth 2)

/-- PROBEW (R652). -/
def execProbew (b r : Reg) (s : BitVec 2) (t : Reg) (st : State) : Out :=
  probe st b s t true (field (st.gr r) 30 2)

/-- PROBEWI (R653). -/
def execProbewi (b : Reg) (im5 : BitVec 5) (s : BitVec 2) (t : Reg) (st : State) : Out :=
  probe st b s t true (im5.setWidth 2)

/-- LPA (R655): in Level 0 an undefined instruction (U19). With `b = t` the address wins. The translation
relied upon stays (R201). -/
def execLpa (b x : Reg) (s : BitVec 2) (m : BitVec 1) (t : Reg) (st : State) : Out :=
  if st.level0 then trapUndefined st
  else
    let ea := dataEa st b x s m
    privileged st
      (nonAccess st st false 17 ea.space ea.offset fun e s' =>
        done st ((s'.modifyBase b ea.base).setGr t (absoluteOf e ea.offset)))

/-- The physical page LCI's index is a function of: the translated one, or the offset's own while
nothing translates it (R243, R656). -/
def coherencePage (st : State) (space offset : Word) : BitVec 20 :=
  match tlbValid st.cfg (st.tlb false) space (vpnOf offset) with
  | some e => e.ppn
  | none => vpnOf offset

/-- LCI (R656): an undefined instruction without coherent I/O and in Level 0, at every privilege level
(U20). -/
def execLci (b x : Reg) (s : BitVec 2) (t : Reg) (st : State) : Out :=
  if st.level0 ∨ !st.cfg.coherentIo then trapUndefined st
  else
    let ea := dataEa st b x s 0#1
    privileged st
      (done st (st.unrely.setGr t (Config.coherenceIndex (coherencePage st ea.space ea.offset))))

/-! ### TLB purges -/

/-- Purge the page's translation (R660, R661). -/
def purge (st : State) (instr : Bool) (ea : Ea) (b : Reg) : Out :=
  tlbOperation st
    (done st ((st.unrely.setTlb instr
      (tlbInvalidate st.cfg (st.tlb instr) ea.space (vpnOf ea.offset))).modifyBase b ea.base))

/-- An entry purged without regard to its translation: E is 0, every other field a free value (R198). -/
def junkEntry (draw : Nat) : TlbEntry := { Config.freeTlbEntry draw with e := false }

/-- Purge the slot that the page number selects (R198, D6 (c)). -/
def purgeSlot (st : State) (instr : Bool) (ea : Ea) (b : Reg) : Out :=
  let i := (ea.offset >>> 12).toNat % st.tlbSlots instr
  let slots := (st.tlb instr).modify i fun slot => slot.map fun _ => junkEntry st.draws
  tlbOperation st
    (done st (({ st.unrely with draws := st.draws + 1 }.setTlb instr slots).modifyBase b ea.base))

/-- PDTLB (R660). -/
def execPdtlb (b x : Reg) (s : BitVec 2) (m : BitVec 1) (st : State) : Out :=
  purge st false (dataEa st b x s m) b

/-- PITLB (R661). -/
def execPitlb (b x : Reg) (s : BitVec 3) (m : BitVec 1) (st : State) : Out :=
  purge st true (instrEa st b x s m) b

/-- PDTLBE (R662). -/
def execPdtlbe (b x : Reg) (s : BitVec 2) (m : BitVec 1) (st : State) : Out :=
  purgeSlot st false (dataEa st b x s m) b

/-- PITLBE (R663). -/
def execPitlbe (b x : Reg) (s : BitVec 3) (m : BitVec 1) (st : State) : Out :=
  purgeSlot st true (instrEa st b x s m) b

/-! ### TLB inserts (R666) -/

/-- Insert address: an invalid entry for the page of `offset` with the page number in GR r (R667,
R669). The other fields of an invalid entry are never used. -/
def insertAddress (st : State) (instr : Bool) (space offset data : Word) : Out :=
  tlbOperation st
    (done st (st.unrely.tlbInsert instr
      { space := space, vpn := vpnOf offset, ppn := field data 7 20, accessRights := 0
        accessId := 0, e := false, u := false, t := false, d := false, b := false }))

/-- The entry with the protection fields of GR r, valid (R668, R670); a separate instruction TLB has no
U, T, D and B bits. -/
def protectEntry (c : Config) (instr : Bool) (data : Word) (e : TlbEntry) : TlbEntry :=
  let flags := !instr || c.tlbCombined
  { e with
    accessRights := field data 5 7
    accessId := field data 13 18 &&& accessIdMask c
    e := true
    u := if flags then mbit data 12 else e.u
    t := if flags then mbit data 2 else e.t
    d := if flags then mbit data 3 else e.d
    b := if flags then mbit data 4 else e.b }

/-- Insert protection into the page's entry, if there is one (R668, R670). -/
def insertProtection (st : State) (instr : Bool) (space offset data : Word) : Out :=
  let slots := match tlbSearch st.cfg (st.tlb instr) space (vpnOf offset) with
    | some i => (st.tlb instr).modify i fun slot => slot.map (protectEntry st.cfg instr data)
    | none => st.tlb instr
  tlbOperation st (done st (st.unrely.setTlb instr slots))

/-- IITLBA (R667). -/
def execIitlba (b r : Reg) (s : BitVec 3) (st : State) : Out :=
  insertAddress st true (st.sr (assemble3 s)) (st.gr b) (st.gr r)

/-- IITLBP (R668). -/
def execIitlbp (b r : Reg) (s : BitVec 3) (st : State) : Out :=
  insertProtection st true (st.sr (assemble3 s)) (st.gr b) (st.gr r)

/-- IDTLBA (R669). -/
def execIdtlba (b r : Reg) (s : BitVec 2) (st : State) : Out :=
  insertAddress st false (st.space s (st.gr b)) (st.gr b) (st.gr r)

/-- IDTLBP (R670). -/
def execIdtlbp (b r : Reg) (s : BitVec 2) (st : State) : Out :=
  insertProtection st false (st.space s (st.gr b)) (st.gr b) (st.gr r)

/-! ### Cache flush and purge: the caches hold nothing (R247, D7) -/

/-- A flush or purge of the line at an address: translation when PSW D is 1 (17, or 16 through the
instruction TLB), then the base update; to the I/O address space it is undefined (R251, U38). -/
def flush (st : State) (instr : Bool) (n : Nat) (ea : Ea) (b : Reg) : Out :=
  let finish := fun (s : State) (a : Word) =>
    if isIo a then .refused .uncacheable else done st (s.modifyBase b ea.base)
  if st.pswD then
    nonAccess st st.unrely instr n ea.space ea.offset fun e s => finish s (absoluteOf e ea.offset)
  else finish st.unrely ea.offset

/-- PDC (R675): this machine always flushes, so only interruption 17 can occur. -/
def execPdc (b x : Reg) (s : BitVec 2) (m : BitVec 1) (st : State) : Out :=
  flush st false 17 (dataEa st b x s m) b

/-- FDC (R676). -/
def execFdc (b x : Reg) (s : BitVec 2) (m : BitVec 1) (st : State) : Out :=
  flush st false 17 (dataEa st b x s m) b

/-- FIC (R679): through the data TLB and reporting 17 where the machine does so (D6). -/
def execFic (b x : Reg) (s : BitVec 3) (m : BitVec 1) (st : State) : Out :=
  if st.cfg.ficUsesDtlb ∨ st.cfg.tlbCombined then flush st false 17 (instrEa st b x s m) b
  else flush st true 16 (instrEa st b x s m) b

/-- FDCE (R680): no translation. DESIGN CHOICE, unsafe (notes/assumptions/59.md): it is a null instruction
for an offset in the I/O address space too, where R251 and U38 call flush instructions undefined. -/
def execFdce (b x : Reg) (s : BitVec 2) (m : BitVec 1) (st : State) : Out :=
  done st (st.unrely.modifyBase b (dataEa st b x s m).base)

/-- FICE (R681): no translation. DESIGN CHOICE, unsafe (notes/assumptions/59.md): it is a null instruction
for an offset in the I/O address space too, where R251 and U38 call flush instructions undefined. -/
def execFice (b x : Reg) (s : BitVec 3) (m : BitVec 1) (st : State) : Out :=
  done st (st.unrely.modifyBase b (instrEa st b x s m).base)

/-! ### Diagnose -/

/-- DIAG (R690): at privilege level 0 what DIAG_SEMANTICS says, nothing by default (D13). After it no data
translation is relied upon (R201). -/
def execDiag (_im26 : BitVec 26) (st : State) : Out :=
  privileged st
    (match st.cfg.diagSemantics with
    | .null => done st st.unrely
    | .illegal => trapUndefined st)

end Sys2Proof.Machine
end

