-- ==== Sys2Proof/Machine/Dispatch.lean ====
section
/-!
DEFINITION. The meaning of each instruction, one arm for each constructor.
-/

namespace Sys2Proof.Machine

def exec (i : Instr) (s : State) : Host.Outcome State Fault Refusal :=
  match i with
  | .ldw b t sf im14 => Sys2Proof.Machine.execLdw b t sf im14 s
  | .ldh b t sf im14 => Sys2Proof.Machine.execLdh b t sf im14 s
  | .ldb b t sf im14 => Sys2Proof.Machine.execLdb b t sf im14 s
  | .ldwm b t sf im14 => Sys2Proof.Machine.execLdwm b t sf im14 s
  | .stw b r sf im14 => Sys2Proof.Machine.execStw b r sf im14 s
  | .sth b r sf im14 => Sys2Proof.Machine.execSth b r sf im14 s
  | .stb b r sf im14 => Sys2Proof.Machine.execStb b r sf im14 s
  | .stwm b r sf im14 => Sys2Proof.Machine.execStwm b r sf im14 s
  | .ldwx b x sf u cc m t => Sys2Proof.Machine.execLdwx b x sf u cc m t s
  | .ldhx b x sf u cc m t => Sys2Proof.Machine.execLdhx b x sf u cc m t s
  | .ldbx b x sf u cc m t => Sys2Proof.Machine.execLdbx b x sf u cc m t s
  | .ldcwx b x sf u cc m t => Sys2Proof.Machine.execLdcwx b x sf u cc m t s
  | .ldwax b x u cc m t => Sys2Proof.Machine.execLdwax b x u cc m t s
  | .ldws b im5 sf a cc m t => Sys2Proof.Machine.execLdws b im5 sf a cc m t s
  | .ldhs b im5 sf a cc m t => Sys2Proof.Machine.execLdhs b im5 sf a cc m t s
  | .ldbs b im5 sf a cc m t => Sys2Proof.Machine.execLdbs b im5 sf a cc m t s
  | .ldcws b im5 sf a cc m t => Sys2Proof.Machine.execLdcws b im5 sf a cc m t s
  | .ldwas b im5 a cc m t => Sys2Proof.Machine.execLdwas b im5 a cc m t s
  | .stws b r sf a cc m im5 => Sys2Proof.Machine.execStws b r sf a cc m im5 s
  | .stbys b r sf a cc m im5 => Sys2Proof.Machine.execStbys b r sf a cc m im5 s
  | .sths b r sf a cc m im5 => Sys2Proof.Machine.execSths b r sf a cc m im5 s
  | .stbs b r sf a cc m im5 => Sys2Proof.Machine.execStbs b r sf a cc m im5 s
  | .stwas b r a cc m im5 => Sys2Proof.Machine.execStwas b r a cc m im5 s
  | .ldo b t im14 => Sys2Proof.Machine.execLdo b t im14 s
  | .ldil t im21 => Sys2Proof.Machine.execLdil t im21 s
  | .addil r im21 => Sys2Proof.Machine.execAddil r im21 s
  | .bl t w1 w2 n w => Sys2Proof.Machine.execBl t w1 w2 n w s
  | .gate t w1 w2 n w => Sys2Proof.Machine.execGate t w1 w2 n w s
  | .blr t x n => Sys2Proof.Machine.execBlr t x n s
  | .bv b x n => Sys2Proof.Machine.execBv b x n s
  | .be b w1 sf w2 n w => Sys2Proof.Machine.execBe b w1 sf w2 n w s
  | .ble b w1 sf w2 n w => Sys2Proof.Machine.execBle b w1 sf w2 n w s
  | .movb r2 r1 c w1 n w => Sys2Proof.Machine.execMovb r2 r1 c w1 n w s
  | .combt r2 r1 c w1 n w => Sys2Proof.Machine.execCombt r2 r1 c w1 n w s
  | .combf r2 r1 c w1 n w => Sys2Proof.Machine.execCombf r2 r1 c w1 n w s
  | .addbt r2 r1 c w1 n w => Sys2Proof.Machine.execAddbt r2 r1 c w1 n w s
  | .addbf r2 r1 c w1 n w => Sys2Proof.Machine.execAddbf r2 r1 c w1 n w s
  | .movib r im5 c w1 n w => Sys2Proof.Machine.execMovib r im5 c w1 n w s
  | .comibt r im5 c w1 n w => Sys2Proof.Machine.execComibt r im5 c w1 n w s
  | .comibf r im5 c w1 n w => Sys2Proof.Machine.execComibf r im5 c w1 n w s
  | .addibt r im5 c w1 n w => Sys2Proof.Machine.execAddibt r im5 c w1 n w s
  | .addibf r im5 c w1 n w => Sys2Proof.Machine.execAddibf r im5 c w1 n w s
  | .bvb r c w1 n w => Sys2Proof.Machine.execBvb r c w1 n w s
  | .bb p r c w1 n w => Sys2Proof.Machine.execBb p r c w1 n w s
  | .add r2 r1 c f t => Sys2Proof.Machine.execAdd r2 r1 c f t s
  | .addl r2 r1 c f t => Sys2Proof.Machine.execAddl r2 r1 c f t s
  | .addo r2 r1 c f t => Sys2Proof.Machine.execAddo r2 r1 c f t s
  | .addc r2 r1 c f t => Sys2Proof.Machine.execAddc r2 r1 c f t s
  | .addco r2 r1 c f t => Sys2Proof.Machine.execAddco r2 r1 c f t s
  | .sh1add r2 r1 c f t => Sys2Proof.Machine.execSh1add r2 r1 c f t s
  | .sh1addl r2 r1 c f t => Sys2Proof.Machine.execSh1addl r2 r1 c f t s
  | .sh1addo r2 r1 c f t => Sys2Proof.Machine.execSh1addo r2 r1 c f t s
  | .sh2add r2 r1 c f t => Sys2Proof.Machine.execSh2add r2 r1 c f t s
  | .sh2addl r2 r1 c f t => Sys2Proof.Machine.execSh2addl r2 r1 c f t s
  | .sh2addo r2 r1 c f t => Sys2Proof.Machine.execSh2addo r2 r1 c f t s
  | .sh3add r2 r1 c f t => Sys2Proof.Machine.execSh3add r2 r1 c f t s
  | .sh3addl r2 r1 c f t => Sys2Proof.Machine.execSh3addl r2 r1 c f t s
  | .sh3addo r2 r1 c f t => Sys2Proof.Machine.execSh3addo r2 r1 c f t s
  | .sub r2 r1 c f t => Sys2Proof.Machine.execSub r2 r1 c f t s
  | .subo r2 r1 c f t => Sys2Proof.Machine.execSubo r2 r1 c f t s
  | .subb r2 r1 c f t => Sys2Proof.Machine.execSubb r2 r1 c f t s
  | .subbo r2 r1 c f t => Sys2Proof.Machine.execSubbo r2 r1 c f t s
  | .subt r2 r1 c f t => Sys2Proof.Machine.execSubt r2 r1 c f t s
  | .subto r2 r1 c f t => Sys2Proof.Machine.execSubto r2 r1 c f t s
  | .ds r2 r1 c f t => Sys2Proof.Machine.execDs r2 r1 c f t s
  | .comclr r2 r1 c f t => Sys2Proof.Machine.execComclr r2 r1 c f t s
  | .or r2 r1 c f t => Sys2Proof.Machine.execOr r2 r1 c f t s
  | .xor r2 r1 c f t => Sys2Proof.Machine.execXor r2 r1 c f t s
  | .and r2 r1 c f t => Sys2Proof.Machine.execAnd r2 r1 c f t s
  | .andcm r2 r1 c f t => Sys2Proof.Machine.execAndcm r2 r1 c f t s
  | .uxor r2 r1 c f t => Sys2Proof.Machine.execUxor r2 r1 c f t s
  | .uaddcm r2 r1 c f t => Sys2Proof.Machine.execUaddcm r2 r1 c f t s
  | .uaddcmt r2 r1 c f t => Sys2Proof.Machine.execUaddcmt r2 r1 c f t s
  | .dcor r c f t => Sys2Proof.Machine.execDcor r c f t s
  | .idcor r c f t => Sys2Proof.Machine.execIdcor r c f t s
  | .addi r t c f im11 => Sys2Proof.Machine.execAddi r t c f im11 s
  | .addio r t c f im11 => Sys2Proof.Machine.execAddio r t c f im11 s
  | .addit r t c f im11 => Sys2Proof.Machine.execAddit r t c f im11 s
  | .addito r t c f im11 => Sys2Proof.Machine.execAddito r t c f im11 s
  | .subi r t c f im11 => Sys2Proof.Machine.execSubi r t c f im11 s
  | .subio r t c f im11 => Sys2Proof.Machine.execSubio r t c f im11 s
  | .comiclr r t c f im11 => Sys2Proof.Machine.execComiclr r t c f im11 s
  | .vshd r2 r1 c t => Sys2Proof.Machine.execVshd r2 r1 c t s
  | .shd r2 r1 c cp t => Sys2Proof.Machine.execShd r2 r1 c cp t s
  | .vextru r t c clen => Sys2Proof.Machine.execVextru r t c clen s
  | .vextrs r t c clen => Sys2Proof.Machine.execVextrs r t c clen s
  | .extru r t c p clen => Sys2Proof.Machine.execExtru r t c p clen s
  | .extrs r t c p clen => Sys2Proof.Machine.execExtrs r t c p clen s
  | .zvdep t r c clen => Sys2Proof.Machine.execZvdep t r c clen s
  | .vdep t r c clen => Sys2Proof.Machine.execVdep t r c clen s
  | .zdep t r c cp clen => Sys2Proof.Machine.execZdep t r c cp clen s
  | .dep t r c cp clen => Sys2Proof.Machine.execDep t r c cp clen s
  | .zvdepi t im5 c clen => Sys2Proof.Machine.execZvdepi t im5 c clen s
  | .vdepi t im5 c clen => Sys2Proof.Machine.execVdepi t im5 c clen s
  | .zdepi t im5 c cp clen => Sys2Proof.Machine.execZdepi t im5 c cp clen s
  | .depi t im5 c cp clen => Sys2Proof.Machine.execDepi t im5 c cp clen s
  | .breakTrap im13 im5 => Sys2Proof.Machine.execBreakTrap im13 im5 s
  | .sync => Sys2Proof.Machine.execSync s
  | .syncdma => Sys2Proof.Machine.execSyncdma s
  | .rfi => Sys2Proof.Machine.execRfi s
  | .rfir => Sys2Proof.Machine.execRfir s
  | .ssm imm t => Sys2Proof.Machine.execSsm imm t s
  | .rsm imm t => Sys2Proof.Machine.execRsm imm t s
  | .mtsm r => Sys2Proof.Machine.execMtsm r s
  | .ldsid b sf t => Sys2Proof.Machine.execLdsid b sf t s
  | .mtsp r sf => Sys2Proof.Machine.execMtsp r sf s
  | .mfsp sf t => Sys2Proof.Machine.execMfsp sf t s
  | .mtctl t r => Sys2Proof.Machine.execMtctl t r s
  | .mfctl r t => Sys2Proof.Machine.execMfctl r t s
  | .idtlba b r sf => Sys2Proof.Machine.execIdtlba b r sf s
  | .idtlbp b r sf => Sys2Proof.Machine.execIdtlbp b r sf s
  | .pdtlb b x sf m => Sys2Proof.Machine.execPdtlb b x sf m s
  | .pdtlbe b x sf m => Sys2Proof.Machine.execPdtlbe b x sf m s
  | .fdc b x sf m => Sys2Proof.Machine.execFdc b x sf m s
  | .fdce b x sf m => Sys2Proof.Machine.execFdce b x sf m s
  | .pdc b x sf m => Sys2Proof.Machine.execPdc b x sf m s
  | .prober b r sf t => Sys2Proof.Machine.execProber b r sf t s
  | .proberi b im5 sf t => Sys2Proof.Machine.execProberi b im5 sf t s
  | .probew b r sf t => Sys2Proof.Machine.execProbew b r sf t s
  | .probewi b im5 sf t => Sys2Proof.Machine.execProbewi b im5 sf t s
  | .lpa b x sf m t => Sys2Proof.Machine.execLpa b x sf m t s
  | .lci b x sf t => Sys2Proof.Machine.execLci b x sf t s
  | .iitlba b r sf => Sys2Proof.Machine.execIitlba b r sf s
  | .iitlbp b r sf => Sys2Proof.Machine.execIitlbp b r sf s
  | .pitlb b x sf m => Sys2Proof.Machine.execPitlb b x sf m s
  | .pitlbe b x sf m => Sys2Proof.Machine.execPitlbe b x sf m s
  | .fic b x sf m => Sys2Proof.Machine.execFic b x sf m s
  | .fice b x sf m => Sys2Proof.Machine.execFice b x sf m s
  | .diag im26 => Sys2Proof.Machine.execDiag im26 s
  | .spop0 sop1 sfu n sop2 => Sys2Proof.Machine.execSpop0 sop1 sfu n sop2 s
  | .spop1 sop sfu n t => Sys2Proof.Machine.execSpop1 sop sfu n t s
  | .spop2 r sop1 sfu n sop2 => Sys2Proof.Machine.execSpop2 r sop1 sfu n sop2 s
  | .spop3 r2 r1 sop1 sfu n sop2 => Sys2Proof.Machine.execSpop3 r2 r1 sop1 sfu n sop2 s
  | .copr sop1 uid n sop2 => Sys2Proof.Machine.execCopr sop1 uid n sop2 s
  | .cldwx b x sf u cc uid m t => Sys2Proof.Machine.execCldwx b x sf u cc uid m t s
  | .clddx b x sf u cc uid m t => Sys2Proof.Machine.execClddx b x sf u cc uid m t s
  | .cstwx b x sf u cc uid m r => Sys2Proof.Machine.execCstwx b x sf u cc uid m r s
  | .cstdx b x sf u cc uid m r => Sys2Proof.Machine.execCstdx b x sf u cc uid m r s
  | .cldws b im5 sf a cc uid m t => Sys2Proof.Machine.execCldws b im5 sf a cc uid m t s
  | .cldds b im5 sf a cc uid m t => Sys2Proof.Machine.execCldds b im5 sf a cc uid m t s
  | .cstws b im5 sf a cc uid m r => Sys2Proof.Machine.execCstws b im5 sf a cc uid m r s
  | .cstds b im5 sf a cc uid m r => Sys2Proof.Machine.execCstds b im5 sf a cc uid m r s
  | .fldwx b x sf u cc t_h m t => Sys2Proof.Machine.execFldwx b x sf u cc t_h m t s
  | .fstwx b x sf u cc r_h m r => Sys2Proof.Machine.execFstwx b x sf u cc r_h m r s
  | .flddx b x sf u cc m t => Sys2Proof.Machine.execFlddx b x sf u cc m t s
  | .fstdx b x sf u cc m r => Sys2Proof.Machine.execFstdx b x sf u cc m r s
  | .fldws b im5 sf a cc t_h m t => Sys2Proof.Machine.execFldws b im5 sf a cc t_h m t s
  | .fstws b im5 sf a cc r_h m r => Sys2Proof.Machine.execFstws b im5 sf a cc r_h m r s
  | .fldds b im5 sf a cc m t => Sys2Proof.Machine.execFldds b im5 sf a cc m t s
  | .fstds b im5 sf a cc m r => Sys2Proof.Machine.execFstds b im5 sf a cc m r s
  | .copr00 => Sys2Proof.Machine.execCopr00 s
  | .fcpy r fmt t => Sys2Proof.Machine.execFcpy r fmt t s
  | .fcpy0E r fmt r_h t_h t => Sys2Proof.Machine.execFcpy0E r fmt r_h t_h t s
  | .fabs r fmt t => Sys2Proof.Machine.execFabs r fmt t s
  | .fabs0E r fmt r_h t_h t => Sys2Proof.Machine.execFabs0E r fmt r_h t_h t s
  | .fsqrt r fmt t => Sys2Proof.Machine.execFsqrt r fmt t s
  | .fsqrt0E r fmt r_h t_h t => Sys2Proof.Machine.execFsqrt0E r fmt r_h t_h t s
  | .frnd r fmt t => Sys2Proof.Machine.execFrnd r fmt t s
  | .frnd0E r fmt r_h t_h t => Sys2Proof.Machine.execFrnd0E r fmt r_h t_h t s
  | .fcnvff r df sf t => Sys2Proof.Machine.execFcnvff r df sf t s
  | .fcnvff0E r df sf r_h t_h t => Sys2Proof.Machine.execFcnvff0E r df sf r_h t_h t s
  | .fcnvxf r df sf t => Sys2Proof.Machine.execFcnvxf r df sf t s
  | .fcnvxf0E r df sf r_h t_h t => Sys2Proof.Machine.execFcnvxf0E r df sf r_h t_h t s
  | .fcnvfx r df sf t => Sys2Proof.Machine.execFcnvfx r df sf t s
  | .fcnvfx0E r df sf r_h t_h t => Sys2Proof.Machine.execFcnvfx0E r df sf r_h t_h t s
  | .fcnvfxt r df sf t => Sys2Proof.Machine.execFcnvfxt r df sf t s
  | .fcnvfxt0E r df sf r_h t_h t => Sys2Proof.Machine.execFcnvfxt0E r df sf r_h t_h t s
  | .fcmp r1 r2 fmt c => Sys2Proof.Machine.execFcmp r1 r2 fmt c s
  | .fcmp0E r1 r2 r2_h f r1_h c => Sys2Proof.Machine.execFcmp0E r1 r2 r2_h f r1_h c s
  | .ftest c => Sys2Proof.Machine.execFtest c s
  | .fadd r1 r2 fmt t => Sys2Proof.Machine.execFadd r1 r2 fmt t s
  | .fadd0E r1 r2 r2_h f r1_h t_h t => Sys2Proof.Machine.execFadd0E r1 r2 r2_h f r1_h t_h t s
  | .fsub r1 r2 fmt t => Sys2Proof.Machine.execFsub r1 r2 fmt t s
  | .fsub0E r1 r2 r2_h f r1_h t_h t => Sys2Proof.Machine.execFsub0E r1 r2 r2_h f r1_h t_h t s
  | .fmpy r1 r2 fmt t => Sys2Proof.Machine.execFmpy r1 r2 fmt t s
  | .fmpy0E r1 r2 r2_h f r1_h t_h t => Sys2Proof.Machine.execFmpy0E r1 r2 r2_h f r1_h t_h t s
  | .fdiv r1 r2 fmt t => Sys2Proof.Machine.execFdiv r1 r2 fmt t s
  | .fdiv0E r1 r2 r2_h f r1_h t_h t => Sys2Proof.Machine.execFdiv0E r1 r2 r2_h f r1_h t_h t s
  | .xmpyu r1 r2 r2_h r1_h t => Sys2Proof.Machine.execXmpyu r1 r2 r2_h r1_h t s
  | .fmpyadd rm1 rm2 ta ra f tm => Sys2Proof.Machine.execFmpyadd rm1 rm2 ta ra f tm s
  | .fmpysub rm1 rm2 ta ra f tm => Sys2Proof.Machine.execFmpysub rm1 rm2 ta ra f tm s
  | .pmdis => Sys2Proof.Machine.execPmdis s
  | .pmenb => Sys2Proof.Machine.execPmenb s
  | .debugid t => Sys2Proof.Machine.execDebugid t s
  | .mfdbao r t => Sys2Proof.Machine.execMfdbao r t s
  | .mfdbam r t => Sys2Proof.Machine.execMfdbam r t s
  | .mfibao r t => Sys2Proof.Machine.execMfibao r t s
  | .mfibam r t => Sys2Proof.Machine.execMfibam r t s
  | .mtdbao r t => Sys2Proof.Machine.execMtdbao r t s
  | .mtdbam r t => Sys2Proof.Machine.execMtdbam r t s
  | .mtibao r t => Sys2Proof.Machine.execMtibao r t s
  | .mtibam r t => Sys2Proof.Machine.execMtibam r t s

end Sys2Proof.Machine
end

