-- ==== Sys2Proof/Machine/Boundary.lean ====
section
/-!
DEFINITION. One step of the processor (spec/60_exceptions.md R915): the inputs at the boundary, the
interruptions of groups 1 and 2, a nullified instruction, the fetch, decoding and execution of one
instruction, and the interval timer.
-/

namespace Sys2Proof.Machine

/-! ### The boundary: inputs and the interval timer -/

/-- The inputs of this step (R912, D11, D12): external interrupt bits 1 to 31 set EIRR bits, the four
others become pending. -/
def State.takeInput (s : State) : State :=
  match s.inputs with
  | [] => s
  | i :: rest =>
    { s with
      inputs := rest
      eirr := s.eirr ||| (i.ext &&& 0x7FFFFFFF#32)
      pendHpmc := s.pendHpmc || i.hpmc
      pendPowerFail := s.pendPowerFail || i.powerFail
      pendLpmc := s.pendLpmc || i.lpmc
      pendPerfmon := s.pendPerfmon || i.perfmon }

/-- One tick of the interval timer: EIRR bit 0 is set when the counter equals the comparator (R985). -/
def State.tick (s : State) : State :=
  let c := s.itmr + 1#32
  { s with itmr := c, eirr := if c = s.itmrCmp then s.eirr ||| 0x80000000#32 else s.eirr }

/-- `n` ticks. -/
def State.ticks (s : State) (n : Nat) : State :=
  match n with
  | 0 => s
  | n + 1 => s.tick.ticks n

/-- The ticks of one step at the rate ITMR_RATE (D5). -/
def State.runTimer (s : State) : State :=
  let phase := s.itmrPhase + s.cfg.itmrNum
  { s.ticks (phase / (s.cfg.itmrDenPred + 1)) with itmrPhase := phase % (s.cfg.itmrDenPred + 1) }

/-- The interval timer runs after what the step does, so that an instruction reads the counter as it stood
before the step, and a match is seen by the next step (R985, spec/95_test_vectors.md V45, V70). -/
def elapse (o : Out) : Out :=
  match o with
  | .next s => .next s.runTimer
  | .fault f => .fault f
  | .refused r => .refused r

/-! ### Groups 1 and 2 (R915 steps 1 and 2) -/

/-- A high-priority machine check while PSW M is 1 (U9). -/
def machineCheckStop (s : State) : Bool := s.pswM && s.pendHpmc

/-- The interruption of group 1 or 2 to take, if any. -/
def pendingInterruption (s : State) : Option Nat :=
  if !s.pswM && s.pendHpmc then some 1
  else if s.pswI && s.pendPowerFail then some 2
  else if s.pswR && mbit s.rctr 0 then some 3
  else if s.pswI && s.eirr &&& s.eiem != 0#32 then some 4
  else if s.pswI && s.pendLpmc then some 5
  else if s.pswF && s.pendPerfmon then some 29
  else none

/-- The pending bit of an interruption is cleared when it is taken (R912, D12). -/
def clearPending (n : Nat) (s : State) : State :=
  { s with
    pendHpmc := s.pendHpmc && n != 1
    pendPowerFail := s.pendPowerFail && n != 2
    pendLpmc := s.pendLpmc && n != 5
    pendPerfmon := s.pendPerfmon && n != 29 }

/-! ### Fetch, decode, execute (R915 step 3) -/

/-- A reserved sub-op of opcode 0E: class 0 sub 6, 7; class 3 sub 5, 6 with x = 0 (R772, R822 (a)).
DESIGN CHOICE, unsafe (notes/assumptions/54.md): a word that has a reserved sub-op and also an undefined
format code (class 0 fmt 2 or 3; class 3 f = 1 with bit 19 = 1) or a non-zero literal-zero field (bit 26,
or bits 11..15 or bit 23 in class 0) falls under (a) and (b) of R822; here the sub-op decides, so it takes
trap 14. -/
def fpReserved0E (w : Word) : Bool :=
  let sub := (field w 16 3).toNat
  match (field w 21 2).toNat with
  | 0 => sub == 6 || sub == 7
  | 3 => !mbit w 23 && (sub == 5 || sub == 6)
  | _ => false

/-- A word that is no instruction: the illegal instruction trap (D8, D14); for opcode 0E after the
floating-point coprocessor's own tests (U24). -/
def undefinedWord (s : State) (w : Word) : Out :=
  if field w 0 6 = 0x0E#6 then fpNoInstruction s (fpReserved0E w) else trapUndefined s

/-- Decode a word and execute it. -/
def runWord (s : State) (w : Word) : Out :=
  match decode w with
  | some i => exec i { s with iword := w }
  | none => undefinedWord { s with iword := w } w

/-- An instruction that is not nullified: fetch, with the interruptions 6, 7 and 30, then execution. -/
def runInstruction (s : State) : Out :=
  match s.fetch with
  | .ok (s', w) => runWord s' w
  | .trap n => .next (take n .none s.fetchWalked)
  | .refused r => .refused r
  | .fault f => .fault f

/-- The major opcodes whose instructions make data references: Index_Mem, Copr_w, Copr_dw, and the loads
and stores with a long displacement (R340). -/
def dataReferenceGroups : List (BitVec 6) :=
  [0x03#6, 0x09#6, 0x0B#6, 0x10#6, 0x11#6, 0x12#6, 0x13#6, 0x18#6, 0x19#6, 0x1A#6, 0x1B#6]

/-- The state with a data TLB that translates nothing: a virtual data reference takes interruption 15, after
the reference has been made, whatever stands at its address. -/
def State.withoutData (s : State) : State :=
  { s with dtlb := [], cfg := { s.cfg with hwTlbMiss := false } }

/-- The translation relied upon after the virtual data reference that the word would make, executed in this
state (R201); a word that would make none leaves it. -/
def State.reliedAfterWord (s : State) (w : Word) : Option (Word × BitVec 20) :=
  if dataReferenceGroups.contains (field w 0 6) then
    match decode w with
    | none => s.relied
    | some i =>
      match exec i { s.withoutData with iword := w } with
      | .next t => if t.relied = s.relied then s.relied else none
      | .refused _ => s.relied
      | .fault _ => s.relied
  else s.relied

/-- The translation relied upon after a nullified instruction (R201): none when it would have made a virtual
data reference to another page. DESIGN CHOICE (notes/assumptions/58.md): none as well when PSW C is 1, as
after a virtual instruction reference. -/
def State.reliedAfterSkip (s : State) : Option (Word × BitVec 20) :=
  if s.relied = none ∨ s.pswC then none
  else if s.pswD then
    match s.fetch with
    | .ok (_, w) => s.reliedAfterWord w
    | .trap _ => s.relied
    | .refused _ => s.relied
    | .fault _ => s.relied
  else s.relied

/-- What a step does, its inputs taken: an interruption of group 1 or 2, a nullified instruction, or the
instruction at the front of the queues (R915). -/
def act (s : State) : Out :=
  match pendingInterruption s with
  | some n => .next (take n .none (clearPending n s))
  | none =>
    if s.pswN then .next (skipNullified { s with relied := s.reliedAfterSkip }) else runInstruction s

/-- One step. -/
def cycle (s : State) : Out :=
  if machineCheckStop s.takeInput then .fault .machineCheckStop else elapse (act s.takeInput)

/-! ### Placing an instruction where the next fetch reads it -/

/-- The absolute address of the next fetch, when its translation is present. -/
def State.fetchPlace (s : State) : Option Nat :=
  if s.pswC then
    match s.translate true s.iasqFront s.fetchOffset with
    | some (e, _) => some (absoluteOf e s.fetchOffset).toNat
    | none => none
  else some s.fetchOffset.toNat

/-- The word stored in the byte order of the fetch. -/
def State.placeWord (s : State) (w : Word) : State :=
  match s.fetchPlace with
  | some a => s.storeBytes a (wordBytes s.pswE w)
  | none => s

end Sys2Proof.Machine
end

