-- ==== Sys2Proof/Machine/Step.lean ====
section
/-!
DEFINITION. The step of the machine, and the state with an instruction placed where the step fetches.
-/

namespace Sys2Proof.Machine

/-- One step of the processor (spec/60_exceptions.md R915). -/
def step (s : State) : Host.Outcome State Fault Refusal := cycle s

/-- The state with an instruction word where the next fetch reads it. An instruction is one word; `w` is
numbered as spec/opcode_table.json numbers it. -/
def State.withFetchWord (s : State) (nbits w : Nat) : State :=
  s.placeWord (BitVec.ofNat 32 (w % 2 ^ nbits))

end Sys2Proof.Machine
end

