-- ==== Sys2Proof/WellFormed.lean ====
section
/-!
DEFINITION. Which instructions are well formed. Every operand field admits every value its width
admits; the only restriction is that a general row (COPR, SPOP1, SPOP2, the coprocessor loads and
stores) does not stand for a word that a more specific row takes (spec/30_encoding.md R348 to R354).
-/

namespace Sys2Proof

/-- The words of major opcode 0C, uid 0, that a floating-point row takes (R350): `sop1` is bits 6..22. -/
def takenByFloat (sop1 : BitVec 17) (n : BitVec 1) (sop2 : BitVec 5) : Bool :=
  let sub := sop1.extractLsb' 4 3
  match (sop1.extractLsb' 0 2).toNat with
  | 0 => n == 0#1 &&
      ((sop1 == 0#17 && sop2 == 0#5) ||
        (sop1.extractLsb' 7 5 == 0#5 && (sub == 2#3 || sub == 3#3 || sub == 4#3 || sub == 5#3)))
  | 1 => n == 0#1 && sop1.extractLsb' 8 4 == 0#4
  | 2 => (sub == 0#3 && n == 0#1) ||
      (sub == 1#3 && n == 1#1 && sop1.extractLsb' 7 10 == 0#10 && sop1.extractLsb' 2 2 == 0#2)
  | _ => n == 0#1 && (sub == 0#3 || sub == 1#3 || sub == 2#3 || sub == 3#3)

/-- The words of major opcode 0C, uid 2, that PMDIS or PMENB takes (R353). -/
def takenByPerfmon (sop1 : BitVec 17) (n : BitVec 1) : Bool :=
  n == 0#1 && (sop1.extractLsb' 0 5 == 1#5 || sop1.extractLsb' 0 5 == 3#5)

/-- The words of major opcode 04, format 1, that a debug SFU row takes (R354): `sop` is bits 6..20. -/
def takenByDebug1 (sop : BitVec 15) (sfu : BitVec 3) (n : BitVec 1) : Bool :=
  sfu == 1#3 && n == 0#1 && (sop == 0#15 || sop.extractLsb' 2 1 == 1#1)

/-- The words of major opcode 04, format 2, that a debug SFU row takes (R354): `sop1` is bits 11..20. -/
def takenByDebug2 (sop1 : BitVec 10) (sfu : BitVec 3) (n : BitVec 1) : Bool :=
  sfu == 1#3 && n == 0#1 && sop1.extractLsb' 2 1 == 1#1

/-- An instruction that some word decodes to. -/
def Instr.wf (i : Instr) : Bool :=
  match i with
  | .ldw _ _ _ _ => true
  | .ldh _ _ _ _ => true
  | .ldb _ _ _ _ => true
  | .ldwm _ _ _ _ => true
  | .stw _ _ _ _ => true
  | .sth _ _ _ _ => true
  | .stb _ _ _ _ => true
  | .stwm _ _ _ _ => true
  | .ldwx _ _ _ _ _ _ _ => true
  | .ldhx _ _ _ _ _ _ _ => true
  | .ldbx _ _ _ _ _ _ _ => true
  | .ldcwx _ _ _ _ _ _ _ => true
  | .ldwax _ _ _ _ _ _ => true
  | .ldws _ _ _ _ _ _ _ => true
  | .ldhs _ _ _ _ _ _ _ => true
  | .ldbs _ _ _ _ _ _ _ => true
  | .ldcws _ _ _ _ _ _ _ => true
  | .ldwas _ _ _ _ _ _ => true
  | .stws _ _ _ _ _ _ _ => true
  | .stbys _ _ _ _ _ _ _ => true
  | .sths _ _ _ _ _ _ _ => true
  | .stbs _ _ _ _ _ _ _ => true
  | .stwas _ _ _ _ _ _ => true
  | .ldo _ _ _ => true
  | .ldil _ _ => true
  | .addil _ _ => true
  | .bl _ _ _ _ _ => true
  | .gate _ _ _ _ _ => true
  | .blr _ _ _ => true
  | .bv _ _ _ => true
  | .be _ _ _ _ _ _ => true
  | .ble _ _ _ _ _ _ => true
  | .movb _ _ _ _ _ _ => true
  | .combt _ _ _ _ _ _ => true
  | .combf _ _ _ _ _ _ => true
  | .addbt _ _ _ _ _ _ => true
  | .addbf _ _ _ _ _ _ => true
  | .movib _ _ _ _ _ _ => true
  | .comibt _ _ _ _ _ _ => true
  | .comibf _ _ _ _ _ _ => true
  | .addibt _ _ _ _ _ _ => true
  | .addibf _ _ _ _ _ _ => true
  | .bvb _ _ _ _ _ => true
  | .bb _ _ _ _ _ _ => true
  | .add _ _ _ _ _ => true
  | .addl _ _ _ _ _ => true
  | .addo _ _ _ _ _ => true
  | .addc _ _ _ _ _ => true
  | .addco _ _ _ _ _ => true
  | .sh1add _ _ _ _ _ => true
  | .sh1addl _ _ _ _ _ => true
  | .sh1addo _ _ _ _ _ => true
  | .sh2add _ _ _ _ _ => true
  | .sh2addl _ _ _ _ _ => true
  | .sh2addo _ _ _ _ _ => true
  | .sh3add _ _ _ _ _ => true
  | .sh3addl _ _ _ _ _ => true
  | .sh3addo _ _ _ _ _ => true
  | .sub _ _ _ _ _ => true
  | .subo _ _ _ _ _ => true
  | .subb _ _ _ _ _ => true
  | .subbo _ _ _ _ _ => true
  | .subt _ _ _ _ _ => true
  | .subto _ _ _ _ _ => true
  | .ds _ _ _ _ _ => true
  | .comclr _ _ _ _ _ => true
  | .or _ _ _ _ _ => true
  | .xor _ _ _ _ _ => true
  | .and _ _ _ _ _ => true
  | .andcm _ _ _ _ _ => true
  | .uxor _ _ _ _ _ => true
  | .uaddcm _ _ _ _ _ => true
  | .uaddcmt _ _ _ _ _ => true
  | .dcor _ _ _ _ => true
  | .idcor _ _ _ _ => true
  | .addi _ _ _ _ _ => true
  | .addio _ _ _ _ _ => true
  | .addit _ _ _ _ _ => true
  | .addito _ _ _ _ _ => true
  | .subi _ _ _ _ _ => true
  | .subio _ _ _ _ _ => true
  | .comiclr _ _ _ _ _ => true
  | .vshd _ _ _ _ => true
  | .shd _ _ _ _ _ => true
  | .vextru _ _ _ _ => true
  | .vextrs _ _ _ _ => true
  | .extru _ _ _ _ _ => true
  | .extrs _ _ _ _ _ => true
  | .zvdep _ _ _ _ => true
  | .vdep _ _ _ _ => true
  | .zdep _ _ _ _ _ => true
  | .dep _ _ _ _ _ => true
  | .zvdepi _ _ _ _ => true
  | .vdepi _ _ _ _ => true
  | .zdepi _ _ _ _ _ => true
  | .depi _ _ _ _ _ => true
  | .breakTrap _ _ => true
  | .sync => true
  | .syncdma => true
  | .rfi => true
  | .rfir => true
  | .ssm _ _ => true
  | .rsm _ _ => true
  | .mtsm _ => true
  | .ldsid _ _ _ => true
  | .mtsp _ _ => true
  | .mfsp _ _ => true
  | .mtctl _ _ => true
  | .mfctl _ _ => true
  | .idtlba _ _ _ => true
  | .idtlbp _ _ _ => true
  | .pdtlb _ _ _ _ => true
  | .pdtlbe _ _ _ _ => true
  | .fdc _ _ _ _ => true
  | .fdce _ _ _ _ => true
  | .pdc _ _ _ _ => true
  | .prober _ _ _ _ => true
  | .proberi _ _ _ _ => true
  | .probew _ _ _ _ => true
  | .probewi _ _ _ _ => true
  | .lpa _ _ _ _ _ => true
  | .lci _ _ _ _ => true
  | .iitlba _ _ _ => true
  | .iitlbp _ _ _ => true
  | .pitlb _ _ _ _ => true
  | .pitlbe _ _ _ _ => true
  | .fic _ _ _ _ => true
  | .fice _ _ _ _ => true
  | .diag _ => true
  | .spop0 _ _ _ _ => true
  | .spop1 sop sfu n _ => !takenByDebug1 sop sfu n
  | .spop2 _ sop1 sfu n _ => !takenByDebug2 sop1 sfu n
  | .spop3 _ _ _ _ _ _ => true
  | .copr sop1 uid n sop2 =>
    !(uid == 0#3 && takenByFloat sop1 n sop2) && !(uid == 2#3 && takenByPerfmon sop1 n)
  | .cldwx _ _ _ _ _ uid _ _ => !(uid == 0#3 || uid == 1#3)
  | .clddx _ _ _ _ _ uid _ _ => !(uid == 0#3)
  | .cstwx _ _ _ _ _ uid _ _ => !(uid == 0#3 || uid == 1#3)
  | .cstdx _ _ _ _ _ uid _ _ => !(uid == 0#3)
  | .cldws _ _ _ _ _ uid _ _ => !(uid == 0#3 || uid == 1#3)
  | .cldds _ _ _ _ _ uid _ _ => !(uid == 0#3)
  | .cstws _ _ _ _ _ uid _ _ => !(uid == 0#3 || uid == 1#3)
  | .cstds _ _ _ _ _ uid _ _ => !(uid == 0#3)
  | .fldwx _ _ _ _ _ _ _ _ => true
  | .fstwx _ _ _ _ _ _ _ _ => true
  | .flddx _ _ _ _ _ _ _ => true
  | .fstdx _ _ _ _ _ _ _ => true
  | .fldws _ _ _ _ _ _ _ _ => true
  | .fstws _ _ _ _ _ _ _ _ => true
  | .fldds _ _ _ _ _ _ _ => true
  | .fstds _ _ _ _ _ _ _ => true
  | .copr00 => true
  | .fcpy _ _ _ => true
  | .fcpy0E _ _ _ _ _ => true
  | .fabs _ _ _ => true
  | .fabs0E _ _ _ _ _ => true
  | .fsqrt _ _ _ => true
  | .fsqrt0E _ _ _ _ _ => true
  | .frnd _ _ _ => true
  | .frnd0E _ _ _ _ _ => true
  | .fcnvff _ _ _ _ => true
  | .fcnvff0E _ _ _ _ _ _ => true
  | .fcnvxf _ _ _ _ => true
  | .fcnvxf0E _ _ _ _ _ _ => true
  | .fcnvfx _ _ _ _ => true
  | .fcnvfx0E _ _ _ _ _ _ => true
  | .fcnvfxt _ _ _ _ => true
  | .fcnvfxt0E _ _ _ _ _ _ => true
  | .fcmp _ _ _ _ => true
  | .fcmp0E _ _ _ _ _ _ => true
  | .ftest _ => true
  | .fadd _ _ _ _ => true
  | .fadd0E _ _ _ _ _ _ _ => true
  | .fsub _ _ _ _ => true
  | .fsub0E _ _ _ _ _ _ _ => true
  | .fmpy _ _ _ _ => true
  | .fmpy0E _ _ _ _ _ _ _ => true
  | .fdiv _ _ _ _ => true
  | .fdiv0E _ _ _ _ _ _ _ => true
  | .xmpyu _ _ _ _ _ => true
  | .fmpyadd _ _ _ _ _ _ => true
  | .fmpysub _ _ _ _ _ _ => true
  | .pmdis => true
  | .pmenb => true
  | .debugid _ => true
  | .mfdbao _ _ => true
  | .mfdbam _ _ => true
  | .mfibao _ _ => true
  | .mfibam _ _ => true
  | .mtdbao _ _ => true
  | .mtdbam _ _ => true
  | .mtibao _ _ => true
  | .mtibam _ _ => true

end Sys2Proof
end

