-- ==== Sys2Proof/Laws/PerInstr.lean ====
section
/-!
SUPPORT. Decoding an encoded well-formed instruction gives it back, one lemma for each instruction.
-/

set_option Elab.async false
set_option linter.all false
namespace Sys2Proof.Laws

/-- The encoder and the decoder agree on one instruction. -/
def Roundtrip.Statement (i : Instr) : Prop := i.wf = true → decode (encode i) = some i

namespace Roundtrip

theorem ldw (b : BitVec 5) (t : BitVec 5) (s : BitVec 2) (im14 : BitVec 14) : Statement (.ldw b t s im14) := by
  intro _
  change decode (0x12#6 ++ b ++ t ++ s ++ im14 : BitVec 32) = _
  simp (disch := decide) only [decode, field, BitVec.extractLsb'_append_eq_of_le,
    BitVec.extractLsb'_append_eq_of_add_le, Nat.reduceSub, BitVec.extractLsb'_eq_self,
    BitVec.reduceToNat, BitVec.reduceExtractLsb'] <;> rfl

theorem ldh (b : BitVec 5) (t : BitVec 5) (s : BitVec 2) (im14 : BitVec 14) : Statement (.ldh b t s im14) := by
  intro _
  change decode (0x11#6 ++ b ++ t ++ s ++ im14 : BitVec 32) = _
  simp (disch := decide) only [decode, field, BitVec.extractLsb'_append_eq_of_le,
    BitVec.extractLsb'_append_eq_of_add_le, Nat.reduceSub, BitVec.extractLsb'_eq_self,
    BitVec.reduceToNat, BitVec.reduceExtractLsb'] <;> rfl

theorem ldb (b : BitVec 5) (t : BitVec 5) (s : BitVec 2) (im14 : BitVec 14) : Statement (.ldb b t s im14) := by
  intro _
  change decode (0x10#6 ++ b ++ t ++ s ++ im14 : BitVec 32) = _
  simp (disch := decide) only [decode, field, BitVec.extractLsb'_append_eq_of_le,
    BitVec.extractLsb'_append_eq_of_add_le, Nat.reduceSub, BitVec.extractLsb'_eq_self,
    BitVec.reduceToNat, BitVec.reduceExtractLsb'] <;> rfl

theorem ldwm (b : BitVec 5) (t : BitVec 5) (s : BitVec 2) (im14 : BitVec 14) : Statement (.ldwm b t s im14) := by
  intro _
  change decode (0x13#6 ++ b ++ t ++ s ++ im14 : BitVec 32) = _
  simp (disch := decide) only [decode, field, BitVec.extractLsb'_append_eq_of_le,
    BitVec.extractLsb'_append_eq_of_add_le, Nat.reduceSub, BitVec.extractLsb'_eq_self,
    BitVec.reduceToNat, BitVec.reduceExtractLsb'] <;> rfl

theorem stw (b : BitVec 5) (r : BitVec 5) (s : BitVec 2) (im14 : BitVec 14) : Statement (.stw b r s im14) := by
  intro _
  change decode (0x1a#6 ++ b ++ r ++ s ++ im14 : BitVec 32) = _
  simp (disch := decide) only [decode, field, BitVec.extractLsb'_append_eq_of_le,
    BitVec.extractLsb'_append_eq_of_add_le, Nat.reduceSub, BitVec.extractLsb'_eq_self,
    BitVec.reduceToNat, BitVec.reduceExtractLsb'] <;> rfl

theorem sth (b : BitVec 5) (r : BitVec 5) (s : BitVec 2) (im14 : BitVec 14) : Statement (.sth b r s im14) := by
  intro _
  change decode (0x19#6 ++ b ++ r ++ s ++ im14 : BitVec 32) = _
  simp (disch := decide) only [decode, field, BitVec.extractLsb'_append_eq_of_le,
    BitVec.extractLsb'_append_eq_of_add_le, Nat.reduceSub, BitVec.extractLsb'_eq_self,
    BitVec.reduceToNat, BitVec.reduceExtractLsb'] <;> rfl

theorem stb (b : BitVec 5) (r : BitVec 5) (s : BitVec 2) (im14 : BitVec 14) : Statement (.stb b r s im14) := by
  intro _
  change decode (0x18#6 ++ b ++ r ++ s ++ im14 : BitVec 32) = _
  simp (disch := decide) only [decode, field, BitVec.extractLsb'_append_eq_of_le,
    BitVec.extractLsb'_append_eq_of_add_le, Nat.reduceSub, BitVec.extractLsb'_eq_self,
    BitVec.reduceToNat, BitVec.reduceExtractLsb'] <;> rfl

theorem stwm (b : BitVec 5) (r : BitVec 5) (s : BitVec 2) (im14 : BitVec 14) : Statement (.stwm b r s im14) := by
  intro _
  change decode (0x1b#6 ++ b ++ r ++ s ++ im14 : BitVec 32) = _
  simp (disch := decide) only [decode, field, BitVec.extractLsb'_append_eq_of_le,
    BitVec.extractLsb'_append_eq_of_add_le, Nat.reduceSub, BitVec.extractLsb'_eq_self,
    BitVec.reduceToNat, BitVec.reduceExtractLsb'] <;> rfl

theorem ldwx (b : BitVec 5) (x : BitVec 5) (s : BitVec 2) (u : BitVec 1) (cc : BitVec 2) (m : BitVec 1) (t : BitVec 5) : Statement (.ldwx b x s u cc m t) := by
  intro _
  change decode (0x3#6 ++ b ++ x ++ s ++ u ++ 0x0#1 ++ cc ++ 0x2#4 ++ m ++ t : BitVec 32) = _
  simp (disch := decide) only [decode, decodeIndexMem, field, BitVec.extractLsb'_append_eq_of_le,
    BitVec.extractLsb'_append_eq_of_add_le, Nat.reduceSub, BitVec.extractLsb'_eq_self,
    BitVec.reduceToNat, BitVec.reduceExtractLsb'] <;> rfl

theorem ldhx (b : BitVec 5) (x : BitVec 5) (s : BitVec 2) (u : BitVec 1) (cc : BitVec 2) (m : BitVec 1) (t : BitVec 5) : Statement (.ldhx b x s u cc m t) := by
  intro _
  change decode (0x3#6 ++ b ++ x ++ s ++ u ++ 0x0#1 ++ cc ++ 0x1#4 ++ m ++ t : BitVec 32) = _
  simp (disch := decide) only [decode, decodeIndexMem, field, BitVec.extractLsb'_append_eq_of_le,
    BitVec.extractLsb'_append_eq_of_add_le, Nat.reduceSub, BitVec.extractLsb'_eq_self,
    BitVec.reduceToNat, BitVec.reduceExtractLsb'] <;> rfl

theorem ldbx (b : BitVec 5) (x : BitVec 5) (s : BitVec 2) (u : BitVec 1) (cc : BitVec 2) (m : BitVec 1) (t : BitVec 5) : Statement (.ldbx b x s u cc m t) := by
  intro _
  change decode (0x3#6 ++ b ++ x ++ s ++ u ++ 0x0#1 ++ cc ++ 0x0#4 ++ m ++ t : BitVec 32) = _
  simp (disch := decide) only [decode, decodeIndexMem, field, BitVec.extractLsb'_append_eq_of_le,
    BitVec.extractLsb'_append_eq_of_add_le, Nat.reduceSub, BitVec.extractLsb'_eq_self,
    BitVec.reduceToNat, BitVec.reduceExtractLsb'] <;> rfl

theorem ldcwx (b : BitVec 5) (x : BitVec 5) (s : BitVec 2) (u : BitVec 1) (cc : BitVec 2) (m : BitVec 1) (t : BitVec 5) : Statement (.ldcwx b x s u cc m t) := by
  intro _
  change decode (0x3#6 ++ b ++ x ++ s ++ u ++ 0x0#1 ++ cc ++ 0x7#4 ++ m ++ t : BitVec 32) = _
  simp (disch := decide) only [decode, decodeIndexMem, field, BitVec.extractLsb'_append_eq_of_le,
    BitVec.extractLsb'_append_eq_of_add_le, Nat.reduceSub, BitVec.extractLsb'_eq_self,
    BitVec.reduceToNat, BitVec.reduceExtractLsb'] <;> rfl

theorem ldwax (b : BitVec 5) (x : BitVec 5) (u : BitVec 1) (cc : BitVec 2) (m : BitVec 1) (t : BitVec 5) : Statement (.ldwax b x u cc m t) := by
  intro _
  change decode (0x3#6 ++ b ++ x ++ 0x0#2 ++ u ++ 0x0#1 ++ cc ++ 0x6#4 ++ m ++ t : BitVec 32) = _
  simp (disch := decide) only [decode, decodeIndexMem, field, BitVec.extractLsb'_append_eq_of_le,
    BitVec.extractLsb'_append_eq_of_add_le, Nat.reduceSub, BitVec.extractLsb'_eq_self,
    BitVec.reduceToNat, BitVec.reduceExtractLsb'] <;> rfl

theorem ldws (b : BitVec 5) (im5 : BitVec 5) (s : BitVec 2) (a : BitVec 1) (cc : BitVec 2) (m : BitVec 1) (t : BitVec 5) : Statement (.ldws b im5 s a cc m t) := by
  intro _
  change decode (0x3#6 ++ b ++ im5 ++ s ++ a ++ 0x1#1 ++ cc ++ 0x2#4 ++ m ++ t : BitVec 32) = _
  simp (disch := decide) only [decode, decodeIndexMem, field, BitVec.extractLsb'_append_eq_of_le,
    BitVec.extractLsb'_append_eq_of_add_le, Nat.reduceSub, BitVec.extractLsb'_eq_self,
    BitVec.reduceToNat, BitVec.reduceExtractLsb'] <;> rfl

theorem ldhs (b : BitVec 5) (im5 : BitVec 5) (s : BitVec 2) (a : BitVec 1) (cc : BitVec 2) (m : BitVec 1) (t : BitVec 5) : Statement (.ldhs b im5 s a cc m t) := by
  intro _
  change decode (0x3#6 ++ b ++ im5 ++ s ++ a ++ 0x1#1 ++ cc ++ 0x1#4 ++ m ++ t : BitVec 32) = _
  simp (disch := decide) only [decode, decodeIndexMem, field, BitVec.extractLsb'_append_eq_of_le,
    BitVec.extractLsb'_append_eq_of_add_le, Nat.reduceSub, BitVec.extractLsb'_eq_self,
    BitVec.reduceToNat, BitVec.reduceExtractLsb'] <;> rfl

theorem ldbs (b : BitVec 5) (im5 : BitVec 5) (s : BitVec 2) (a : BitVec 1) (cc : BitVec 2) (m : BitVec 1) (t : BitVec 5) : Statement (.ldbs b im5 s a cc m t) := by
  intro _
  change decode (0x3#6 ++ b ++ im5 ++ s ++ a ++ 0x1#1 ++ cc ++ 0x0#4 ++ m ++ t : BitVec 32) = _
  simp (disch := decide) only [decode, decodeIndexMem, field, BitVec.extractLsb'_append_eq_of_le,
    BitVec.extractLsb'_append_eq_of_add_le, Nat.reduceSub, BitVec.extractLsb'_eq_self,
    BitVec.reduceToNat, BitVec.reduceExtractLsb'] <;> rfl

theorem ldcws (b : BitVec 5) (im5 : BitVec 5) (s : BitVec 2) (a : BitVec 1) (cc : BitVec 2) (m : BitVec 1) (t : BitVec 5) : Statement (.ldcws b im5 s a cc m t) := by
  intro _
  change decode (0x3#6 ++ b ++ im5 ++ s ++ a ++ 0x1#1 ++ cc ++ 0x7#4 ++ m ++ t : BitVec 32) = _
  simp (disch := decide) only [decode, decodeIndexMem, field, BitVec.extractLsb'_append_eq_of_le,
    BitVec.extractLsb'_append_eq_of_add_le, Nat.reduceSub, BitVec.extractLsb'_eq_self,
    BitVec.reduceToNat, BitVec.reduceExtractLsb'] <;> rfl

theorem ldwas (b : BitVec 5) (im5 : BitVec 5) (a : BitVec 1) (cc : BitVec 2) (m : BitVec 1) (t : BitVec 5) : Statement (.ldwas b im5 a cc m t) := by
  intro _
  change decode (0x3#6 ++ b ++ im5 ++ 0x0#2 ++ a ++ 0x1#1 ++ cc ++ 0x6#4 ++ m ++ t : BitVec 32) = _
  simp (disch := decide) only [decode, decodeIndexMem, field, BitVec.extractLsb'_append_eq_of_le,
    BitVec.extractLsb'_append_eq_of_add_le, Nat.reduceSub, BitVec.extractLsb'_eq_self,
    BitVec.reduceToNat, BitVec.reduceExtractLsb'] <;> rfl

theorem stws (b : BitVec 5) (r : BitVec 5) (s : BitVec 2) (a : BitVec 1) (cc : BitVec 2) (m : BitVec 1) (im5 : BitVec 5) : Statement (.stws b r s a cc m im5) := by
  intro _
  change decode (0x3#6 ++ b ++ r ++ s ++ a ++ 0x1#1 ++ cc ++ 0xa#4 ++ m ++ im5 : BitVec 32) = _
  simp (disch := decide) only [decode, decodeIndexMem, field, BitVec.extractLsb'_append_eq_of_le,
    BitVec.extractLsb'_append_eq_of_add_le, Nat.reduceSub, BitVec.extractLsb'_eq_self,
    BitVec.reduceToNat, BitVec.reduceExtractLsb'] <;> rfl

theorem stbys (b : BitVec 5) (r : BitVec 5) (s : BitVec 2) (a : BitVec 1) (cc : BitVec 2) (m : BitVec 1) (im5 : BitVec 5) : Statement (.stbys b r s a cc m im5) := by
  intro _
  change decode (0x3#6 ++ b ++ r ++ s ++ a ++ 0x1#1 ++ cc ++ 0xc#4 ++ m ++ im5 : BitVec 32) = _
  simp (disch := decide) only [decode, decodeIndexMem, field, BitVec.extractLsb'_append_eq_of_le,
    BitVec.extractLsb'_append_eq_of_add_le, Nat.reduceSub, BitVec.extractLsb'_eq_self,
    BitVec.reduceToNat, BitVec.reduceExtractLsb'] <;> rfl

theorem sths (b : BitVec 5) (r : BitVec 5) (s : BitVec 2) (a : BitVec 1) (cc : BitVec 2) (m : BitVec 1) (im5 : BitVec 5) : Statement (.sths b r s a cc m im5) := by
  intro _
  change decode (0x3#6 ++ b ++ r ++ s ++ a ++ 0x1#1 ++ cc ++ 0x9#4 ++ m ++ im5 : BitVec 32) = _
  simp (disch := decide) only [decode, decodeIndexMem, field, BitVec.extractLsb'_append_eq_of_le,
    BitVec.extractLsb'_append_eq_of_add_le, Nat.reduceSub, BitVec.extractLsb'_eq_self,
    BitVec.reduceToNat, BitVec.reduceExtractLsb'] <;> rfl

theorem stbs (b : BitVec 5) (r : BitVec 5) (s : BitVec 2) (a : BitVec 1) (cc : BitVec 2) (m : BitVec 1) (im5 : BitVec 5) : Statement (.stbs b r s a cc m im5) := by
  intro _
  change decode (0x3#6 ++ b ++ r ++ s ++ a ++ 0x1#1 ++ cc ++ 0x8#4 ++ m ++ im5 : BitVec 32) = _
  simp (disch := decide) only [decode, decodeIndexMem, field, BitVec.extractLsb'_append_eq_of_le,
    BitVec.extractLsb'_append_eq_of_add_le, Nat.reduceSub, BitVec.extractLsb'_eq_self,
    BitVec.reduceToNat, BitVec.reduceExtractLsb'] <;> rfl

theorem stwas (b : BitVec 5) (r : BitVec 5) (a : BitVec 1) (cc : BitVec 2) (m : BitVec 1) (im5 : BitVec 5) : Statement (.stwas b r a cc m im5) := by
  intro _
  change decode (0x3#6 ++ b ++ r ++ 0x0#2 ++ a ++ 0x1#1 ++ cc ++ 0xe#4 ++ m ++ im5 : BitVec 32) = _
  simp (disch := decide) only [decode, decodeIndexMem, field, BitVec.extractLsb'_append_eq_of_le,
    BitVec.extractLsb'_append_eq_of_add_le, Nat.reduceSub, BitVec.extractLsb'_eq_self,
    BitVec.reduceToNat, BitVec.reduceExtractLsb'] <;> rfl

theorem ldo (b : BitVec 5) (t : BitVec 5) (im14 : BitVec 14) : Statement (.ldo b t im14) := by
  intro _
  change decode (0xd#6 ++ b ++ t ++ 0#2 ++ im14 : BitVec 32) = _
  simp (disch := decide) only [decode, field, BitVec.extractLsb'_append_eq_of_le,
    BitVec.extractLsb'_append_eq_of_add_le, Nat.reduceSub, BitVec.extractLsb'_eq_self,
    BitVec.reduceToNat, BitVec.reduceExtractLsb'] <;> rfl

theorem ldil (t : BitVec 5) (im21 : BitVec 21) : Statement (.ldil t im21) := by
  intro _
  change decode (0x8#6 ++ t ++ im21 : BitVec 32) = _
  simp (disch := decide) only [decode, field, BitVec.extractLsb'_append_eq_of_le,
    BitVec.extractLsb'_append_eq_of_add_le, Nat.reduceSub, BitVec.extractLsb'_eq_self,
    BitVec.reduceToNat, BitVec.reduceExtractLsb'] <;> rfl

theorem addil (r : BitVec 5) (im21 : BitVec 21) : Statement (.addil r im21) := by
  intro _
  change decode (0xa#6 ++ r ++ im21 : BitVec 32) = _
  simp (disch := decide) only [decode, field, BitVec.extractLsb'_append_eq_of_le,
    BitVec.extractLsb'_append_eq_of_add_le, Nat.reduceSub, BitVec.extractLsb'_eq_self,
    BitVec.reduceToNat, BitVec.reduceExtractLsb'] <;> rfl

theorem bl (t : BitVec 5) (w1 : BitVec 5) (w2 : BitVec 11) (n : BitVec 1) (w : BitVec 1) : Statement (.bl t w1 w2 n w) := by
  intro _
  change decode (0x3a#6 ++ t ++ w1 ++ 0x0#3 ++ w2 ++ n ++ w : BitVec 32) = _
  simp (disch := decide) only [decode, decodeBranch, field, BitVec.extractLsb'_append_eq_of_le,
    BitVec.extractLsb'_append_eq_of_add_le, Nat.reduceSub, BitVec.extractLsb'_eq_self,
    BitVec.reduceToNat, BitVec.reduceExtractLsb'] <;> rfl

theorem gate (t : BitVec 5) (w1 : BitVec 5) (w2 : BitVec 11) (n : BitVec 1) (w : BitVec 1) : Statement (.gate t w1 w2 n w) := by
  intro _
  change decode (0x3a#6 ++ t ++ w1 ++ 0x1#3 ++ w2 ++ n ++ w : BitVec 32) = _
  simp (disch := decide) only [decode, decodeBranch, field, BitVec.extractLsb'_append_eq_of_le,
    BitVec.extractLsb'_append_eq_of_add_le, Nat.reduceSub, BitVec.extractLsb'_eq_self,
    BitVec.reduceToNat, BitVec.reduceExtractLsb'] <;> rfl

theorem blr (t : BitVec 5) (x : BitVec 5) (n : BitVec 1) : Statement (.blr t x n) := by
  intro _
  change decode (0x3a#6 ++ t ++ x ++ 0x1000#14 ++ n ++ 0x0#1 : BitVec 32) = _
  simp (disch := decide) only [decode, decodeBranch, field, BitVec.extractLsb'_append_eq_of_le,
    BitVec.extractLsb'_append_eq_of_add_le, Nat.reduceSub, BitVec.extractLsb'_eq_self,
    BitVec.reduceToNat, BitVec.reduceExtractLsb'] <;> rfl

theorem bv (b : BitVec 5) (x : BitVec 5) (n : BitVec 1) : Statement (.bv b x n) := by
  intro _
  change decode (0x3a#6 ++ b ++ x ++ 0x3000#14 ++ n ++ 0x0#1 : BitVec 32) = _
  simp (disch := decide) only [decode, decodeBranch, field, BitVec.extractLsb'_append_eq_of_le,
    BitVec.extractLsb'_append_eq_of_add_le, Nat.reduceSub, BitVec.extractLsb'_eq_self,
    BitVec.reduceToNat, BitVec.reduceExtractLsb'] <;> rfl

theorem be (b : BitVec 5) (w1 : BitVec 5) (s : BitVec 3) (w2 : BitVec 11) (n : BitVec 1) (w : BitVec 1) : Statement (.be b w1 s w2 n w) := by
  intro _
  change decode (0x38#6 ++ b ++ w1 ++ s ++ w2 ++ n ++ w : BitVec 32) = _
  simp (disch := decide) only [decode, field, BitVec.extractLsb'_append_eq_of_le,
    BitVec.extractLsb'_append_eq_of_add_le, Nat.reduceSub, BitVec.extractLsb'_eq_self,
    BitVec.reduceToNat, BitVec.reduceExtractLsb'] <;> rfl

theorem ble (b : BitVec 5) (w1 : BitVec 5) (s : BitVec 3) (w2 : BitVec 11) (n : BitVec 1) (w : BitVec 1) : Statement (.ble b w1 s w2 n w) := by
  intro _
  change decode (0x39#6 ++ b ++ w1 ++ s ++ w2 ++ n ++ w : BitVec 32) = _
  simp (disch := decide) only [decode, field, BitVec.extractLsb'_append_eq_of_le,
    BitVec.extractLsb'_append_eq_of_add_le, Nat.reduceSub, BitVec.extractLsb'_eq_self,
    BitVec.reduceToNat, BitVec.reduceExtractLsb'] <;> rfl

theorem movb (r2 : BitVec 5) (r1 : BitVec 5) (c : BitVec 3) (w1 : BitVec 11) (n : BitVec 1) (w : BitVec 1) : Statement (.movb r2 r1 c w1 n w) := by
  intro _
  change decode (0x32#6 ++ r2 ++ r1 ++ c ++ w1 ++ n ++ w : BitVec 32) = _
  simp (disch := decide) only [decode, field, BitVec.extractLsb'_append_eq_of_le,
    BitVec.extractLsb'_append_eq_of_add_le, Nat.reduceSub, BitVec.extractLsb'_eq_self,
    BitVec.reduceToNat, BitVec.reduceExtractLsb'] <;> rfl

theorem combt (r2 : BitVec 5) (r1 : BitVec 5) (c : BitVec 3) (w1 : BitVec 11) (n : BitVec 1) (w : BitVec 1) : Statement (.combt r2 r1 c w1 n w) := by
  intro _
  change decode (0x20#6 ++ r2 ++ r1 ++ c ++ w1 ++ n ++ w : BitVec 32) = _
  simp (disch := decide) only [decode, field, BitVec.extractLsb'_append_eq_of_le,
    BitVec.extractLsb'_append_eq_of_add_le, Nat.reduceSub, BitVec.extractLsb'_eq_self,
    BitVec.reduceToNat, BitVec.reduceExtractLsb'] <;> rfl

theorem combf (r2 : BitVec 5) (r1 : BitVec 5) (c : BitVec 3) (w1 : BitVec 11) (n : BitVec 1) (w : BitVec 1) : Statement (.combf r2 r1 c w1 n w) := by
  intro _
  change decode (0x22#6 ++ r2 ++ r1 ++ c ++ w1 ++ n ++ w : BitVec 32) = _
  simp (disch := decide) only [decode, field, BitVec.extractLsb'_append_eq_of_le,
    BitVec.extractLsb'_append_eq_of_add_le, Nat.reduceSub, BitVec.extractLsb'_eq_self,
    BitVec.reduceToNat, BitVec.reduceExtractLsb'] <;> rfl

theorem addbt (r2 : BitVec 5) (r1 : BitVec 5) (c : BitVec 3) (w1 : BitVec 11) (n : BitVec 1) (w : BitVec 1) : Statement (.addbt r2 r1 c w1 n w) := by
  intro _
  change decode (0x28#6 ++ r2 ++ r1 ++ c ++ w1 ++ n ++ w : BitVec 32) = _
  simp (disch := decide) only [decode, field, BitVec.extractLsb'_append_eq_of_le,
    BitVec.extractLsb'_append_eq_of_add_le, Nat.reduceSub, BitVec.extractLsb'_eq_self,
    BitVec.reduceToNat, BitVec.reduceExtractLsb'] <;> rfl

theorem addbf (r2 : BitVec 5) (r1 : BitVec 5) (c : BitVec 3) (w1 : BitVec 11) (n : BitVec 1) (w : BitVec 1) : Statement (.addbf r2 r1 c w1 n w) := by
  intro _
  change decode (0x2a#6 ++ r2 ++ r1 ++ c ++ w1 ++ n ++ w : BitVec 32) = _
  simp (disch := decide) only [decode, field, BitVec.extractLsb'_append_eq_of_le,
    BitVec.extractLsb'_append_eq_of_add_le, Nat.reduceSub, BitVec.extractLsb'_eq_self,
    BitVec.reduceToNat, BitVec.reduceExtractLsb'] <;> rfl

theorem movib (r : BitVec 5) (im5 : BitVec 5) (c : BitVec 3) (w1 : BitVec 11) (n : BitVec 1) (w : BitVec 1) : Statement (.movib r im5 c w1 n w) := by
  intro _
  change decode (0x33#6 ++ r ++ im5 ++ c ++ w1 ++ n ++ w : BitVec 32) = _
  simp (disch := decide) only [decode, field, BitVec.extractLsb'_append_eq_of_le,
    BitVec.extractLsb'_append_eq_of_add_le, Nat.reduceSub, BitVec.extractLsb'_eq_self,
    BitVec.reduceToNat, BitVec.reduceExtractLsb'] <;> rfl

theorem comibt (r : BitVec 5) (im5 : BitVec 5) (c : BitVec 3) (w1 : BitVec 11) (n : BitVec 1) (w : BitVec 1) : Statement (.comibt r im5 c w1 n w) := by
  intro _
  change decode (0x21#6 ++ r ++ im5 ++ c ++ w1 ++ n ++ w : BitVec 32) = _
  simp (disch := decide) only [decode, field, BitVec.extractLsb'_append_eq_of_le,
    BitVec.extractLsb'_append_eq_of_add_le, Nat.reduceSub, BitVec.extractLsb'_eq_self,
    BitVec.reduceToNat, BitVec.reduceExtractLsb'] <;> rfl

theorem comibf (r : BitVec 5) (im5 : BitVec 5) (c : BitVec 3) (w1 : BitVec 11) (n : BitVec 1) (w : BitVec 1) : Statement (.comibf r im5 c w1 n w) := by
  intro _
  change decode (0x23#6 ++ r ++ im5 ++ c ++ w1 ++ n ++ w : BitVec 32) = _
  simp (disch := decide) only [decode, field, BitVec.extractLsb'_append_eq_of_le,
    BitVec.extractLsb'_append_eq_of_add_le, Nat.reduceSub, BitVec.extractLsb'_eq_self,
    BitVec.reduceToNat, BitVec.reduceExtractLsb'] <;> rfl

theorem addibt (r : BitVec 5) (im5 : BitVec 5) (c : BitVec 3) (w1 : BitVec 11) (n : BitVec 1) (w : BitVec 1) : Statement (.addibt r im5 c w1 n w) := by
  intro _
  change decode (0x29#6 ++ r ++ im5 ++ c ++ w1 ++ n ++ w : BitVec 32) = _
  simp (disch := decide) only [decode, field, BitVec.extractLsb'_append_eq_of_le,
    BitVec.extractLsb'_append_eq_of_add_le, Nat.reduceSub, BitVec.extractLsb'_eq_self,
    BitVec.reduceToNat, BitVec.reduceExtractLsb'] <;> rfl

theorem addibf (r : BitVec 5) (im5 : BitVec 5) (c : BitVec 3) (w1 : BitVec 11) (n : BitVec 1) (w : BitVec 1) : Statement (.addibf r im5 c w1 n w) := by
  intro _
  change decode (0x2b#6 ++ r ++ im5 ++ c ++ w1 ++ n ++ w : BitVec 32) = _
  simp (disch := decide) only [decode, field, BitVec.extractLsb'_append_eq_of_le,
    BitVec.extractLsb'_append_eq_of_add_le, Nat.reduceSub, BitVec.extractLsb'_eq_self,
    BitVec.reduceToNat, BitVec.reduceExtractLsb'] <;> rfl

theorem bvb (r : BitVec 5) (c : BitVec 3) (w1 : BitVec 11) (n : BitVec 1) (w : BitVec 1) : Statement (.bvb r c w1 n w) := by
  intro _
  change decode (0x30#6 ++ 0#5 ++ r ++ c ++ w1 ++ n ++ w : BitVec 32) = _
  simp (disch := decide) only [decode, field, BitVec.extractLsb'_append_eq_of_le,
    BitVec.extractLsb'_append_eq_of_add_le, Nat.reduceSub, BitVec.extractLsb'_eq_self,
    BitVec.reduceToNat, BitVec.reduceExtractLsb'] <;> rfl

theorem bb (p : BitVec 5) (r : BitVec 5) (c : BitVec 3) (w1 : BitVec 11) (n : BitVec 1) (w : BitVec 1) : Statement (.bb p r c w1 n w) := by
  intro _
  change decode (0x31#6 ++ p ++ r ++ c ++ w1 ++ n ++ w : BitVec 32) = _
  simp (disch := decide) only [decode, field, BitVec.extractLsb'_append_eq_of_le,
    BitVec.extractLsb'_append_eq_of_add_le, Nat.reduceSub, BitVec.extractLsb'_eq_self,
    BitVec.reduceToNat, BitVec.reduceExtractLsb'] <;> rfl

theorem add (r2 : BitVec 5) (r1 : BitVec 5) (c : BitVec 3) (f : BitVec 1) (t : BitVec 5) : Statement (.add r2 r1 c f t) := by
  intro _
  change decode (0x2#6 ++ r2 ++ r1 ++ c ++ f ++ 0x30#7 ++ t : BitVec 32) = _
  simp (disch := decide) only [decode, decodeArith, field, BitVec.extractLsb'_append_eq_of_le,
    BitVec.extractLsb'_append_eq_of_add_le, Nat.reduceSub, BitVec.extractLsb'_eq_self,
    BitVec.reduceToNat, BitVec.reduceExtractLsb'] <;> rfl

theorem addl (r2 : BitVec 5) (r1 : BitVec 5) (c : BitVec 3) (f : BitVec 1) (t : BitVec 5) : Statement (.addl r2 r1 c f t) := by
  intro _
  change decode (0x2#6 ++ r2 ++ r1 ++ c ++ f ++ 0x50#7 ++ t : BitVec 32) = _
  simp (disch := decide) only [decode, decodeArith, field, BitVec.extractLsb'_append_eq_of_le,
    BitVec.extractLsb'_append_eq_of_add_le, Nat.reduceSub, BitVec.extractLsb'_eq_self,
    BitVec.reduceToNat, BitVec.reduceExtractLsb'] <;> rfl

theorem addo (r2 : BitVec 5) (r1 : BitVec 5) (c : BitVec 3) (f : BitVec 1) (t : BitVec 5) : Statement (.addo r2 r1 c f t) := by
  intro _
  change decode (0x2#6 ++ r2 ++ r1 ++ c ++ f ++ 0x70#7 ++ t : BitVec 32) = _
  simp (disch := decide) only [decode, decodeArith, field, BitVec.extractLsb'_append_eq_of_le,
    BitVec.extractLsb'_append_eq_of_add_le, Nat.reduceSub, BitVec.extractLsb'_eq_self,
    BitVec.reduceToNat, BitVec.reduceExtractLsb'] <;> rfl

theorem addc (r2 : BitVec 5) (r1 : BitVec 5) (c : BitVec 3) (f : BitVec 1) (t : BitVec 5) : Statement (.addc r2 r1 c f t) := by
  intro _
  change decode (0x2#6 ++ r2 ++ r1 ++ c ++ f ++ 0x38#7 ++ t : BitVec 32) = _
  simp (disch := decide) only [decode, decodeArith, field, BitVec.extractLsb'_append_eq_of_le,
    BitVec.extractLsb'_append_eq_of_add_le, Nat.reduceSub, BitVec.extractLsb'_eq_self,
    BitVec.reduceToNat, BitVec.reduceExtractLsb'] <;> rfl

theorem addco (r2 : BitVec 5) (r1 : BitVec 5) (c : BitVec 3) (f : BitVec 1) (t : BitVec 5) : Statement (.addco r2 r1 c f t) := by
  intro _
  change decode (0x2#6 ++ r2 ++ r1 ++ c ++ f ++ 0x78#7 ++ t : BitVec 32) = _
  simp (disch := decide) only [decode, decodeArith, field, BitVec.extractLsb'_append_eq_of_le,
    BitVec.extractLsb'_append_eq_of_add_le, Nat.reduceSub, BitVec.extractLsb'_eq_self,
    BitVec.reduceToNat, BitVec.reduceExtractLsb'] <;> rfl

theorem sh1add (r2 : BitVec 5) (r1 : BitVec 5) (c : BitVec 3) (f : BitVec 1) (t : BitVec 5) : Statement (.sh1add r2 r1 c f t) := by
  intro _
  change decode (0x2#6 ++ r2 ++ r1 ++ c ++ f ++ 0x32#7 ++ t : BitVec 32) = _
  simp (disch := decide) only [decode, decodeArith, field, BitVec.extractLsb'_append_eq_of_le,
    BitVec.extractLsb'_append_eq_of_add_le, Nat.reduceSub, BitVec.extractLsb'_eq_self,
    BitVec.reduceToNat, BitVec.reduceExtractLsb'] <;> rfl

theorem sh1addl (r2 : BitVec 5) (r1 : BitVec 5) (c : BitVec 3) (f : BitVec 1) (t : BitVec 5) : Statement (.sh1addl r2 r1 c f t) := by
  intro _
  change decode (0x2#6 ++ r2 ++ r1 ++ c ++ f ++ 0x52#7 ++ t : BitVec 32) = _
  simp (disch := decide) only [decode, decodeArith, field, BitVec.extractLsb'_append_eq_of_le,
    BitVec.extractLsb'_append_eq_of_add_le, Nat.reduceSub, BitVec.extractLsb'_eq_self,
    BitVec.reduceToNat, BitVec.reduceExtractLsb'] <;> rfl

theorem sh1addo (r2 : BitVec 5) (r1 : BitVec 5) (c : BitVec 3) (f : BitVec 1) (t : BitVec 5) : Statement (.sh1addo r2 r1 c f t) := by
  intro _
  change decode (0x2#6 ++ r2 ++ r1 ++ c ++ f ++ 0x72#7 ++ t : BitVec 32) = _
  simp (disch := decide) only [decode, decodeArith, field, BitVec.extractLsb'_append_eq_of_le,
    BitVec.extractLsb'_append_eq_of_add_le, Nat.reduceSub, BitVec.extractLsb'_eq_self,
    BitVec.reduceToNat, BitVec.reduceExtractLsb'] <;> rfl

theorem sh2add (r2 : BitVec 5) (r1 : BitVec 5) (c : BitVec 3) (f : BitVec 1) (t : BitVec 5) : Statement (.sh2add r2 r1 c f t) := by
  intro _
  change decode (0x2#6 ++ r2 ++ r1 ++ c ++ f ++ 0x34#7 ++ t : BitVec 32) = _
  simp (disch := decide) only [decode, decodeArith, field, BitVec.extractLsb'_append_eq_of_le,
    BitVec.extractLsb'_append_eq_of_add_le, Nat.reduceSub, BitVec.extractLsb'_eq_self,
    BitVec.reduceToNat, BitVec.reduceExtractLsb'] <;> rfl

theorem sh2addl (r2 : BitVec 5) (r1 : BitVec 5) (c : BitVec 3) (f : BitVec 1) (t : BitVec 5) : Statement (.sh2addl r2 r1 c f t) := by
  intro _
  change decode (0x2#6 ++ r2 ++ r1 ++ c ++ f ++ 0x54#7 ++ t : BitVec 32) = _
  simp (disch := decide) only [decode, decodeArith, field, BitVec.extractLsb'_append_eq_of_le,
    BitVec.extractLsb'_append_eq_of_add_le, Nat.reduceSub, BitVec.extractLsb'_eq_self,
    BitVec.reduceToNat, BitVec.reduceExtractLsb'] <;> rfl

theorem sh2addo (r2 : BitVec 5) (r1 : BitVec 5) (c : BitVec 3) (f : BitVec 1) (t : BitVec 5) : Statement (.sh2addo r2 r1 c f t) := by
  intro _
  change decode (0x2#6 ++ r2 ++ r1 ++ c ++ f ++ 0x74#7 ++ t : BitVec 32) = _
  simp (disch := decide) only [decode, decodeArith, field, BitVec.extractLsb'_append_eq_of_le,
    BitVec.extractLsb'_append_eq_of_add_le, Nat.reduceSub, BitVec.extractLsb'_eq_self,
    BitVec.reduceToNat, BitVec.reduceExtractLsb'] <;> rfl

theorem sh3add (r2 : BitVec 5) (r1 : BitVec 5) (c : BitVec 3) (f : BitVec 1) (t : BitVec 5) : Statement (.sh3add r2 r1 c f t) := by
  intro _
  change decode (0x2#6 ++ r2 ++ r1 ++ c ++ f ++ 0x36#7 ++ t : BitVec 32) = _
  simp (disch := decide) only [decode, decodeArith, field, BitVec.extractLsb'_append_eq_of_le,
    BitVec.extractLsb'_append_eq_of_add_le, Nat.reduceSub, BitVec.extractLsb'_eq_self,
    BitVec.reduceToNat, BitVec.reduceExtractLsb'] <;> rfl

theorem sh3addl (r2 : BitVec 5) (r1 : BitVec 5) (c : BitVec 3) (f : BitVec 1) (t : BitVec 5) : Statement (.sh3addl r2 r1 c f t) := by
  intro _
  change decode (0x2#6 ++ r2 ++ r1 ++ c ++ f ++ 0x56#7 ++ t : BitVec 32) = _
  simp (disch := decide) only [decode, decodeArith, field, BitVec.extractLsb'_append_eq_of_le,
    BitVec.extractLsb'_append_eq_of_add_le, Nat.reduceSub, BitVec.extractLsb'_eq_self,
    BitVec.reduceToNat, BitVec.reduceExtractLsb'] <;> rfl

theorem sh3addo (r2 : BitVec 5) (r1 : BitVec 5) (c : BitVec 3) (f : BitVec 1) (t : BitVec 5) : Statement (.sh3addo r2 r1 c f t) := by
  intro _
  change decode (0x2#6 ++ r2 ++ r1 ++ c ++ f ++ 0x76#7 ++ t : BitVec 32) = _
  simp (disch := decide) only [decode, decodeArith, field, BitVec.extractLsb'_append_eq_of_le,
    BitVec.extractLsb'_append_eq_of_add_le, Nat.reduceSub, BitVec.extractLsb'_eq_self,
    BitVec.reduceToNat, BitVec.reduceExtractLsb'] <;> rfl

theorem sub (r2 : BitVec 5) (r1 : BitVec 5) (c : BitVec 3) (f : BitVec 1) (t : BitVec 5) : Statement (.sub r2 r1 c f t) := by
  intro _
  change decode (0x2#6 ++ r2 ++ r1 ++ c ++ f ++ 0x20#7 ++ t : BitVec 32) = _
  simp (disch := decide) only [decode, decodeArith, field, BitVec.extractLsb'_append_eq_of_le,
    BitVec.extractLsb'_append_eq_of_add_le, Nat.reduceSub, BitVec.extractLsb'_eq_self,
    BitVec.reduceToNat, BitVec.reduceExtractLsb'] <;> rfl

theorem subo (r2 : BitVec 5) (r1 : BitVec 5) (c : BitVec 3) (f : BitVec 1) (t : BitVec 5) : Statement (.subo r2 r1 c f t) := by
  intro _
  change decode (0x2#6 ++ r2 ++ r1 ++ c ++ f ++ 0x60#7 ++ t : BitVec 32) = _
  simp (disch := decide) only [decode, decodeArith, field, BitVec.extractLsb'_append_eq_of_le,
    BitVec.extractLsb'_append_eq_of_add_le, Nat.reduceSub, BitVec.extractLsb'_eq_self,
    BitVec.reduceToNat, BitVec.reduceExtractLsb'] <;> rfl

theorem subb (r2 : BitVec 5) (r1 : BitVec 5) (c : BitVec 3) (f : BitVec 1) (t : BitVec 5) : Statement (.subb r2 r1 c f t) := by
  intro _
  change decode (0x2#6 ++ r2 ++ r1 ++ c ++ f ++ 0x28#7 ++ t : BitVec 32) = _
  simp (disch := decide) only [decode, decodeArith, field, BitVec.extractLsb'_append_eq_of_le,
    BitVec.extractLsb'_append_eq_of_add_le, Nat.reduceSub, BitVec.extractLsb'_eq_self,
    BitVec.reduceToNat, BitVec.reduceExtractLsb'] <;> rfl

theorem subbo (r2 : BitVec 5) (r1 : BitVec 5) (c : BitVec 3) (f : BitVec 1) (t : BitVec 5) : Statement (.subbo r2 r1 c f t) := by
  intro _
  change decode (0x2#6 ++ r2 ++ r1 ++ c ++ f ++ 0x68#7 ++ t : BitVec 32) = _
  simp (disch := decide) only [decode, decodeArith, field, BitVec.extractLsb'_append_eq_of_le,
    BitVec.extractLsb'_append_eq_of_add_le, Nat.reduceSub, BitVec.extractLsb'_eq_self,
    BitVec.reduceToNat, BitVec.reduceExtractLsb'] <;> rfl

theorem subt (r2 : BitVec 5) (r1 : BitVec 5) (c : BitVec 3) (f : BitVec 1) (t : BitVec 5) : Statement (.subt r2 r1 c f t) := by
  intro _
  change decode (0x2#6 ++ r2 ++ r1 ++ c ++ f ++ 0x26#7 ++ t : BitVec 32) = _
  simp (disch := decide) only [decode, decodeArith, field, BitVec.extractLsb'_append_eq_of_le,
    BitVec.extractLsb'_append_eq_of_add_le, Nat.reduceSub, BitVec.extractLsb'_eq_self,
    BitVec.reduceToNat, BitVec.reduceExtractLsb'] <;> rfl

theorem subto (r2 : BitVec 5) (r1 : BitVec 5) (c : BitVec 3) (f : BitVec 1) (t : BitVec 5) : Statement (.subto r2 r1 c f t) := by
  intro _
  change decode (0x2#6 ++ r2 ++ r1 ++ c ++ f ++ 0x66#7 ++ t : BitVec 32) = _
  simp (disch := decide) only [decode, decodeArith, field, BitVec.extractLsb'_append_eq_of_le,
    BitVec.extractLsb'_append_eq_of_add_le, Nat.reduceSub, BitVec.extractLsb'_eq_self,
    BitVec.reduceToNat, BitVec.reduceExtractLsb'] <;> rfl

theorem ds (r2 : BitVec 5) (r1 : BitVec 5) (c : BitVec 3) (f : BitVec 1) (t : BitVec 5) : Statement (.ds r2 r1 c f t) := by
  intro _
  change decode (0x2#6 ++ r2 ++ r1 ++ c ++ f ++ 0x22#7 ++ t : BitVec 32) = _
  simp (disch := decide) only [decode, decodeArith, field, BitVec.extractLsb'_append_eq_of_le,
    BitVec.extractLsb'_append_eq_of_add_le, Nat.reduceSub, BitVec.extractLsb'_eq_self,
    BitVec.reduceToNat, BitVec.reduceExtractLsb'] <;> rfl

theorem comclr (r2 : BitVec 5) (r1 : BitVec 5) (c : BitVec 3) (f : BitVec 1) (t : BitVec 5) : Statement (.comclr r2 r1 c f t) := by
  intro _
  change decode (0x2#6 ++ r2 ++ r1 ++ c ++ f ++ 0x44#7 ++ t : BitVec 32) = _
  simp (disch := decide) only [decode, decodeArith, field, BitVec.extractLsb'_append_eq_of_le,
    BitVec.extractLsb'_append_eq_of_add_le, Nat.reduceSub, BitVec.extractLsb'_eq_self,
    BitVec.reduceToNat, BitVec.reduceExtractLsb'] <;> rfl

theorem or (r2 : BitVec 5) (r1 : BitVec 5) (c : BitVec 3) (f : BitVec 1) (t : BitVec 5) : Statement (.or r2 r1 c f t) := by
  intro _
  change decode (0x2#6 ++ r2 ++ r1 ++ c ++ f ++ 0x12#7 ++ t : BitVec 32) = _
  simp (disch := decide) only [decode, decodeArith, field, BitVec.extractLsb'_append_eq_of_le,
    BitVec.extractLsb'_append_eq_of_add_le, Nat.reduceSub, BitVec.extractLsb'_eq_self,
    BitVec.reduceToNat, BitVec.reduceExtractLsb'] <;> rfl

theorem xor (r2 : BitVec 5) (r1 : BitVec 5) (c : BitVec 3) (f : BitVec 1) (t : BitVec 5) : Statement (.xor r2 r1 c f t) := by
  intro _
  change decode (0x2#6 ++ r2 ++ r1 ++ c ++ f ++ 0x14#7 ++ t : BitVec 32) = _
  simp (disch := decide) only [decode, decodeArith, field, BitVec.extractLsb'_append_eq_of_le,
    BitVec.extractLsb'_append_eq_of_add_le, Nat.reduceSub, BitVec.extractLsb'_eq_self,
    BitVec.reduceToNat, BitVec.reduceExtractLsb'] <;> rfl

theorem and (r2 : BitVec 5) (r1 : BitVec 5) (c : BitVec 3) (f : BitVec 1) (t : BitVec 5) : Statement (.and r2 r1 c f t) := by
  intro _
  change decode (0x2#6 ++ r2 ++ r1 ++ c ++ f ++ 0x10#7 ++ t : BitVec 32) = _
  simp (disch := decide) only [decode, decodeArith, field, BitVec.extractLsb'_append_eq_of_le,
    BitVec.extractLsb'_append_eq_of_add_le, Nat.reduceSub, BitVec.extractLsb'_eq_self,
    BitVec.reduceToNat, BitVec.reduceExtractLsb'] <;> rfl

theorem andcm (r2 : BitVec 5) (r1 : BitVec 5) (c : BitVec 3) (f : BitVec 1) (t : BitVec 5) : Statement (.andcm r2 r1 c f t) := by
  intro _
  change decode (0x2#6 ++ r2 ++ r1 ++ c ++ f ++ 0x0#7 ++ t : BitVec 32) = _
  simp (disch := decide) only [decode, decodeArith, field, BitVec.extractLsb'_append_eq_of_le,
    BitVec.extractLsb'_append_eq_of_add_le, Nat.reduceSub, BitVec.extractLsb'_eq_self,
    BitVec.reduceToNat, BitVec.reduceExtractLsb'] <;> rfl

theorem uxor (r2 : BitVec 5) (r1 : BitVec 5) (c : BitVec 3) (f : BitVec 1) (t : BitVec 5) : Statement (.uxor r2 r1 c f t) := by
  intro _
  change decode (0x2#6 ++ r2 ++ r1 ++ c ++ f ++ 0x1c#7 ++ t : BitVec 32) = _
  simp (disch := decide) only [decode, decodeArith, field, BitVec.extractLsb'_append_eq_of_le,
    BitVec.extractLsb'_append_eq_of_add_le, Nat.reduceSub, BitVec.extractLsb'_eq_self,
    BitVec.reduceToNat, BitVec.reduceExtractLsb'] <;> rfl

theorem uaddcm (r2 : BitVec 5) (r1 : BitVec 5) (c : BitVec 3) (f : BitVec 1) (t : BitVec 5) : Statement (.uaddcm r2 r1 c f t) := by
  intro _
  change decode (0x2#6 ++ r2 ++ r1 ++ c ++ f ++ 0x4c#7 ++ t : BitVec 32) = _
  simp (disch := decide) only [decode, decodeArith, field, BitVec.extractLsb'_append_eq_of_le,
    BitVec.extractLsb'_append_eq_of_add_le, Nat.reduceSub, BitVec.extractLsb'_eq_self,
    BitVec.reduceToNat, BitVec.reduceExtractLsb'] <;> rfl

theorem uaddcmt (r2 : BitVec 5) (r1 : BitVec 5) (c : BitVec 3) (f : BitVec 1) (t : BitVec 5) : Statement (.uaddcmt r2 r1 c f t) := by
  intro _
  change decode (0x2#6 ++ r2 ++ r1 ++ c ++ f ++ 0x4e#7 ++ t : BitVec 32) = _
  simp (disch := decide) only [decode, decodeArith, field, BitVec.extractLsb'_append_eq_of_le,
    BitVec.extractLsb'_append_eq_of_add_le, Nat.reduceSub, BitVec.extractLsb'_eq_self,
    BitVec.reduceToNat, BitVec.reduceExtractLsb'] <;> rfl

theorem dcor (r : BitVec 5) (c : BitVec 3) (f : BitVec 1) (t : BitVec 5) : Statement (.dcor r c f t) := by
  intro _
  change decode (0x2#6 ++ r ++ 0x0#5 ++ c ++ f ++ 0x5c#7 ++ t : BitVec 32) = _
  simp (disch := decide) only [decode, decodeArith, field, BitVec.extractLsb'_append_eq_of_le,
    BitVec.extractLsb'_append_eq_of_add_le, Nat.reduceSub, BitVec.extractLsb'_eq_self,
    BitVec.reduceToNat, BitVec.reduceExtractLsb'] <;> rfl

theorem idcor (r : BitVec 5) (c : BitVec 3) (f : BitVec 1) (t : BitVec 5) : Statement (.idcor r c f t) := by
  intro _
  change decode (0x2#6 ++ r ++ 0x0#5 ++ c ++ f ++ 0x5e#7 ++ t : BitVec 32) = _
  simp (disch := decide) only [decode, decodeArith, field, BitVec.extractLsb'_append_eq_of_le,
    BitVec.extractLsb'_append_eq_of_add_le, Nat.reduceSub, BitVec.extractLsb'_eq_self,
    BitVec.reduceToNat, BitVec.reduceExtractLsb'] <;> rfl

theorem addi (r : BitVec 5) (t : BitVec 5) (c : BitVec 3) (f : BitVec 1) (im11 : BitVec 11) : Statement (.addi r t c f im11) := by
  intro _
  change decode (0x2d#6 ++ r ++ t ++ c ++ f ++ 0x0#1 ++ im11 : BitVec 32) = _
  simp (disch := decide) only [decode, decodeAddi, field, BitVec.extractLsb'_append_eq_of_le,
    BitVec.extractLsb'_append_eq_of_add_le, Nat.reduceSub, BitVec.extractLsb'_eq_self,
    BitVec.reduceToNat, BitVec.reduceExtractLsb'] <;> rfl

theorem addio (r : BitVec 5) (t : BitVec 5) (c : BitVec 3) (f : BitVec 1) (im11 : BitVec 11) : Statement (.addio r t c f im11) := by
  intro _
  change decode (0x2d#6 ++ r ++ t ++ c ++ f ++ 0x1#1 ++ im11 : BitVec 32) = _
  simp (disch := decide) only [decode, decodeAddi, field, BitVec.extractLsb'_append_eq_of_le,
    BitVec.extractLsb'_append_eq_of_add_le, Nat.reduceSub, BitVec.extractLsb'_eq_self,
    BitVec.reduceToNat, BitVec.reduceExtractLsb'] <;> rfl

theorem addit (r : BitVec 5) (t : BitVec 5) (c : BitVec 3) (f : BitVec 1) (im11 : BitVec 11) : Statement (.addit r t c f im11) := by
  intro _
  change decode (0x2c#6 ++ r ++ t ++ c ++ f ++ 0x0#1 ++ im11 : BitVec 32) = _
  simp (disch := decide) only [decode, decodeAddit, field, BitVec.extractLsb'_append_eq_of_le,
    BitVec.extractLsb'_append_eq_of_add_le, Nat.reduceSub, BitVec.extractLsb'_eq_self,
    BitVec.reduceToNat, BitVec.reduceExtractLsb'] <;> rfl

theorem addito (r : BitVec 5) (t : BitVec 5) (c : BitVec 3) (f : BitVec 1) (im11 : BitVec 11) : Statement (.addito r t c f im11) := by
  intro _
  change decode (0x2c#6 ++ r ++ t ++ c ++ f ++ 0x1#1 ++ im11 : BitVec 32) = _
  simp (disch := decide) only [decode, decodeAddit, field, BitVec.extractLsb'_append_eq_of_le,
    BitVec.extractLsb'_append_eq_of_add_le, Nat.reduceSub, BitVec.extractLsb'_eq_self,
    BitVec.reduceToNat, BitVec.reduceExtractLsb'] <;> rfl

theorem subi (r : BitVec 5) (t : BitVec 5) (c : BitVec 3) (f : BitVec 1) (im11 : BitVec 11) : Statement (.subi r t c f im11) := by
  intro _
  change decode (0x25#6 ++ r ++ t ++ c ++ f ++ 0x0#1 ++ im11 : BitVec 32) = _
  simp (disch := decide) only [decode, decodeSubi, field, BitVec.extractLsb'_append_eq_of_le,
    BitVec.extractLsb'_append_eq_of_add_le, Nat.reduceSub, BitVec.extractLsb'_eq_self,
    BitVec.reduceToNat, BitVec.reduceExtractLsb'] <;> rfl

theorem subio (r : BitVec 5) (t : BitVec 5) (c : BitVec 3) (f : BitVec 1) (im11 : BitVec 11) : Statement (.subio r t c f im11) := by
  intro _
  change decode (0x25#6 ++ r ++ t ++ c ++ f ++ 0x1#1 ++ im11 : BitVec 32) = _
  simp (disch := decide) only [decode, decodeSubi, field, BitVec.extractLsb'_append_eq_of_le,
    BitVec.extractLsb'_append_eq_of_add_le, Nat.reduceSub, BitVec.extractLsb'_eq_self,
    BitVec.reduceToNat, BitVec.reduceExtractLsb'] <;> rfl

theorem comiclr (r : BitVec 5) (t : BitVec 5) (c : BitVec 3) (f : BitVec 1) (im11 : BitVec 11) : Statement (.comiclr r t c f im11) := by
  intro _
  change decode (0x24#6 ++ r ++ t ++ c ++ f ++ 0x0#1 ++ im11 : BitVec 32) = _
  simp (disch := decide) only [decode, decodeComiclr, field, BitVec.extractLsb'_append_eq_of_le,
    BitVec.extractLsb'_append_eq_of_add_le, Nat.reduceSub, BitVec.extractLsb'_eq_self,
    BitVec.reduceToNat, BitVec.reduceExtractLsb'] <;> rfl

theorem vshd (r2 : BitVec 5) (r1 : BitVec 5) (c : BitVec 3) (t : BitVec 5) : Statement (.vshd r2 r1 c t) := by
  intro _
  change decode (0x34#6 ++ r2 ++ r1 ++ c ++ 0x0#8 ++ t : BitVec 32) = _
  simp (disch := decide) only [decode, decodeExtract, field, BitVec.extractLsb'_append_eq_of_le,
    BitVec.extractLsb'_append_eq_of_add_le, Nat.reduceSub, BitVec.extractLsb'_eq_self,
    BitVec.reduceToNat, BitVec.reduceExtractLsb'] <;> rfl

theorem shd (r2 : BitVec 5) (r1 : BitVec 5) (c : BitVec 3) (cp : BitVec 5) (t : BitVec 5) : Statement (.shd r2 r1 c cp t) := by
  intro _
  change decode (0x34#6 ++ r2 ++ r1 ++ c ++ 0x2#3 ++ cp ++ t : BitVec 32) = _
  simp (disch := decide) only [decode, decodeExtract, field, BitVec.extractLsb'_append_eq_of_le,
    BitVec.extractLsb'_append_eq_of_add_le, Nat.reduceSub, BitVec.extractLsb'_eq_self,
    BitVec.reduceToNat, BitVec.reduceExtractLsb'] <;> rfl

theorem vextru (r : BitVec 5) (t : BitVec 5) (c : BitVec 3) (clen : BitVec 5) : Statement (.vextru r t c clen) := by
  intro _
  change decode (0x34#6 ++ r ++ t ++ c ++ 0x80#8 ++ clen : BitVec 32) = _
  simp (disch := decide) only [decode, decodeExtract, field, BitVec.extractLsb'_append_eq_of_le,
    BitVec.extractLsb'_append_eq_of_add_le, Nat.reduceSub, BitVec.extractLsb'_eq_self,
    BitVec.reduceToNat, BitVec.reduceExtractLsb'] <;> rfl

theorem vextrs (r : BitVec 5) (t : BitVec 5) (c : BitVec 3) (clen : BitVec 5) : Statement (.vextrs r t c clen) := by
  intro _
  change decode (0x34#6 ++ r ++ t ++ c ++ 0xa0#8 ++ clen : BitVec 32) = _
  simp (disch := decide) only [decode, decodeExtract, field, BitVec.extractLsb'_append_eq_of_le,
    BitVec.extractLsb'_append_eq_of_add_le, Nat.reduceSub, BitVec.extractLsb'_eq_self,
    BitVec.reduceToNat, BitVec.reduceExtractLsb'] <;> rfl

theorem extru (r : BitVec 5) (t : BitVec 5) (c : BitVec 3) (p : BitVec 5) (clen : BitVec 5) : Statement (.extru r t c p clen) := by
  intro _
  change decode (0x34#6 ++ r ++ t ++ c ++ 0x6#3 ++ p ++ clen : BitVec 32) = _
  simp (disch := decide) only [decode, decodeExtract, field, BitVec.extractLsb'_append_eq_of_le,
    BitVec.extractLsb'_append_eq_of_add_le, Nat.reduceSub, BitVec.extractLsb'_eq_self,
    BitVec.reduceToNat, BitVec.reduceExtractLsb'] <;> rfl

theorem extrs (r : BitVec 5) (t : BitVec 5) (c : BitVec 3) (p : BitVec 5) (clen : BitVec 5) : Statement (.extrs r t c p clen) := by
  intro _
  change decode (0x34#6 ++ r ++ t ++ c ++ 0x7#3 ++ p ++ clen : BitVec 32) = _
  simp (disch := decide) only [decode, decodeExtract, field, BitVec.extractLsb'_append_eq_of_le,
    BitVec.extractLsb'_append_eq_of_add_le, Nat.reduceSub, BitVec.extractLsb'_eq_self,
    BitVec.reduceToNat, BitVec.reduceExtractLsb'] <;> rfl

theorem zvdep (t : BitVec 5) (r : BitVec 5) (c : BitVec 3) (clen : BitVec 5) : Statement (.zvdep t r c clen) := by
  intro _
  change decode (0x35#6 ++ t ++ r ++ c ++ 0x0#8 ++ clen : BitVec 32) = _
  simp (disch := decide) only [decode, decodeDeposit, field, BitVec.extractLsb'_append_eq_of_le,
    BitVec.extractLsb'_append_eq_of_add_le, Nat.reduceSub, BitVec.extractLsb'_eq_self,
    BitVec.reduceToNat, BitVec.reduceExtractLsb'] <;> rfl

theorem vdep (t : BitVec 5) (r : BitVec 5) (c : BitVec 3) (clen : BitVec 5) : Statement (.vdep t r c clen) := by
  intro _
  change decode (0x35#6 ++ t ++ r ++ c ++ 0x20#8 ++ clen : BitVec 32) = _
  simp (disch := decide) only [decode, decodeDeposit, field, BitVec.extractLsb'_append_eq_of_le,
    BitVec.extractLsb'_append_eq_of_add_le, Nat.reduceSub, BitVec.extractLsb'_eq_self,
    BitVec.reduceToNat, BitVec.reduceExtractLsb'] <;> rfl

theorem zdep (t : BitVec 5) (r : BitVec 5) (c : BitVec 3) (cp : BitVec 5) (clen : BitVec 5) : Statement (.zdep t r c cp clen) := by
  intro _
  change decode (0x35#6 ++ t ++ r ++ c ++ 0x2#3 ++ cp ++ clen : BitVec 32) = _
  simp (disch := decide) only [decode, decodeDeposit, field, BitVec.extractLsb'_append_eq_of_le,
    BitVec.extractLsb'_append_eq_of_add_le, Nat.reduceSub, BitVec.extractLsb'_eq_self,
    BitVec.reduceToNat, BitVec.reduceExtractLsb'] <;> rfl

theorem dep (t : BitVec 5) (r : BitVec 5) (c : BitVec 3) (cp : BitVec 5) (clen : BitVec 5) : Statement (.dep t r c cp clen) := by
  intro _
  change decode (0x35#6 ++ t ++ r ++ c ++ 0x3#3 ++ cp ++ clen : BitVec 32) = _
  simp (disch := decide) only [decode, decodeDeposit, field, BitVec.extractLsb'_append_eq_of_le,
    BitVec.extractLsb'_append_eq_of_add_le, Nat.reduceSub, BitVec.extractLsb'_eq_self,
    BitVec.reduceToNat, BitVec.reduceExtractLsb'] <;> rfl

theorem zvdepi (t : BitVec 5) (im5 : BitVec 5) (c : BitVec 3) (clen : BitVec 5) : Statement (.zvdepi t im5 c clen) := by
  intro _
  change decode (0x35#6 ++ t ++ im5 ++ c ++ 0x80#8 ++ clen : BitVec 32) = _
  simp (disch := decide) only [decode, decodeDeposit, field, BitVec.extractLsb'_append_eq_of_le,
    BitVec.extractLsb'_append_eq_of_add_le, Nat.reduceSub, BitVec.extractLsb'_eq_self,
    BitVec.reduceToNat, BitVec.reduceExtractLsb'] <;> rfl

theorem vdepi (t : BitVec 5) (im5 : BitVec 5) (c : BitVec 3) (clen : BitVec 5) : Statement (.vdepi t im5 c clen) := by
  intro _
  change decode (0x35#6 ++ t ++ im5 ++ c ++ 0xa0#8 ++ clen : BitVec 32) = _
  simp (disch := decide) only [decode, decodeDeposit, field, BitVec.extractLsb'_append_eq_of_le,
    BitVec.extractLsb'_append_eq_of_add_le, Nat.reduceSub, BitVec.extractLsb'_eq_self,
    BitVec.reduceToNat, BitVec.reduceExtractLsb'] <;> rfl

theorem zdepi (t : BitVec 5) (im5 : BitVec 5) (c : BitVec 3) (cp : BitVec 5) (clen : BitVec 5) : Statement (.zdepi t im5 c cp clen) := by
  intro _
  change decode (0x35#6 ++ t ++ im5 ++ c ++ 0x6#3 ++ cp ++ clen : BitVec 32) = _
  simp (disch := decide) only [decode, decodeDeposit, field, BitVec.extractLsb'_append_eq_of_le,
    BitVec.extractLsb'_append_eq_of_add_le, Nat.reduceSub, BitVec.extractLsb'_eq_self,
    BitVec.reduceToNat, BitVec.reduceExtractLsb'] <;> rfl

theorem depi (t : BitVec 5) (im5 : BitVec 5) (c : BitVec 3) (cp : BitVec 5) (clen : BitVec 5) : Statement (.depi t im5 c cp clen) := by
  intro _
  change decode (0x35#6 ++ t ++ im5 ++ c ++ 0x7#3 ++ cp ++ clen : BitVec 32) = _
  simp (disch := decide) only [decode, decodeDeposit, field, BitVec.extractLsb'_append_eq_of_le,
    BitVec.extractLsb'_append_eq_of_add_le, Nat.reduceSub, BitVec.extractLsb'_eq_self,
    BitVec.reduceToNat, BitVec.reduceExtractLsb'] <;> rfl

theorem breakTrap (im13 : BitVec 13) (im5 : BitVec 5) : Statement (.breakTrap im13 im5) := by
  intro _
  change decode (0x0#6 ++ im13 ++ 0x0#8 ++ im5 : BitVec 32) = _
  simp (disch := decide) only [decode, decodeSystem, field, BitVec.extractLsb'_append_eq_of_le,
    BitVec.extractLsb'_append_eq_of_add_le, Nat.reduceSub, BitVec.extractLsb'_eq_self,
    BitVec.reduceToNat, BitVec.reduceExtractLsb'] <;> rfl

theorem sync : Statement (.sync) := by
  intro _
  change decode (0x0#6 ++ 0#5 ++ 0x0#1 ++ 0#4 ++ 0x400#16 : BitVec 32) = _
  simp (disch := decide) only [decode, decodeSystem, field, BitVec.extractLsb'_append_eq_of_le,
    BitVec.extractLsb'_append_eq_of_add_le, Nat.reduceSub, BitVec.extractLsb'_eq_self,
    BitVec.reduceToNat, BitVec.reduceExtractLsb'] <;> rfl

theorem syncdma : Statement (.syncdma) := by
  intro _
  change decode (0x0#6 ++ 0#5 ++ 0x1#1 ++ 0#4 ++ 0x400#16 : BitVec 32) = _
  simp (disch := decide) only [decode, decodeSystem, field, BitVec.extractLsb'_append_eq_of_le,
    BitVec.extractLsb'_append_eq_of_add_le, Nat.reduceSub, BitVec.extractLsb'_eq_self,
    BitVec.reduceToNat, BitVec.reduceExtractLsb'] <;> rfl

theorem rfi : Statement (.rfi) := by
  intro _
  change decode (0x0#6 ++ 0#13 ++ 0xc00#13 : BitVec 32) = _
  simp (disch := decide) only [decode, decodeSystem, field, BitVec.extractLsb'_append_eq_of_le,
    BitVec.extractLsb'_append_eq_of_add_le, Nat.reduceSub, BitVec.extractLsb'_eq_self,
    BitVec.reduceToNat, BitVec.reduceExtractLsb'] <;> rfl

theorem rfir : Statement (.rfir) := by
  intro _
  change decode (0x0#6 ++ 0#13 ++ 0xca0#13 : BitVec 32) = _
  simp (disch := decide) only [decode, decodeSystem, field, BitVec.extractLsb'_append_eq_of_le,
    BitVec.extractLsb'_append_eq_of_add_le, Nat.reduceSub, BitVec.extractLsb'_eq_self,
    BitVec.reduceToNat, BitVec.reduceExtractLsb'] <;> rfl

theorem ssm (i : BitVec 7) (t : BitVec 5) : Statement (.ssm i t) := by
  intro _
  change decode (0x0#6 ++ 0#3 ++ i ++ 0x6b#11 ++ t : BitVec 32) = _
  simp (disch := decide) only [decode, decodeSystem, field, BitVec.extractLsb'_append_eq_of_le,
    BitVec.extractLsb'_append_eq_of_add_le, Nat.reduceSub, BitVec.extractLsb'_eq_self,
    BitVec.reduceToNat, BitVec.reduceExtractLsb'] <;> rfl

theorem rsm (i : BitVec 7) (t : BitVec 5) : Statement (.rsm i t) := by
  intro _
  change decode (0x0#6 ++ 0#3 ++ i ++ 0x73#11 ++ t : BitVec 32) = _
  simp (disch := decide) only [decode, decodeSystem, field, BitVec.extractLsb'_append_eq_of_le,
    BitVec.extractLsb'_append_eq_of_add_le, Nat.reduceSub, BitVec.extractLsb'_eq_self,
    BitVec.reduceToNat, BitVec.reduceExtractLsb'] <;> rfl

theorem mtsm (r : BitVec 5) : Statement (.mtsm r) := by
  intro _
  change decode (0x0#6 ++ 0x0#5 ++ r ++ 0x1860#16 : BitVec 32) = _
  simp (disch := decide) only [decode, decodeSystem, field, BitVec.extractLsb'_append_eq_of_le,
    BitVec.extractLsb'_append_eq_of_add_le, Nat.reduceSub, BitVec.extractLsb'_eq_self,
    BitVec.reduceToNat, BitVec.reduceExtractLsb'] <;> rfl

theorem ldsid (b : BitVec 5) (s : BitVec 2) (t : BitVec 5) : Statement (.ldsid b s t) := by
  intro _
  change decode (0x0#6 ++ b ++ 0#5 ++ s ++ 0x85#9 ++ t : BitVec 32) = _
  simp (disch := decide) only [decode, decodeSystem, field, BitVec.extractLsb'_append_eq_of_le,
    BitVec.extractLsb'_append_eq_of_add_le, Nat.reduceSub, BitVec.extractLsb'_eq_self,
    BitVec.reduceToNat, BitVec.reduceExtractLsb'] <;> rfl

theorem mtsp (r : BitVec 5) (s : BitVec 3) : Statement (.mtsp r s) := by
  intro _
  change decode (0x0#6 ++ 0#5 ++ r ++ s ++ 0x1820#13 : BitVec 32) = _
  simp (disch := decide) only [decode, decodeSystem, field, BitVec.extractLsb'_append_eq_of_le,
    BitVec.extractLsb'_append_eq_of_add_le, Nat.reduceSub, BitVec.extractLsb'_eq_self,
    BitVec.reduceToNat, BitVec.reduceExtractLsb'] <;> rfl

theorem mfsp (s : BitVec 3) (t : BitVec 5) : Statement (.mfsp s t) := by
  intro _
  change decode (0x0#6 ++ 0#5 ++ 0x0#5 ++ s ++ 0x25#8 ++ t : BitVec 32) = _
  simp (disch := decide) only [decode, decodeSystem, field, BitVec.extractLsb'_append_eq_of_le,
    BitVec.extractLsb'_append_eq_of_add_le, Nat.reduceSub, BitVec.extractLsb'_eq_self,
    BitVec.reduceToNat, BitVec.reduceExtractLsb'] <;> rfl

theorem mtctl (t : BitVec 5) (r : BitVec 5) : Statement (.mtctl t r) := by
  intro _
  change decode (0x0#6 ++ t ++ r ++ 0#3 ++ 0x1840#13 : BitVec 32) = _
  simp (disch := decide) only [decode, decodeSystem, field, BitVec.extractLsb'_append_eq_of_le,
    BitVec.extractLsb'_append_eq_of_add_le, Nat.reduceSub, BitVec.extractLsb'_eq_self,
    BitVec.reduceToNat, BitVec.reduceExtractLsb'] <;> rfl

theorem mfctl (r : BitVec 5) (t : BitVec 5) : Statement (.mfctl r t) := by
  intro _
  change decode (0x0#6 ++ r ++ 0x0#5 ++ 0#3 ++ 0x45#8 ++ t : BitVec 32) = _
  simp (disch := decide) only [decode, decodeSystem, field, BitVec.extractLsb'_append_eq_of_le,
    BitVec.extractLsb'_append_eq_of_add_le, Nat.reduceSub, BitVec.extractLsb'_eq_self,
    BitVec.reduceToNat, BitVec.reduceExtractLsb'] <;> rfl

theorem idtlba (b : BitVec 5) (r : BitVec 5) (s : BitVec 2) : Statement (.idtlba b r s) := by
  intro _
  change decode (0x1#6 ++ b ++ r ++ s ++ 0x1040#14 : BitVec 32) = _
  simp (disch := decide) only [decode, decodeMemMgmt, field, BitVec.extractLsb'_append_eq_of_le,
    BitVec.extractLsb'_append_eq_of_add_le, Nat.reduceSub, BitVec.extractLsb'_eq_self,
    BitVec.reduceToNat, BitVec.reduceExtractLsb'] <;> rfl

theorem idtlbp (b : BitVec 5) (r : BitVec 5) (s : BitVec 2) : Statement (.idtlbp b r s) := by
  intro _
  change decode (0x1#6 ++ b ++ r ++ s ++ 0x1000#14 : BitVec 32) = _
  simp (disch := decide) only [decode, decodeMemMgmt, field, BitVec.extractLsb'_append_eq_of_le,
    BitVec.extractLsb'_append_eq_of_add_le, Nat.reduceSub, BitVec.extractLsb'_eq_self,
    BitVec.reduceToNat, BitVec.reduceExtractLsb'] <;> rfl

theorem pdtlb (b : BitVec 5) (x : BitVec 5) (s : BitVec 2) (m : BitVec 1) : Statement (.pdtlb b x s m) := by
  intro _
  change decode (0x1#6 ++ b ++ x ++ s ++ 0x48#8 ++ m ++ 0#5 : BitVec 32) = _
  simp (disch := decide) only [decode, decodeMemMgmt, field, BitVec.extractLsb'_append_eq_of_le,
    BitVec.extractLsb'_append_eq_of_add_le, Nat.reduceSub, BitVec.extractLsb'_eq_self,
    BitVec.reduceToNat, BitVec.reduceExtractLsb'] <;> rfl

theorem pdtlbe (b : BitVec 5) (x : BitVec 5) (s : BitVec 2) (m : BitVec 1) : Statement (.pdtlbe b x s m) := by
  intro _
  change decode (0x1#6 ++ b ++ x ++ s ++ 0x49#8 ++ m ++ 0#5 : BitVec 32) = _
  simp (disch := decide) only [decode, decodeMemMgmt, field, BitVec.extractLsb'_append_eq_of_le,
    BitVec.extractLsb'_append_eq_of_add_le, Nat.reduceSub, BitVec.extractLsb'_eq_self,
    BitVec.reduceToNat, BitVec.reduceExtractLsb'] <;> rfl

theorem fdc (b : BitVec 5) (x : BitVec 5) (s : BitVec 2) (m : BitVec 1) : Statement (.fdc b x s m) := by
  intro _
  change decode (0x1#6 ++ b ++ x ++ s ++ 0x4a#8 ++ m ++ 0#5 : BitVec 32) = _
  simp (disch := decide) only [decode, decodeMemMgmt, field, BitVec.extractLsb'_append_eq_of_le,
    BitVec.extractLsb'_append_eq_of_add_le, Nat.reduceSub, BitVec.extractLsb'_eq_self,
    BitVec.reduceToNat, BitVec.reduceExtractLsb'] <;> rfl

theorem fdce (b : BitVec 5) (x : BitVec 5) (s : BitVec 2) (m : BitVec 1) : Statement (.fdce b x s m) := by
  intro _
  change decode (0x1#6 ++ b ++ x ++ s ++ 0x4b#8 ++ m ++ 0#5 : BitVec 32) = _
  simp (disch := decide) only [decode, decodeMemMgmt, field, BitVec.extractLsb'_append_eq_of_le,
    BitVec.extractLsb'_append_eq_of_add_le, Nat.reduceSub, BitVec.extractLsb'_eq_self,
    BitVec.reduceToNat, BitVec.reduceExtractLsb'] <;> rfl

theorem pdc (b : BitVec 5) (x : BitVec 5) (s : BitVec 2) (m : BitVec 1) : Statement (.pdc b x s m) := by
  intro _
  change decode (0x1#6 ++ b ++ x ++ s ++ 0x4e#8 ++ m ++ 0x0#5 : BitVec 32) = _
  simp (disch := decide) only [decode, decodeMemMgmt, field, BitVec.extractLsb'_append_eq_of_le,
    BitVec.extractLsb'_append_eq_of_add_le, Nat.reduceSub, BitVec.extractLsb'_eq_self,
    BitVec.reduceToNat, BitVec.reduceExtractLsb'] <;> rfl

theorem prober (b : BitVec 5) (r : BitVec 5) (s : BitVec 2) (t : BitVec 5) : Statement (.prober b r s t) := by
  intro _
  change decode (0x1#6 ++ b ++ r ++ s ++ 0x8c#9 ++ t : BitVec 32) = _
  simp (disch := decide) only [decode, decodeMemMgmt, field, BitVec.extractLsb'_append_eq_of_le,
    BitVec.extractLsb'_append_eq_of_add_le, Nat.reduceSub, BitVec.extractLsb'_eq_self,
    BitVec.reduceToNat, BitVec.reduceExtractLsb'] <;> rfl

theorem proberi (b : BitVec 5) (im5 : BitVec 5) (s : BitVec 2) (t : BitVec 5) : Statement (.proberi b im5 s t) := by
  intro _
  change decode (0x1#6 ++ b ++ im5 ++ s ++ 0x18c#9 ++ t : BitVec 32) = _
  simp (disch := decide) only [decode, decodeMemMgmt, field, BitVec.extractLsb'_append_eq_of_le,
    BitVec.extractLsb'_append_eq_of_add_le, Nat.reduceSub, BitVec.extractLsb'_eq_self,
    BitVec.reduceToNat, BitVec.reduceExtractLsb'] <;> rfl

theorem probew (b : BitVec 5) (r : BitVec 5) (s : BitVec 2) (t : BitVec 5) : Statement (.probew b r s t) := by
  intro _
  change decode (0x1#6 ++ b ++ r ++ s ++ 0x8e#9 ++ t : BitVec 32) = _
  simp (disch := decide) only [decode, decodeMemMgmt, field, BitVec.extractLsb'_append_eq_of_le,
    BitVec.extractLsb'_append_eq_of_add_le, Nat.reduceSub, BitVec.extractLsb'_eq_self,
    BitVec.reduceToNat, BitVec.reduceExtractLsb'] <;> rfl

theorem probewi (b : BitVec 5) (im5 : BitVec 5) (s : BitVec 2) (t : BitVec 5) : Statement (.probewi b im5 s t) := by
  intro _
  change decode (0x1#6 ++ b ++ im5 ++ s ++ 0x18e#9 ++ t : BitVec 32) = _
  simp (disch := decide) only [decode, decodeMemMgmt, field, BitVec.extractLsb'_append_eq_of_le,
    BitVec.extractLsb'_append_eq_of_add_le, Nat.reduceSub, BitVec.extractLsb'_eq_self,
    BitVec.reduceToNat, BitVec.reduceExtractLsb'] <;> rfl

theorem lpa (b : BitVec 5) (x : BitVec 5) (s : BitVec 2) (m : BitVec 1) (t : BitVec 5) : Statement (.lpa b x s m t) := by
  intro _
  change decode (0x1#6 ++ b ++ x ++ s ++ 0x4d#8 ++ m ++ t : BitVec 32) = _
  simp (disch := decide) only [decode, decodeMemMgmt, field, BitVec.extractLsb'_append_eq_of_le,
    BitVec.extractLsb'_append_eq_of_add_le, Nat.reduceSub, BitVec.extractLsb'_eq_self,
    BitVec.reduceToNat, BitVec.reduceExtractLsb'] <;> rfl

theorem lci (b : BitVec 5) (x : BitVec 5) (s : BitVec 2) (t : BitVec 5) : Statement (.lci b x s t) := by
  intro _
  change decode (0x1#6 ++ b ++ x ++ s ++ 0x98#9 ++ t : BitVec 32) = _
  simp (disch := decide) only [decode, decodeMemMgmt, field, BitVec.extractLsb'_append_eq_of_le,
    BitVec.extractLsb'_append_eq_of_add_le, Nat.reduceSub, BitVec.extractLsb'_eq_self,
    BitVec.reduceToNat, BitVec.reduceExtractLsb'] <;> rfl

theorem iitlba (b : BitVec 5) (r : BitVec 5) (s : BitVec 3) : Statement (.iitlba b r s) := by
  intro _
  change decode (0x1#6 ++ b ++ r ++ s ++ 0x40#13 : BitVec 32) = _
  simp (disch := decide) only [decode, decodeMemMgmt, field, BitVec.extractLsb'_append_eq_of_le,
    BitVec.extractLsb'_append_eq_of_add_le, Nat.reduceSub, BitVec.extractLsb'_eq_self,
    BitVec.reduceToNat, BitVec.reduceExtractLsb'] <;> rfl

theorem iitlbp (b : BitVec 5) (r : BitVec 5) (s : BitVec 3) : Statement (.iitlbp b r s) := by
  intro _
  change decode (0x1#6 ++ b ++ r ++ s ++ 0x0#13 : BitVec 32) = _
  simp (disch := decide) only [decode, decodeMemMgmt, field, BitVec.extractLsb'_append_eq_of_le,
    BitVec.extractLsb'_append_eq_of_add_le, Nat.reduceSub, BitVec.extractLsb'_eq_self,
    BitVec.reduceToNat, BitVec.reduceExtractLsb'] <;> rfl

theorem pitlb (b : BitVec 5) (x : BitVec 5) (s : BitVec 3) (m : BitVec 1) : Statement (.pitlb b x s m) := by
  intro _
  change decode (0x1#6 ++ b ++ x ++ s ++ 0x8#7 ++ m ++ 0#5 : BitVec 32) = _
  simp (disch := decide) only [decode, decodeMemMgmt, field, BitVec.extractLsb'_append_eq_of_le,
    BitVec.extractLsb'_append_eq_of_add_le, Nat.reduceSub, BitVec.extractLsb'_eq_self,
    BitVec.reduceToNat, BitVec.reduceExtractLsb'] <;> rfl

theorem pitlbe (b : BitVec 5) (x : BitVec 5) (s : BitVec 3) (m : BitVec 1) : Statement (.pitlbe b x s m) := by
  intro _
  change decode (0x1#6 ++ b ++ x ++ s ++ 0x9#7 ++ m ++ 0#5 : BitVec 32) = _
  simp (disch := decide) only [decode, decodeMemMgmt, field, BitVec.extractLsb'_append_eq_of_le,
    BitVec.extractLsb'_append_eq_of_add_le, Nat.reduceSub, BitVec.extractLsb'_eq_self,
    BitVec.reduceToNat, BitVec.reduceExtractLsb'] <;> rfl

theorem fic (b : BitVec 5) (x : BitVec 5) (s : BitVec 3) (m : BitVec 1) : Statement (.fic b x s m) := by
  intro _
  change decode (0x1#6 ++ b ++ x ++ s ++ 0xa#7 ++ m ++ 0#5 : BitVec 32) = _
  simp (disch := decide) only [decode, decodeMemMgmt, field, BitVec.extractLsb'_append_eq_of_le,
    BitVec.extractLsb'_append_eq_of_add_le, Nat.reduceSub, BitVec.extractLsb'_eq_self,
    BitVec.reduceToNat, BitVec.reduceExtractLsb'] <;> rfl

theorem fice (b : BitVec 5) (x : BitVec 5) (s : BitVec 3) (m : BitVec 1) : Statement (.fice b x s m) := by
  intro _
  change decode (0x1#6 ++ b ++ x ++ s ++ 0xb#7 ++ m ++ 0#5 : BitVec 32) = _
  simp (disch := decide) only [decode, decodeMemMgmt, field, BitVec.extractLsb'_append_eq_of_le,
    BitVec.extractLsb'_append_eq_of_add_le, Nat.reduceSub, BitVec.extractLsb'_eq_self,
    BitVec.reduceToNat, BitVec.reduceExtractLsb'] <;> rfl

theorem diag (im26 : BitVec 26) : Statement (.diag im26) := by
  intro _
  change decode (0x5#6 ++ im26 : BitVec 32) = _
  simp (disch := decide) only [decode, field, BitVec.extractLsb'_append_eq_of_le,
    BitVec.extractLsb'_append_eq_of_add_le, Nat.reduceSub, BitVec.extractLsb'_eq_self,
    BitVec.reduceToNat, BitVec.reduceExtractLsb'] <;> rfl

theorem fldwx (b : BitVec 5) (x : BitVec 5) (s : BitVec 2) (u : BitVec 1) (cc : BitVec 2) (t_h : BitVec 1) (m : BitVec 1) (t : BitVec 5) : Statement (.fldwx b x s u cc t_h m t) := by
  intro _
  change decode (0x9#6 ++ b ++ x ++ s ++ u ++ 0x0#1 ++ cc ++ 0x0#3 ++ t_h ++ m ++ t : BitVec 32) = _
  simp (disch := decide) only [decode, decodeCoprWord, field, BitVec.extractLsb'_append_eq_of_le,
    BitVec.extractLsb'_append_eq_of_add_le, Nat.reduceSub, BitVec.extractLsb'_eq_self,
    BitVec.reduceToNat, BitVec.reduceExtractLsb'] <;> rfl

theorem fstwx (b : BitVec 5) (x : BitVec 5) (s : BitVec 2) (u : BitVec 1) (cc : BitVec 2) (r_h : BitVec 1) (m : BitVec 1) (r : BitVec 5) : Statement (.fstwx b x s u cc r_h m r) := by
  intro _
  change decode (0x9#6 ++ b ++ x ++ s ++ u ++ 0x0#1 ++ cc ++ 0x4#3 ++ r_h ++ m ++ r : BitVec 32) = _
  simp (disch := decide) only [decode, decodeCoprWord, field, BitVec.extractLsb'_append_eq_of_le,
    BitVec.extractLsb'_append_eq_of_add_le, Nat.reduceSub, BitVec.extractLsb'_eq_self,
    BitVec.reduceToNat, BitVec.reduceExtractLsb'] <;> rfl

theorem flddx (b : BitVec 5) (x : BitVec 5) (s : BitVec 2) (u : BitVec 1) (cc : BitVec 2) (m : BitVec 1) (t : BitVec 5) : Statement (.flddx b x s u cc m t) := by
  intro _
  change decode (0xb#6 ++ b ++ x ++ s ++ u ++ 0x0#1 ++ cc ++ 0x0#4 ++ m ++ t : BitVec 32) = _
  simp (disch := decide) only [decode, decodeCoprDword, field, BitVec.extractLsb'_append_eq_of_le,
    BitVec.extractLsb'_append_eq_of_add_le, Nat.reduceSub, BitVec.extractLsb'_eq_self,
    BitVec.reduceToNat, BitVec.reduceExtractLsb'] <;> rfl

theorem fstdx (b : BitVec 5) (x : BitVec 5) (s : BitVec 2) (u : BitVec 1) (cc : BitVec 2) (m : BitVec 1) (r : BitVec 5) : Statement (.fstdx b x s u cc m r) := by
  intro _
  change decode (0xb#6 ++ b ++ x ++ s ++ u ++ 0x0#1 ++ cc ++ 0x8#4 ++ m ++ r : BitVec 32) = _
  simp (disch := decide) only [decode, decodeCoprDword, field, BitVec.extractLsb'_append_eq_of_le,
    BitVec.extractLsb'_append_eq_of_add_le, Nat.reduceSub, BitVec.extractLsb'_eq_self,
    BitVec.reduceToNat, BitVec.reduceExtractLsb'] <;> rfl

theorem fldws (b : BitVec 5) (im5 : BitVec 5) (s : BitVec 2) (a : BitVec 1) (cc : BitVec 2) (t_h : BitVec 1) (m : BitVec 1) (t : BitVec 5) : Statement (.fldws b im5 s a cc t_h m t) := by
  intro _
  change decode (0x9#6 ++ b ++ im5 ++ s ++ a ++ 0x1#1 ++ cc ++ 0x0#3 ++ t_h ++ m ++ t : BitVec 32) = _
  simp (disch := decide) only [decode, decodeCoprWord, field, BitVec.extractLsb'_append_eq_of_le,
    BitVec.extractLsb'_append_eq_of_add_le, Nat.reduceSub, BitVec.extractLsb'_eq_self,
    BitVec.reduceToNat, BitVec.reduceExtractLsb'] <;> rfl

theorem fstws (b : BitVec 5) (im5 : BitVec 5) (s : BitVec 2) (a : BitVec 1) (cc : BitVec 2) (r_h : BitVec 1) (m : BitVec 1) (r : BitVec 5) : Statement (.fstws b im5 s a cc r_h m r) := by
  intro _
  change decode (0x9#6 ++ b ++ im5 ++ s ++ a ++ 0x1#1 ++ cc ++ 0x4#3 ++ r_h ++ m ++ r : BitVec 32) = _
  simp (disch := decide) only [decode, decodeCoprWord, field, BitVec.extractLsb'_append_eq_of_le,
    BitVec.extractLsb'_append_eq_of_add_le, Nat.reduceSub, BitVec.extractLsb'_eq_self,
    BitVec.reduceToNat, BitVec.reduceExtractLsb'] <;> rfl

theorem fldds (b : BitVec 5) (im5 : BitVec 5) (s : BitVec 2) (a : BitVec 1) (cc : BitVec 2) (m : BitVec 1) (t : BitVec 5) : Statement (.fldds b im5 s a cc m t) := by
  intro _
  change decode (0xb#6 ++ b ++ im5 ++ s ++ a ++ 0x1#1 ++ cc ++ 0x0#4 ++ m ++ t : BitVec 32) = _
  simp (disch := decide) only [decode, decodeCoprDword, field, BitVec.extractLsb'_append_eq_of_le,
    BitVec.extractLsb'_append_eq_of_add_le, Nat.reduceSub, BitVec.extractLsb'_eq_self,
    BitVec.reduceToNat, BitVec.reduceExtractLsb'] <;> rfl

theorem fstds (b : BitVec 5) (im5 : BitVec 5) (s : BitVec 2) (a : BitVec 1) (cc : BitVec 2) (m : BitVec 1) (r : BitVec 5) : Statement (.fstds b im5 s a cc m r) := by
  intro _
  change decode (0xb#6 ++ b ++ im5 ++ s ++ a ++ 0x1#1 ++ cc ++ 0x8#4 ++ m ++ r : BitVec 32) = _
  simp (disch := decide) only [decode, decodeCoprDword, field, BitVec.extractLsb'_append_eq_of_le,
    BitVec.extractLsb'_append_eq_of_add_le, Nat.reduceSub, BitVec.extractLsb'_eq_self,
    BitVec.reduceToNat, BitVec.reduceExtractLsb'] <;> rfl

theorem copr00 : Statement (.copr00) := by
  intro _
  change decode (0xc#6 ++ 0x0#26 : BitVec 32) = _
  simp (disch := decide) only [decode, decodeCopr, decodeFloat0C, field, BitVec.extractLsb'_append_eq_of_le,
    BitVec.extractLsb'_append_eq_of_add_le, Nat.reduceSub, BitVec.extractLsb'_eq_self,
    BitVec.reduceToNat, BitVec.reduceExtractLsb'] <;> rfl

theorem fcpy (r : BitVec 5) (fmt : BitVec 2) (t : BitVec 5) : Statement (.fcpy r fmt t) := by
  intro _
  change decode (0xc#6 ++ r ++ 0x2#8 ++ fmt ++ 0x0#6 ++ t : BitVec 32) = _
  simp (disch := decide) only [decode, decodeCopr, decodeFloat0C, field, BitVec.extractLsb'_append_eq_of_le,
    BitVec.extractLsb'_append_eq_of_add_le, Nat.reduceSub, BitVec.extractLsb'_eq_self,
    BitVec.reduceToNat, BitVec.reduceExtractLsb'] <;> rfl

theorem fcpy0E (r : BitVec 5) (fmt : BitVec 2) (r_h : BitVec 1) (t_h : BitVec 1) (t : BitVec 5) : Statement (.fcpy0E r fmt r_h t_h t) := by
  intro _
  change decode (0xe#6 ++ r ++ 0x2#8 ++ fmt ++ 0x0#3 ++ r_h ++ t_h ++ 0x0#1 ++ t : BitVec 32) = _
  simp (disch := decide) only [decode, decodeFloat0E, field, BitVec.extractLsb'_append_eq_of_le,
    BitVec.extractLsb'_append_eq_of_add_le, Nat.reduceSub, BitVec.extractLsb'_eq_self,
    BitVec.reduceToNat, BitVec.reduceExtractLsb'] <;> rfl

theorem fabs (r : BitVec 5) (fmt : BitVec 2) (t : BitVec 5) : Statement (.fabs r fmt t) := by
  intro _
  change decode (0xc#6 ++ r ++ 0x3#8 ++ fmt ++ 0x0#6 ++ t : BitVec 32) = _
  simp (disch := decide) only [decode, decodeCopr, decodeFloat0C, field, BitVec.extractLsb'_append_eq_of_le,
    BitVec.extractLsb'_append_eq_of_add_le, Nat.reduceSub, BitVec.extractLsb'_eq_self,
    BitVec.reduceToNat, BitVec.reduceExtractLsb'] <;> rfl

theorem fabs0E (r : BitVec 5) (fmt : BitVec 2) (r_h : BitVec 1) (t_h : BitVec 1) (t : BitVec 5) : Statement (.fabs0E r fmt r_h t_h t) := by
  intro _
  change decode (0xe#6 ++ r ++ 0x3#8 ++ fmt ++ 0x0#3 ++ r_h ++ t_h ++ 0x0#1 ++ t : BitVec 32) = _
  simp (disch := decide) only [decode, decodeFloat0E, field, BitVec.extractLsb'_append_eq_of_le,
    BitVec.extractLsb'_append_eq_of_add_le, Nat.reduceSub, BitVec.extractLsb'_eq_self,
    BitVec.reduceToNat, BitVec.reduceExtractLsb'] <;> rfl

theorem fsqrt (r : BitVec 5) (fmt : BitVec 2) (t : BitVec 5) : Statement (.fsqrt r fmt t) := by
  intro _
  change decode (0xc#6 ++ r ++ 0x4#8 ++ fmt ++ 0x0#6 ++ t : BitVec 32) = _
  simp (disch := decide) only [decode, decodeCopr, decodeFloat0C, field, BitVec.extractLsb'_append_eq_of_le,
    BitVec.extractLsb'_append_eq_of_add_le, Nat.reduceSub, BitVec.extractLsb'_eq_self,
    BitVec.reduceToNat, BitVec.reduceExtractLsb'] <;> rfl

theorem fsqrt0E (r : BitVec 5) (fmt : BitVec 2) (r_h : BitVec 1) (t_h : BitVec 1) (t : BitVec 5) : Statement (.fsqrt0E r fmt r_h t_h t) := by
  intro _
  change decode (0xe#6 ++ r ++ 0x4#8 ++ fmt ++ 0x0#3 ++ r_h ++ t_h ++ 0x0#1 ++ t : BitVec 32) = _
  simp (disch := decide) only [decode, decodeFloat0E, field, BitVec.extractLsb'_append_eq_of_le,
    BitVec.extractLsb'_append_eq_of_add_le, Nat.reduceSub, BitVec.extractLsb'_eq_self,
    BitVec.reduceToNat, BitVec.reduceExtractLsb'] <;> rfl

theorem frnd (r : BitVec 5) (fmt : BitVec 2) (t : BitVec 5) : Statement (.frnd r fmt t) := by
  intro _
  change decode (0xc#6 ++ r ++ 0x5#8 ++ fmt ++ 0x0#6 ++ t : BitVec 32) = _
  simp (disch := decide) only [decode, decodeCopr, decodeFloat0C, field, BitVec.extractLsb'_append_eq_of_le,
    BitVec.extractLsb'_append_eq_of_add_le, Nat.reduceSub, BitVec.extractLsb'_eq_self,
    BitVec.reduceToNat, BitVec.reduceExtractLsb'] <;> rfl

theorem frnd0E (r : BitVec 5) (fmt : BitVec 2) (r_h : BitVec 1) (t_h : BitVec 1) (t : BitVec 5) : Statement (.frnd0E r fmt r_h t_h t) := by
  intro _
  change decode (0xe#6 ++ r ++ 0x5#8 ++ fmt ++ 0x0#3 ++ r_h ++ t_h ++ 0x0#1 ++ t : BitVec 32) = _
  simp (disch := decide) only [decode, decodeFloat0E, field, BitVec.extractLsb'_append_eq_of_le,
    BitVec.extractLsb'_append_eq_of_add_le, Nat.reduceSub, BitVec.extractLsb'_eq_self,
    BitVec.reduceToNat, BitVec.reduceExtractLsb'] <;> rfl

theorem fcnvff (r : BitVec 5) (df : BitVec 2) (sf : BitVec 2) (t : BitVec 5) : Statement (.fcnvff r df sf t) := by
  intro _
  change decode (0xc#6 ++ r ++ 0x0#6 ++ df ++ sf ++ 0x10#6 ++ t : BitVec 32) = _
  simp (disch := decide) only [decode, decodeCopr, decodeFloat0C, field, BitVec.extractLsb'_append_eq_of_le,
    BitVec.extractLsb'_append_eq_of_add_le, Nat.reduceSub, BitVec.extractLsb'_eq_self,
    BitVec.reduceToNat, BitVec.reduceExtractLsb'] <;> rfl

theorem fcnvff0E (r : BitVec 5) (df : BitVec 2) (sf : BitVec 2) (r_h : BitVec 1) (t_h : BitVec 1) (t : BitVec 5) : Statement (.fcnvff0E r df sf r_h t_h t) := by
  intro _
  change decode (0xe#6 ++ r ++ 0x0#6 ++ df ++ sf ++ 0x2#3 ++ r_h ++ t_h ++ 0x0#1 ++ t : BitVec 32) = _
  simp (disch := decide) only [decode, decodeFloat0E, field, BitVec.extractLsb'_append_eq_of_le,
    BitVec.extractLsb'_append_eq_of_add_le, Nat.reduceSub, BitVec.extractLsb'_eq_self,
    BitVec.reduceToNat, BitVec.reduceExtractLsb'] <;> rfl

theorem fcnvxf (r : BitVec 5) (df : BitVec 2) (sf : BitVec 2) (t : BitVec 5) : Statement (.fcnvxf r df sf t) := by
  intro _
  change decode (0xc#6 ++ r ++ 0x1#6 ++ df ++ sf ++ 0x10#6 ++ t : BitVec 32) = _
  simp (disch := decide) only [decode, decodeCopr, decodeFloat0C, field, BitVec.extractLsb'_append_eq_of_le,
    BitVec.extractLsb'_append_eq_of_add_le, Nat.reduceSub, BitVec.extractLsb'_eq_self,
    BitVec.reduceToNat, BitVec.reduceExtractLsb'] <;> rfl

theorem fcnvxf0E (r : BitVec 5) (df : BitVec 2) (sf : BitVec 2) (r_h : BitVec 1) (t_h : BitVec 1) (t : BitVec 5) : Statement (.fcnvxf0E r df sf r_h t_h t) := by
  intro _
  change decode (0xe#6 ++ r ++ 0x1#6 ++ df ++ sf ++ 0x2#3 ++ r_h ++ t_h ++ 0x0#1 ++ t : BitVec 32) = _
  simp (disch := decide) only [decode, decodeFloat0E, field, BitVec.extractLsb'_append_eq_of_le,
    BitVec.extractLsb'_append_eq_of_add_le, Nat.reduceSub, BitVec.extractLsb'_eq_self,
    BitVec.reduceToNat, BitVec.reduceExtractLsb'] <;> rfl

theorem fcnvfx (r : BitVec 5) (df : BitVec 2) (sf : BitVec 2) (t : BitVec 5) : Statement (.fcnvfx r df sf t) := by
  intro _
  change decode (0xc#6 ++ r ++ 0x2#6 ++ df ++ sf ++ 0x10#6 ++ t : BitVec 32) = _
  simp (disch := decide) only [decode, decodeCopr, decodeFloat0C, field, BitVec.extractLsb'_append_eq_of_le,
    BitVec.extractLsb'_append_eq_of_add_le, Nat.reduceSub, BitVec.extractLsb'_eq_self,
    BitVec.reduceToNat, BitVec.reduceExtractLsb'] <;> rfl

theorem fcnvfx0E (r : BitVec 5) (df : BitVec 2) (sf : BitVec 2) (r_h : BitVec 1) (t_h : BitVec 1) (t : BitVec 5) : Statement (.fcnvfx0E r df sf r_h t_h t) := by
  intro _
  change decode (0xe#6 ++ r ++ 0x2#6 ++ df ++ sf ++ 0x2#3 ++ r_h ++ t_h ++ 0x0#1 ++ t : BitVec 32) = _
  simp (disch := decide) only [decode, decodeFloat0E, field, BitVec.extractLsb'_append_eq_of_le,
    BitVec.extractLsb'_append_eq_of_add_le, Nat.reduceSub, BitVec.extractLsb'_eq_self,
    BitVec.reduceToNat, BitVec.reduceExtractLsb'] <;> rfl

theorem fcnvfxt (r : BitVec 5) (df : BitVec 2) (sf : BitVec 2) (t : BitVec 5) : Statement (.fcnvfxt r df sf t) := by
  intro _
  change decode (0xc#6 ++ r ++ 0x3#6 ++ df ++ sf ++ 0x10#6 ++ t : BitVec 32) = _
  simp (disch := decide) only [decode, decodeCopr, decodeFloat0C, field, BitVec.extractLsb'_append_eq_of_le,
    BitVec.extractLsb'_append_eq_of_add_le, Nat.reduceSub, BitVec.extractLsb'_eq_self,
    BitVec.reduceToNat, BitVec.reduceExtractLsb'] <;> rfl

theorem fcnvfxt0E (r : BitVec 5) (df : BitVec 2) (sf : BitVec 2) (r_h : BitVec 1) (t_h : BitVec 1) (t : BitVec 5) : Statement (.fcnvfxt0E r df sf r_h t_h t) := by
  intro _
  change decode (0xe#6 ++ r ++ 0x3#6 ++ df ++ sf ++ 0x2#3 ++ r_h ++ t_h ++ 0x0#1 ++ t : BitVec 32) = _
  simp (disch := decide) only [decode, decodeFloat0E, field, BitVec.extractLsb'_append_eq_of_le,
    BitVec.extractLsb'_append_eq_of_add_le, Nat.reduceSub, BitVec.extractLsb'_eq_self,
    BitVec.reduceToNat, BitVec.reduceExtractLsb'] <;> rfl

theorem fcmp (r1 : BitVec 5) (r2 : BitVec 5) (fmt : BitVec 2) (c : BitVec 5) : Statement (.fcmp r1 r2 fmt c) := by
  intro _
  change decode (0xc#6 ++ r1 ++ r2 ++ 0x0#3 ++ fmt ++ 0x20#6 ++ c : BitVec 32) = _
  simp (disch := decide) only [decode, decodeCopr, decodeFloat0C, field, BitVec.extractLsb'_append_eq_of_le,
    BitVec.extractLsb'_append_eq_of_add_le, Nat.reduceSub, BitVec.extractLsb'_eq_self,
    BitVec.reduceToNat, BitVec.reduceExtractLsb'] <;> rfl

theorem fcmp0E (r1 : BitVec 5) (r2 : BitVec 5) (r2_h : BitVec 1) (f : BitVec 1) (r1_h : BitVec 1) (c : BitVec 5) : Statement (.fcmp0E r1 r2 r2_h f r1_h c) := by
  intro _
  change decode (0xe#6 ++ r1 ++ r2 ++ 0x0#3 ++ r2_h ++ f ++ 0x4#3 ++ r1_h ++ 0x0#2 ++ c : BitVec 32) = _
  simp (disch := decide) only [decode, decodeFloat0E, field, BitVec.extractLsb'_append_eq_of_le,
    BitVec.extractLsb'_append_eq_of_add_le, Nat.reduceSub, BitVec.extractLsb'_eq_self,
    BitVec.reduceToNat, BitVec.reduceExtractLsb'] <;> rfl

theorem ftest (c : BitVec 5) : Statement (.ftest c) := by
  intro _
  change decode (0xc#6 ++ 0x121#21 ++ c : BitVec 32) = _
  simp (disch := decide) only [decode, decodeCopr, decodeFloat0C, field, BitVec.extractLsb'_append_eq_of_le,
    BitVec.extractLsb'_append_eq_of_add_le, Nat.reduceSub, BitVec.extractLsb'_eq_self,
    BitVec.reduceToNat, BitVec.reduceExtractLsb'] <;> rfl

theorem fadd (r1 : BitVec 5) (r2 : BitVec 5) (fmt : BitVec 2) (t : BitVec 5) : Statement (.fadd r1 r2 fmt t) := by
  intro _
  change decode (0xc#6 ++ r1 ++ r2 ++ 0x0#3 ++ fmt ++ 0x30#6 ++ t : BitVec 32) = _
  simp (disch := decide) only [decode, decodeCopr, decodeFloat0C, field, BitVec.extractLsb'_append_eq_of_le,
    BitVec.extractLsb'_append_eq_of_add_le, Nat.reduceSub, BitVec.extractLsb'_eq_self,
    BitVec.reduceToNat, BitVec.reduceExtractLsb'] <;> rfl

theorem fadd0E (r1 : BitVec 5) (r2 : BitVec 5) (r2_h : BitVec 1) (f : BitVec 1) (r1_h : BitVec 1) (t_h : BitVec 1) (t : BitVec 5) : Statement (.fadd0E r1 r2 r2_h f r1_h t_h t) := by
  intro _
  change decode (0xe#6 ++ r1 ++ r2 ++ 0x0#3 ++ r2_h ++ f ++ 0x6#3 ++ r1_h ++ t_h ++ 0x0#1 ++ t : BitVec 32) = _
  simp (disch := decide) only [decode, decodeFloat0E, field, BitVec.extractLsb'_append_eq_of_le,
    BitVec.extractLsb'_append_eq_of_add_le, Nat.reduceSub, BitVec.extractLsb'_eq_self,
    BitVec.reduceToNat, BitVec.reduceExtractLsb'] <;> rfl

theorem fsub (r1 : BitVec 5) (r2 : BitVec 5) (fmt : BitVec 2) (t : BitVec 5) : Statement (.fsub r1 r2 fmt t) := by
  intro _
  change decode (0xc#6 ++ r1 ++ r2 ++ 0x1#3 ++ fmt ++ 0x30#6 ++ t : BitVec 32) = _
  simp (disch := decide) only [decode, decodeCopr, decodeFloat0C, field, BitVec.extractLsb'_append_eq_of_le,
    BitVec.extractLsb'_append_eq_of_add_le, Nat.reduceSub, BitVec.extractLsb'_eq_self,
    BitVec.reduceToNat, BitVec.reduceExtractLsb'] <;> rfl

theorem fsub0E (r1 : BitVec 5) (r2 : BitVec 5) (r2_h : BitVec 1) (f : BitVec 1) (r1_h : BitVec 1) (t_h : BitVec 1) (t : BitVec 5) : Statement (.fsub0E r1 r2 r2_h f r1_h t_h t) := by
  intro _
  change decode (0xe#6 ++ r1 ++ r2 ++ 0x1#3 ++ r2_h ++ f ++ 0x6#3 ++ r1_h ++ t_h ++ 0x0#1 ++ t : BitVec 32) = _
  simp (disch := decide) only [decode, decodeFloat0E, field, BitVec.extractLsb'_append_eq_of_le,
    BitVec.extractLsb'_append_eq_of_add_le, Nat.reduceSub, BitVec.extractLsb'_eq_self,
    BitVec.reduceToNat, BitVec.reduceExtractLsb'] <;> rfl

theorem fmpy (r1 : BitVec 5) (r2 : BitVec 5) (fmt : BitVec 2) (t : BitVec 5) : Statement (.fmpy r1 r2 fmt t) := by
  intro _
  change decode (0xc#6 ++ r1 ++ r2 ++ 0x2#3 ++ fmt ++ 0x30#6 ++ t : BitVec 32) = _
  simp (disch := decide) only [decode, decodeCopr, decodeFloat0C, field, BitVec.extractLsb'_append_eq_of_le,
    BitVec.extractLsb'_append_eq_of_add_le, Nat.reduceSub, BitVec.extractLsb'_eq_self,
    BitVec.reduceToNat, BitVec.reduceExtractLsb'] <;> rfl

theorem fmpy0E (r1 : BitVec 5) (r2 : BitVec 5) (r2_h : BitVec 1) (f : BitVec 1) (r1_h : BitVec 1) (t_h : BitVec 1) (t : BitVec 5) : Statement (.fmpy0E r1 r2 r2_h f r1_h t_h t) := by
  intro _
  change decode (0xe#6 ++ r1 ++ r2 ++ 0x2#3 ++ r2_h ++ f ++ 0x6#3 ++ r1_h ++ t_h ++ 0x0#1 ++ t : BitVec 32) = _
  simp (disch := decide) only [decode, decodeFloat0E, field, BitVec.extractLsb'_append_eq_of_le,
    BitVec.extractLsb'_append_eq_of_add_le, Nat.reduceSub, BitVec.extractLsb'_eq_self,
    BitVec.reduceToNat, BitVec.reduceExtractLsb']
  simp

theorem fdiv (r1 : BitVec 5) (r2 : BitVec 5) (fmt : BitVec 2) (t : BitVec 5) : Statement (.fdiv r1 r2 fmt t) := by
  intro _
  change decode (0xc#6 ++ r1 ++ r2 ++ 0x3#3 ++ fmt ++ 0x30#6 ++ t : BitVec 32) = _
  simp (disch := decide) only [decode, decodeCopr, decodeFloat0C, field, BitVec.extractLsb'_append_eq_of_le,
    BitVec.extractLsb'_append_eq_of_add_le, Nat.reduceSub, BitVec.extractLsb'_eq_self,
    BitVec.reduceToNat, BitVec.reduceExtractLsb'] <;> rfl

theorem fdiv0E (r1 : BitVec 5) (r2 : BitVec 5) (r2_h : BitVec 1) (f : BitVec 1) (r1_h : BitVec 1) (t_h : BitVec 1) (t : BitVec 5) : Statement (.fdiv0E r1 r2 r2_h f r1_h t_h t) := by
  intro _
  change decode (0xe#6 ++ r1 ++ r2 ++ 0x3#3 ++ r2_h ++ f ++ 0x6#3 ++ r1_h ++ t_h ++ 0x0#1 ++ t : BitVec 32) = _
  simp (disch := decide) only [decode, decodeFloat0E, field, BitVec.extractLsb'_append_eq_of_le,
    BitVec.extractLsb'_append_eq_of_add_le, Nat.reduceSub, BitVec.extractLsb'_eq_self,
    BitVec.reduceToNat, BitVec.reduceExtractLsb'] <;> rfl

theorem xmpyu (r1 : BitVec 5) (r2 : BitVec 5) (r2_h : BitVec 1) (r1_h : BitVec 1) (t : BitVec 5) : Statement (.xmpyu r1 r2 r2_h r1_h t) := by
  intro _
  change decode (0xe#6 ++ r1 ++ r2 ++ 0x2#3 ++ r2_h ++ 0x7#4 ++ r1_h ++ 0x0#2 ++ t : BitVec 32) = _
  simp (disch := decide) only [decode, decodeFloat0E, field, BitVec.extractLsb'_append_eq_of_le,
    BitVec.extractLsb'_append_eq_of_add_le, Nat.reduceSub, BitVec.extractLsb'_eq_self,
    BitVec.reduceToNat, BitVec.reduceExtractLsb'] <;> rfl

theorem fmpyadd (rm1 : BitVec 5) (rm2 : BitVec 5) (ta : BitVec 5) (ra : BitVec 5) (f : BitVec 1) (tm : BitVec 5) : Statement (.fmpyadd rm1 rm2 ta ra f tm) := by
  intro _
  change decode (0x6#6 ++ rm1 ++ rm2 ++ ta ++ ra ++ f ++ tm : BitVec 32) = _
  simp (disch := decide) only [decode, field, BitVec.extractLsb'_append_eq_of_le,
    BitVec.extractLsb'_append_eq_of_add_le, Nat.reduceSub, BitVec.extractLsb'_eq_self,
    BitVec.reduceToNat, BitVec.reduceExtractLsb'] <;> rfl

theorem fmpysub (rm1 : BitVec 5) (rm2 : BitVec 5) (ta : BitVec 5) (ra : BitVec 5) (f : BitVec 1) (tm : BitVec 5) : Statement (.fmpysub rm1 rm2 ta ra f tm) := by
  intro _
  change decode (0x26#6 ++ rm1 ++ rm2 ++ ta ++ ra ++ f ++ tm : BitVec 32) = _
  simp (disch := decide) only [decode, field, BitVec.extractLsb'_append_eq_of_le,
    BitVec.extractLsb'_append_eq_of_add_le, Nat.reduceSub, BitVec.extractLsb'_eq_self,
    BitVec.reduceToNat, BitVec.reduceExtractLsb'] <;> rfl

theorem pmdis : Statement (.pmdis) := by
  intro _
  change decode (0xc#6 ++ 0#12 ++ 0x14#9 ++ 0#5 : BitVec 32) = _
  simp (disch := decide) only [decode, decodeCopr, field, BitVec.extractLsb'_append_eq_of_le,
    BitVec.extractLsb'_append_eq_of_add_le, Nat.reduceSub, BitVec.extractLsb'_eq_self,
    BitVec.reduceToNat, BitVec.reduceExtractLsb'] <;> rfl

theorem pmenb : Statement (.pmenb) := by
  intro _
  change decode (0xc#6 ++ 0#12 ++ 0x34#9 ++ 0#5 : BitVec 32) = _
  simp (disch := decide) only [decode, decodeCopr, field, BitVec.extractLsb'_append_eq_of_le,
    BitVec.extractLsb'_append_eq_of_add_le, Nat.reduceSub, BitVec.extractLsb'_eq_self,
    BitVec.reduceToNat, BitVec.reduceExtractLsb'] <;> rfl

theorem debugid (t : BitVec 5) : Statement (.debugid t) := by
  intro _
  change decode (0x4#6 ++ 0x12#21 ++ t : BitVec 32) = _
  simp (disch := decide) only [decode, decodeSpop, field, BitVec.extractLsb'_append_eq_of_le,
    BitVec.extractLsb'_append_eq_of_add_le, Nat.reduceSub, BitVec.extractLsb'_eq_self,
    BitVec.reduceToNat, BitVec.reduceExtractLsb'] <;> rfl

theorem mfdbao (r : BitVec 5) (t : BitVec 5) : Statement (.mfdbao r t) := by
  intro _
  change decode (0x4#6 ++ r ++ 0#7 ++ 0x112#9 ++ t : BitVec 32) = _
  simp (disch := decide) only [decode, decodeSpop, field, BitVec.extractLsb'_append_eq_of_le,
    BitVec.extractLsb'_append_eq_of_add_le, Nat.reduceSub, BitVec.extractLsb'_eq_self,
    BitVec.reduceToNat, BitVec.reduceExtractLsb'] <;> rfl

theorem mfdbam (r : BitVec 5) (t : BitVec 5) : Statement (.mfdbam r t) := by
  intro _
  change decode (0x4#6 ++ r ++ 0#7 ++ 0x152#9 ++ t : BitVec 32) = _
  simp (disch := decide) only [decode, decodeSpop, field, BitVec.extractLsb'_append_eq_of_le,
    BitVec.extractLsb'_append_eq_of_add_le, Nat.reduceSub, BitVec.extractLsb'_eq_self,
    BitVec.reduceToNat, BitVec.reduceExtractLsb'] <;> rfl

theorem mfibao (r : BitVec 5) (t : BitVec 5) : Statement (.mfibao r t) := by
  intro _
  change decode (0x4#6 ++ r ++ 0#7 ++ 0x192#9 ++ t : BitVec 32) = _
  simp (disch := decide) only [decode, decodeSpop, field, BitVec.extractLsb'_append_eq_of_le,
    BitVec.extractLsb'_append_eq_of_add_le, Nat.reduceSub, BitVec.extractLsb'_eq_self,
    BitVec.reduceToNat, BitVec.reduceExtractLsb'] <;> rfl

theorem mfibam (r : BitVec 5) (t : BitVec 5) : Statement (.mfibam r t) := by
  intro _
  change decode (0x4#6 ++ r ++ 0#7 ++ 0x1d2#9 ++ t : BitVec 32) = _
  simp (disch := decide) only [decode, decodeSpop, field, BitVec.extractLsb'_append_eq_of_le,
    BitVec.extractLsb'_append_eq_of_add_le, Nat.reduceSub, BitVec.extractLsb'_eq_self,
    BitVec.reduceToNat, BitVec.reduceExtractLsb'] <;> rfl

theorem mtdbao (r : BitVec 5) (t : BitVec 5) : Statement (.mtdbao r t) := by
  intro _
  change decode (0x4#6 ++ r ++ 0#7 ++ 0x122#9 ++ t : BitVec 32) = _
  simp (disch := decide) only [decode, decodeSpop, field, BitVec.extractLsb'_append_eq_of_le,
    BitVec.extractLsb'_append_eq_of_add_le, Nat.reduceSub, BitVec.extractLsb'_eq_self,
    BitVec.reduceToNat, BitVec.reduceExtractLsb'] <;> rfl

theorem mtdbam (r : BitVec 5) (t : BitVec 5) : Statement (.mtdbam r t) := by
  intro _
  change decode (0x4#6 ++ r ++ 0#7 ++ 0x162#9 ++ t : BitVec 32) = _
  simp (disch := decide) only [decode, decodeSpop, field, BitVec.extractLsb'_append_eq_of_le,
    BitVec.extractLsb'_append_eq_of_add_le, Nat.reduceSub, BitVec.extractLsb'_eq_self,
    BitVec.reduceToNat, BitVec.reduceExtractLsb'] <;> rfl

theorem mtibao (r : BitVec 5) (t : BitVec 5) : Statement (.mtibao r t) := by
  intro _
  change decode (0x4#6 ++ r ++ 0#7 ++ 0x1a2#9 ++ t : BitVec 32) = _
  simp (disch := decide) only [decode, decodeSpop, field, BitVec.extractLsb'_append_eq_of_le,
    BitVec.extractLsb'_append_eq_of_add_le, Nat.reduceSub, BitVec.extractLsb'_eq_self,
    BitVec.reduceToNat, BitVec.reduceExtractLsb'] <;> rfl

theorem mtibam (r : BitVec 5) (t : BitVec 5) : Statement (.mtibam r t) := by
  intro _
  change decode (0x4#6 ++ r ++ 0#7 ++ 0x1e2#9 ++ t : BitVec 32) = _
  simp (disch := decide) only [decode, decodeSpop, field, BitVec.extractLsb'_append_eq_of_le,
    BitVec.extractLsb'_append_eq_of_add_le, Nat.reduceSub, BitVec.extractLsb'_eq_self,
    BitVec.reduceToNat, BitVec.reduceExtractLsb'] <;> rfl

/-- The number that a field is. -/
theorem part {k : Nat} {x : BitVec k} {s n : Nat} {v : BitVec n} (h : x.extractLsb' s n = v) :
    x.toNat / 2 ^ s % 2 ^ n = v.toNat := by
  rw [← h, BitVec.extractLsb'_toNat, Nat.shiftRight_eq_div_pow]

/-- A field known by its number. -/
theorem of_toNat {n k : Nat} {x : BitVec n} (h : x.toNat = k) : x = BitVec.ofNat n k := by
  subst h
  simp

/-- Bit 2 tells whether the low three bits are less than four. -/
theorem low3_lt {k : Nat} {x : BitVec k} (h : x.extractLsb' 2 1 ≠ 1#1) :
    (x.extractLsb' 0 3).toNat < 4 := by
  have e : (x.extractLsb' 2 1).toNat ≠ 1 := fun e => h (BitVec.toNat_inj.mp e)
  simp only [BitVec.extractLsb'_toNat, Nat.shiftRight_eq_div_pow] at *
  omega

/-- A first operation code whose four parts are zero is zero. -/
theorem parts17 {x : BitVec 17} (h1 : x.extractLsb' 0 2 = 0#2) (h2 : x.extractLsb' 2 2 = 0#2)
    (h3 : x.extractLsb' 4 3 = 0#3) (h4 : x.extractLsb' 7 10 = 0#10) : x = 0#17 := by
  have := part h1
  have := part h2
  have := part h3
  have := part h4
  exact BitVec.toNat_inj.mp (by simp at *; omega)

theorem spop0 (sop1 : BitVec 15) (sfu : BitVec 3) (n : BitVec 1) (sop2 : BitVec 5) : Statement (.spop0 sop1 sfu n sop2) := by
  intro _
  change decode (0x4#6 ++ sop1 ++ 0x0#2 ++ sfu ++ n ++ sop2 : BitVec 32) = _
  simp (disch := decide) only [decode, decodeSpop, field, BitVec.extractLsb'_append_eq_of_le,
    BitVec.extractLsb'_append_eq_of_add_le, Nat.reduceSub, BitVec.extractLsb'_eq_self,
    BitVec.reduceToNat, BitVec.reduceExtractLsb'] <;> rfl

theorem spop1 (sop : BitVec 15) (sfu : BitVec 3) (n : BitVec 1) (t : BitVec 5) : Statement (.spop1 sop sfu n t) := by
  intro h
  change decode (0x4#6 ++ sop ++ 0x1#2 ++ sfu ++ n ++ t : BitVec 32) = _
  simp (disch := decide) only [decode, decodeSpop, field, BitVec.extractLsb'_append_eq_of_le,
    BitVec.extractLsb'_append_eq_of_add_le, Nat.reduceSub, BitVec.extractLsb'_eq_self,
    BitVec.reduceToNat, BitVec.reduceExtractLsb']
  split
  · rename_i hd
    simp [Instr.wf, takenByDebug1, hd] at h
    have lt := low3_lt h.2
    split
    · rename_i h0
      rw [if_neg]
      intro h1
      have h2 := part h1
      have h3 := part (BitVec.toNat_inj.mp (h0.trans (rfl : _ = (0#3).toNat)))
      exact h.1 (BitVec.toNat_inj.mp (by simp at *; omega))
    all_goals first | rfl | (exfalso; omega)
  · rfl

theorem spop2 (r : BitVec 5) (sop1 : BitVec 10) (sfu : BitVec 3) (n : BitVec 1) (sop2 : BitVec 5) : Statement (.spop2 r sop1 sfu n sop2) := by
  intro h
  change decode (0x4#6 ++ r ++ sop1 ++ 0x2#2 ++ sfu ++ n ++ sop2 : BitVec 32) = _
  simp (disch := decide) only [decode, decodeSpop, field, BitVec.extractLsb'_append_eq_of_le,
    BitVec.extractLsb'_append_eq_of_add_le, Nat.reduceSub, BitVec.extractLsb'_eq_self,
    BitVec.reduceToNat, BitVec.reduceExtractLsb']
  split
  · rename_i hd
    simp [Instr.wf, takenByDebug2, hd] at h
    have lt := low3_lt h
    split <;> first | rfl | (exfalso; omega)
  · rfl

theorem spop3 (r2 r1 : BitVec 5) (sop1 : BitVec 5) (sfu : BitVec 3) (n : BitVec 1) (sop2 : BitVec 5) : Statement (.spop3 r2 r1 sop1 sfu n sop2) := by
  intro _
  change decode (0x4#6 ++ r2 ++ r1 ++ sop1 ++ 0x3#2 ++ sfu ++ n ++ sop2 : BitVec 32) = _
  simp (disch := decide) only [decode, decodeSpop, field, BitVec.extractLsb'_append_eq_of_le,
    BitVec.extractLsb'_append_eq_of_add_le, Nat.reduceSub, BitVec.extractLsb'_eq_self,
    BitVec.reduceToNat, BitVec.reduceExtractLsb'] <;> rfl

theorem copr (sop1 : BitVec 17) (uid : BitVec 3) (n : BitVec 1) (sop2 : BitVec 5) : Statement (.copr sop1 uid n sop2) := by
  intro h
  change decode (0xc#6 ++ sop1 ++ uid ++ n ++ sop2 : BitVec 32) = _
  simp (disch := decide) only [decode, decodeCopr, field, BitVec.extractLsb'_append_eq_of_le,
    BitVec.extractLsb'_append_eq_of_add_le, Nat.reduceSub, BitVec.extractLsb'_eq_self,
    BitVec.reduceToNat, BitVec.reduceExtractLsb']
  split
  · rename_i hu
    have hu : uid = 0#3 := BitVec.toNat_inj.mp hu
    suffices e : decodeFloat0C (12#6 ++ sop1 ++ uid ++ n ++ sop2) = none by rw [e]
    simp (disch := decide) only [decodeFloat0C, field, BitVec.extractLsb'_append_eq_of_le,
      BitVec.extractLsb'_append_eq_of_add_le, Nat.reduceSub, BitVec.extractLsb'_eq_self,
      BitVec.reduceToNat, BitVec.reduceExtractLsb']
    subst hu
    simp only [Instr.wf, takenByFloat] at h
    split <;> rename_i hc
    all_goals try rfl
    all_goals simp only [hc] at h
    all_goals split <;> rename_i hs <;> try rfl
    all_goals rw [if_neg]
    case h_1.hnc =>
      rintro ⟨p, q, r, t⟩
      have hs : sop1.extractLsb' 4 3 = 0#3 := BitVec.toNat_inj.mp hs
      have hc : sop1.extractLsb' 0 2 = 0#2 := BitVec.toNat_inj.mp hc
      simp [parts17 hc q hs p, r, t] at h
    all_goals
      have e := of_toNat hs
      intro p
      simp_all
  · rename_i hu
    have hu : uid = 2#3 := BitVec.toNat_inj.mp hu
    simp [Instr.wf, takenByPerfmon, hu] at h
    rw [if_neg (by tauto), if_neg (by tauto)]
  · rfl

theorem cldwx (b : BitVec 5) (x : BitVec 5) (s : BitVec 2) (u : BitVec 1) (cc : BitVec 2) (uid : BitVec 3) (m : BitVec 1) (t : BitVec 5) : Statement (.cldwx b x s u cc uid m t) := by
  intro h
  change decode (0x9#6 ++ b ++ x ++ s ++ u ++ 0x0#1 ++ cc ++ 0x0#1 ++ uid ++ m ++ t : BitVec 32) = _
  have hu : uid.extractLsb' 1 2 ≠ 0#2 := by
    simp only [Instr.wf] at h
    revert uid
    decide
  simp (disch := decide) only [decode, decodeCoprWord, field, BitVec.extractLsb'_append_eq_of_le,
    BitVec.extractLsb'_append_eq_of_add_le, Nat.reduceSub, BitVec.extractLsb'_eq_self,
    BitVec.reduceToNat, BitVec.reduceExtractLsb']
  simp [hu]

theorem cstwx (b : BitVec 5) (x : BitVec 5) (s : BitVec 2) (u : BitVec 1) (cc : BitVec 2) (uid : BitVec 3) (m : BitVec 1) (r : BitVec 5) : Statement (.cstwx b x s u cc uid m r) := by
  intro h
  change decode (0x9#6 ++ b ++ x ++ s ++ u ++ 0x0#1 ++ cc ++ 0x1#1 ++ uid ++ m ++ r : BitVec 32) = _
  have hu : uid.extractLsb' 1 2 ≠ 0#2 := by
    simp only [Instr.wf] at h
    revert uid
    decide
  simp (disch := decide) only [decode, decodeCoprWord, field, BitVec.extractLsb'_append_eq_of_le,
    BitVec.extractLsb'_append_eq_of_add_le, Nat.reduceSub, BitVec.extractLsb'_eq_self,
    BitVec.reduceToNat, BitVec.reduceExtractLsb']
  simp [hu]

theorem cldws (b : BitVec 5) (im5 : BitVec 5) (s : BitVec 2) (a : BitVec 1) (cc : BitVec 2) (uid : BitVec 3) (m : BitVec 1) (t : BitVec 5) : Statement (.cldws b im5 s a cc uid m t) := by
  intro h
  change decode (0x9#6 ++ b ++ im5 ++ s ++ a ++ 0x1#1 ++ cc ++ 0x0#1 ++ uid ++ m ++ t : BitVec 32) = _
  have hu : uid.extractLsb' 1 2 ≠ 0#2 := by
    simp only [Instr.wf] at h
    revert uid
    decide
  simp (disch := decide) only [decode, decodeCoprWord, field, BitVec.extractLsb'_append_eq_of_le,
    BitVec.extractLsb'_append_eq_of_add_le, Nat.reduceSub, BitVec.extractLsb'_eq_self,
    BitVec.reduceToNat, BitVec.reduceExtractLsb']
  simp [hu]

theorem cstws (b : BitVec 5) (im5 : BitVec 5) (s : BitVec 2) (a : BitVec 1) (cc : BitVec 2) (uid : BitVec 3) (m : BitVec 1) (r : BitVec 5) : Statement (.cstws b im5 s a cc uid m r) := by
  intro h
  change decode (0x9#6 ++ b ++ im5 ++ s ++ a ++ 0x1#1 ++ cc ++ 0x1#1 ++ uid ++ m ++ r : BitVec 32) = _
  have hu : uid.extractLsb' 1 2 ≠ 0#2 := by
    simp only [Instr.wf] at h
    revert uid
    decide
  simp (disch := decide) only [decode, decodeCoprWord, field, BitVec.extractLsb'_append_eq_of_le,
    BitVec.extractLsb'_append_eq_of_add_le, Nat.reduceSub, BitVec.extractLsb'_eq_self,
    BitVec.reduceToNat, BitVec.reduceExtractLsb']
  simp [hu]

theorem clddx (b : BitVec 5) (x : BitVec 5) (s : BitVec 2) (u : BitVec 1) (cc : BitVec 2) (uid : BitVec 3) (m : BitVec 1) (t : BitVec 5) : Statement (.clddx b x s u cc uid m t) := by
  intro h
  change decode (0xb#6 ++ b ++ x ++ s ++ u ++ 0x0#1 ++ cc ++ 0x0#1 ++ uid ++ m ++ t : BitVec 32) = _
  have hu : uid ≠ 0#3 := by
    simp only [Instr.wf] at h
    revert uid
    decide
  simp (disch := decide) only [decode, decodeCoprDword, field, BitVec.extractLsb'_append_eq_of_le,
    BitVec.extractLsb'_append_eq_of_add_le, Nat.reduceSub, BitVec.extractLsb'_eq_self,
    BitVec.reduceToNat, BitVec.reduceExtractLsb']
  simp [hu]

theorem cstdx (b : BitVec 5) (x : BitVec 5) (s : BitVec 2) (u : BitVec 1) (cc : BitVec 2) (uid : BitVec 3) (m : BitVec 1) (r : BitVec 5) : Statement (.cstdx b x s u cc uid m r) := by
  intro h
  change decode (0xb#6 ++ b ++ x ++ s ++ u ++ 0x0#1 ++ cc ++ 0x1#1 ++ uid ++ m ++ r : BitVec 32) = _
  have hu : uid ≠ 0#3 := by
    simp only [Instr.wf] at h
    revert uid
    decide
  simp (disch := decide) only [decode, decodeCoprDword, field, BitVec.extractLsb'_append_eq_of_le,
    BitVec.extractLsb'_append_eq_of_add_le, Nat.reduceSub, BitVec.extractLsb'_eq_self,
    BitVec.reduceToNat, BitVec.reduceExtractLsb']
  simp [hu]

theorem cldds (b : BitVec 5) (im5 : BitVec 5) (s : BitVec 2) (a : BitVec 1) (cc : BitVec 2) (uid : BitVec 3) (m : BitVec 1) (t : BitVec 5) : Statement (.cldds b im5 s a cc uid m t) := by
  intro h
  change decode (0xb#6 ++ b ++ im5 ++ s ++ a ++ 0x1#1 ++ cc ++ 0x0#1 ++ uid ++ m ++ t : BitVec 32) = _
  have hu : uid ≠ 0#3 := by
    simp only [Instr.wf] at h
    revert uid
    decide
  simp (disch := decide) only [decode, decodeCoprDword, field, BitVec.extractLsb'_append_eq_of_le,
    BitVec.extractLsb'_append_eq_of_add_le, Nat.reduceSub, BitVec.extractLsb'_eq_self,
    BitVec.reduceToNat, BitVec.reduceExtractLsb']
  simp [hu]

theorem cstds (b : BitVec 5) (im5 : BitVec 5) (s : BitVec 2) (a : BitVec 1) (cc : BitVec 2) (uid : BitVec 3) (m : BitVec 1) (r : BitVec 5) : Statement (.cstds b im5 s a cc uid m r) := by
  intro h
  change decode (0xb#6 ++ b ++ im5 ++ s ++ a ++ 0x1#1 ++ cc ++ 0x1#1 ++ uid ++ m ++ r : BitVec 32) = _
  have hu : uid ≠ 0#3 := by
    simp only [Instr.wf] at h
    revert uid
    decide
  simp (disch := decide) only [decode, decodeCoprDword, field, BitVec.extractLsb'_append_eq_of_le,
    BitVec.extractLsb'_append_eq_of_add_le, Nat.reduceSub, BitVec.extractLsb'_eq_self,
    BitVec.reduceToNat, BitVec.reduceExtractLsb']
  simp [hu]

end Roundtrip

end Sys2Proof.Laws
end

