-- ==== Sys2Proof/Safety.lean ====
section
/-!
DEFINITION. The invariant that every step keeps, and the words in which the statements speak of an
instruction that completes or traps: what it writes and what it leaves alone.
-/

namespace Sys2Proof.Machine

/-- The invariant of the machine. Memory is canonical; the PSW and the saved PSW have zeros in their
reserved bits (spec/10_state.md R40, R49); IVA has zeros in its reserved bits (R91); the units that are
absent have their CCR and SCR bits 0 (spec/93_implementation_defined.md U23); the protection identifiers
hold implemented bits only (R87); the parameters are in the spec's ranges. -/
structure State.Inv (s : State) : Prop where
  config : s.cfg.valid = true
  memory : s.mem.wf = true
  psw : s.psw &&& pswReserved s.cfg = 0#32
  ipsw : s.ipsw &&& pswReserved s.cfg = 0#32
  iva : s.iva &&& 0x7FF#32 = 0#32
  ccr : s.ccr &&& ~~~(ccrPresent s.cfg) = 0#8
  scr : s.scr &&& ~~~(scrPresent s.cfg) = 0#8
  pid1 : s.pid1 &&& ~~~(pidMask s.cfg) = 0#32
  pid2 : s.pid2 &&& ~~~(pidMask s.cfg) = 0#32
  pid3 : s.pid3 &&& ~~~(pidMask s.cfg) = 0#32
  pid4 : s.pid4 &&& ~~~(pidMask s.cfg) = 0#32

/-! ### What the statements say of an outcome -/

/-- No trap of group 4 is armed: PSW H, L and T are 0 (spec/60_exceptions.md R915 step 4). -/
def State.calm (s : State) : Prop := s.pswH = false ∧ s.pswL = false ∧ s.pswT = false

/-- The general registers of `w`: those of the list hold the value that stands first for them, GR 0 reads
as zero, every other one is as in `s`. -/
def GrsAre (s w : State) (l : List (Reg × Word)) : Prop :=
  ∀ r, w.gr r = if r = 0#5 then 0#32 else (l.lookup r).getD (s.gr r)

/-- `new` is `old` with PSW X, Y and Z 0 and the N, B, V and C/B bits given, every other bit unchanged
(R79, R50). -/
def PswAfter (old new : Word) (nullify taken : Bool) (cb : BitVec 8) (v : Bool) : Prop :=
  ∀ i, i < 32 → mbit new i =
    if i = 0 ∨ i = 1 ∨ i = 11 then false
    else if i = 10 then nullify
    else if i = 12 then taken
    else if i = 14 then v
    else if 16 ≤ i ∧ i ≤ 23 then cb.getLsbD (23 - i)
    else mbit old i

/-- `w` is `base` but for the general registers, the PSW, the instruction address queues, the Recovery
Counter and the model's counter of free values. -/
def SameBut (base w : State) : Prop :=
  w = { base with
    grs := w.grs, psw := w.psw, iaoqFront := w.iaoqFront, iaoqBack := w.iaoqBack
    iasqFront := w.iasqFront, iasqBack := w.iasqBack, rctr := w.rctr, draws := w.draws }

/-- An instruction executed in `s` completes in `w`, after which the traps of group 4 are looked at.
`base` is `s` with the fields that only this instruction writes; `regs` are the general registers it
writes; `nullify`, `cb` and `v` are PSW N, C/B and V afterwards; `target` is where a taken branch goes. -/
structure Completes (o : Out) (s base w : State) (regs : List (Reg × Word)) (nullify : Bool)
    (target : Option Target) (cb : BitVec 8) (v : Bool) : Prop where
  outcome : o = .next (group4 s w true target.isSome)
  calm : s.calm → o = .next w
  grs : GrsAre s w regs
  psw : PswAfter base.psw w.psw nullify target.isSome cb v
  iaoqFront : w.iaoqFront = s.iaoqBack
  iaoqBack : w.iaoqBack = (target.map Target.offset).getD (s.iaoqBack + 4#32)
  iasqFront : w.iasqFront = s.iasqBack
  iasqBack : w.iasqBack = (target.bind Target.space).getD s.iasqBack
  rctr : w.rctr = if s.pswR then base.rctr - 1#32 else base.rctr
  rest : SameBut base w

/-- The instruction completes, writing the general registers `regs` and what `base` says; it neither
nullifies nor branches, and leaves the flags alone. -/
def Writes (o : Out) (s base : State) (regs : List (Reg × Word)) : Prop :=
  ∃ w, Completes o s base w regs false none s.pswCB s.pswV

/-- The instruction completes with a sum: its result in GR `t`, its carries in C/B; the successor is
nullified when `nullify`. -/
def SumIn (o : Out) (s : State) (t : Reg) (x : Sum) (nullify : Bool) : Prop :=
  ∃ w, Completes o s s w [(t, x.res)] nullify none x.cb s.pswV

/-- The instruction completes with a result in GR `t` and the flags unchanged; the successor is nullified
when `nullify`. -/
def WordIn (o : Out) (s : State) (t : Reg) (res : Word) (nullify : Bool) : Prop :=
  ∃ w, Completes o s s w [(t, res)] nullify none s.pswCB s.pswV

/-- The instruction takes an interruption whose only parameter is the instruction, with everything else
as before it (R920). -/
def Traps (o : Out) (s : State) (n : Nat) : Prop := o = .next (take n (.instr s.iword) s)

/-- The instruction takes an interruption that reports an address. -/
def TrapsAt (o : Out) (s : State) (n : Nat) (space offset : Word) : Prop :=
  o = .next (take n (.address s.iword space offset) s)

/-- A data reference is interrupted: IIR is the instruction, IOR is `report`, ISR is the space of a
reference that is translated and a free value for another one (R933, R934). Everything else is as before
the instruction, but for an entry that the hardware TLB miss handler inserted for the reference (R183,
R920), and the translation that may be relied upon (R201). -/
def TrapsRef (o : Out) (s : State) (n : Nat) (ref : DataRef) (space offset report : Word) : Prop :=
  o = .next (take n (s.referenceParams ref space report) (s.referenceWalked n ref space offset))

/-- In `w` the bytes from address `a` on are `bytes`, and every other byte reads as in `s`. -/
def StoresAt (s w : State) (a : Nat) (bytes : List Byte) : Prop :=
  (∀ i (h : i < bytes.length), w.mem.byteAt (a + i) = bytes[i]) ∧
    ∀ k, k < a ∨ a + bytes.length ≤ k → w.mem.byteAt k = s.mem.byteAt k

/-- The instruction completes as a load: the value in GR `t`, the base register modified, every byte of
memory as before. `s'` is `s` after the checks of the reference. -/
def Loads (o : Out) (s s' : State) (b t : Reg) (base : Option Word) (value : Word) : Prop :=
  ∃ w, Completes o s s' w ((t, value) :: (base.map fun v => (b, v)).toList) false none s.pswCB s.pswV ∧
    ∀ k, w.mem.byteAt k = s.mem.byteAt k

/-- The instruction completes as a store of `bytes` at address `a`, the base register modified. -/
def Stores (o : Out) (s s' : State) (b : Reg) (base : Option Word) (a : Nat) (bytes : List Byte) : Prop :=
  ∃ w, Completes o s { s' with mem := w.mem } w ((base.map fun v => (b, v)).toList) false none
      s.pswCB s.pswV ∧
    StoresAt s w a bytes

/-- The instruction completes as a taken branch to `offset`, writing the general registers `regs`. -/
def Jumps (o : Out) (s base : State) (regs : List (Reg × Word)) (nullify : Bool) (target : Target) :
    Prop :=
  ∃ w, Completes o s base w regs nullify (some target) s.pswCB s.pswV

/-- The floating-point coprocessor is enabled and no exception is outstanding: CCR bits 0 and 1 are 1, T is
0, and no exception register holds an exception (R770, R784, R823). -/
def FpReady (s : State) : Prop :=
  s.ccrBit 0#3 = true ∧ s.ccrBit 1#3 = true ∧ s.fpT = false ∧ s.fpQueued = false

/-- The floating-point instruction completes, leaving `base`. -/
def FpRuns (o : Out) (s base : State) : Prop := Writes o s base []

/-! ### Floating-point results as numbers -/

/-- The number that the bits of a finite operand are (spec/47_fp_state.md R752). -/
def fpRat (f : FpFmt) (x : Nat) : ℚ :=
  match fpValue f x with
  | .num neg m e => (if neg then -1 else 1) * m * 2 ^ e
  | _ => 0

/-- The bits are those of a number or a zero: no infinity, no NaN. -/
def fpFinite (f : FpFmt) (x : Nat) : Prop := fpExpField f x ≠ f.emask

/-- The bits of the format are a finite operand with this sign and this magnitude. -/
def FpHas (f : FpFmt) (x : Nat) (neg : Bool) (v : ℝ) : Prop :=
  x < 2 ^ f.width ∧ fpFinite f x ∧ fpSign f x = neg ∧ |(fpRat f x : ℝ)| = v

/-- `n` is the magnitude `v` of a number with sign `neg`, rounded to an integer in mode `rm`: nearest with
ties to even, toward zero, toward plus infinity, toward minus infinity (R776). -/
def RoundsTo (rm : BitVec 2) (neg : Bool) (v : ℝ) (n : Nat) : Prop :=
  match rm.toNat with
  | 0 => |v - n| < 1 / 2 ∨ |v - n| = 1 / 2 ∧ n % 2 = 0
  | 1 => n ≤ v ∧ v < n + 1
  | 2 => if neg then n ≤ v ∧ v < n + 1 else v ≤ n ∧ (n : ℝ) < v + 1
  | _ => if neg then v ≤ n ∧ (n : ℝ) < v + 1 else n ≤ v ∧ v < n + 1

/-- `x` stands for the magnitude `v` in a rounding to the format: it is `v`, or `v` lies strictly between
it and the next magnitude and it has more bits than the format keeps. -/
def FpExact.Spans (x : FpExact) (f : FpFmt) (v : ℝ) : Prop :=
  x.mant ≠ 0 ∧
    if x.sticky then
      x.mant * (2 : ℝ) ^ x.exp < v ∧ v < (x.mant + 1) * (2 : ℝ) ^ x.exp ∧ 2 ^ (f.fbits + 2) ≤ x.mant
    else v = x.mant * (2 : ℝ) ^ x.exp

/-- The outcome is the result `bits`. Exact: the code `code`, no flag. Inexact: the flags `flags`, and the
inexact exception, which sets its flag with `code`, or traps with `both` (R800). -/
def FpGives (o : FpOutcome) (sr : Word) (bits : Nat) (exact : Prop) (flags : Word)
    (code both : BitVec 6) : Prop :=
  (exact → o = .result bits 0#32 code) ∧
  (¬ exact → fpEnabled sr 4 = false → o = .result bits (flags ||| fpFlag 4) code) ∧
  (¬ exact → fpEnabled sr 4 = true → o = .result bits flags both)

/-- The outcome is the nonzero number of sign `neg` and magnitude `v`, rounded to the format (R776) and
delivered (R805), `r` being the magnitude rounded to the precision of the format with no bound on the
exponent: in the normal range it is the result; above it an overflow, which traps with the result divided
by 2^adjust or gives an infinity or the largest finite number (R794, R801); below it an underflow, which
traps with the result multiplied by 2^adjust, or is rounded to a multiple of the smallest denormal number
(R802). A conversion too far out of range for the adjustment is unimplemented. -/
def FpDelivers (o : FpOutcome) (sr : Word) (f : FpFmt) (conv neg : Bool) (v : ℝ) : Prop :=
  ∃ (q : ℤ) (n : ℕ),
    (2 : ℝ) ^ (q + f.fbits) ≤ v ∧ v < (2 : ℝ) ^ (q + f.fbits + 1) ∧
    RoundsTo (fpRm sr) neg (v / (2 : ℝ) ^ q) n ∧
    let r : ℝ := n * (2 : ℝ) ^ q
    ((2 : ℝ) ^ f.emin ≤ r → r < (2 : ℝ) ^ (f.bias + 1) →
      ∃ bits, FpHas f bits neg r ∧ FpGives o sr bits (r = v) 0#32 0#6 0b000010#6) ∧
    ((2 : ℝ) ^ (f.bias + 1) ≤ r →
      (fpEnabled sr 2 = false →
        FpGives o sr (fpOverflow f (fpRm sr) neg) False (fpFlag 2) 0#6 0b000010#6) ∧
      (fpEnabled sr 2 = true → r < (2 : ℝ) ^ (f.bias + f.adjust + 1) →
        ∃ bits, FpHas f bits neg (r / (2 : ℝ) ^ f.adjust) ∧
          FpGives o sr bits (r = v) 0#32 0b001000#6 0b001010#6) ∧
      (fpEnabled sr 2 = true → conv = true → (2 : ℝ) ^ (f.bias + f.adjust + 1) ≤ r →
        o = .unimplemented)) ∧
    (r < (2 : ℝ) ^ f.emin →
      (fpEnabled sr 3 = false →
        ∃ (d : ℕ) (bits : ℕ), RoundsTo (fpRm sr) neg (v / (2 : ℝ) ^ (f.emin - f.fbits)) d ∧
          FpHas f bits neg (d * (2 : ℝ) ^ (f.emin - f.fbits)) ∧
          FpGives o sr bits (d * (2 : ℝ) ^ (f.emin - f.fbits) = v) (fpFlag 3) 0#6 0b000010#6) ∧
      (fpEnabled sr 3 = true → (2 : ℝ) ^ (f.emin - f.adjust) ≤ r →
        ∃ bits, FpHas f bits neg (r * (2 : ℝ) ^ f.adjust) ∧
          FpGives o sr bits (r = v) 0#32 0b000100#6 0b000110#6) ∧
      (fpEnabled sr 3 = true → conv = true → r < (2 : ℝ) ^ (f.emin - f.adjust) → o = .unimplemented))

end Sys2Proof.Machine
end

