-- ==== Sys2Proof/Certificates/Slice0/Obligations.lean ====
section
/-!
DEFINITION. The statements for the provers. Their words (`Completes`, `Writes`, `SumIn`, `WordIn`,
`Loads`, `Stores`, `Jumps`, `Traps`, `TrapsAt`, `TrapsRef`, `FpDelivers`) are in Sys2Proof/Safety.lean. A
statement that names a field of `Config` or a free value holds for every value of it.
-/

open Sys2Proof Sys2Proof.Machine

/-! ### Encoding -/

/-- Decoding an encoded well-formed instruction gives it back (spec/30_encoding.md, the encoding tables). -/
def Obligations.EncodeThenDecode : Prop :=
  ∀ i : Instr, i.wf = true → decode (encode i) = some i

/-- What the decoder answers is well formed, so `encode` gives a word of the same instruction. -/
def Obligations.DecodedIsWellFormed : Prop :=
  ∀ (w : Word) (i : Instr), decode w = some i → i.wf = true ∧ decode (encode i) = some i

/-- Words written out from the spec's encodings decode to their instructions
(spec/96_decode_vectors.md). -/
def Obligations.DecodeWords : Prop :=
  decode 0x49DBB6D6#32 = some (.ldw 14#5 27#5 2#2 14038#14) ∧
  decode 0xE80F1D21#32 = some (.bl 0#5 15#5 1864#11 0#1 1#1) ∧
  decode 0x08850606#32 = some (.add 4#5 5#5 0#3 0#1 6#5) ∧
  decode 0xD0A61AF8#32 = some (.extru 5#5 6#5 0#3 23#5 24#5) ∧
  decode 0x00000C00#32 = some .rfi ∧
  decode 0x30850E06#32 = some (.fadd 4#5 5#5 1#2 6#5)

/-! ### The step -/

/-- Where no interruption is pending at the boundary and the instruction is not nullified, the step is
`exec` of the instruction that the fetched word decodes to (R915 step 3b), after which the interval timer
runs. A word that is no instruction, outside major opcode 0E, takes the illegal instruction trap (R19,
R301), after which no data translation is relied upon. The model's choice: a word that is no instruction takes trap 8 (notes/assumptions/45.md), and the
timer runs at the end of the step (notes/assumptions/9.md). -/
def Obligations.StepRunsDecoded : Prop :=
  ∀ (s s' : State) (w : Word),
    machineCheckStop s.takeInput = false → pendingInterruption s.takeInput = none →
    s.takeInput.pswN = false → s.takeInput.fetch = .ok (s', w) →
    (∀ i, decode w = some i →
      step s = elapse (exec i { s' with iword := w }) ∧
      ∀ t, exec i { s' with iword := w } = .next t → step s = .next t.runTimer) ∧
    (decode w = none → field w 0 6 ≠ 0x0E#6 →
      step s = .next (take 8 (.instr w) { s' with iword := w, relied := none }).runTimer)

/-- With PSW C = 0 the fetch reads the four bytes at `IAOQ_Front{0..29} || 00`, in the order that PSW E
gives, and changes nothing (R76, R165); where an instruction breakpoint matches it is interruption 30, and
a breakpoint that the spec calls undefined is refused (R892, U32). With PSW C = 1: no valid entry for the
page is interruption 6; execution not allowed by the access rights, or by the protection identifiers while
PSW P is 1, is interruption 7 (R211); a virtual fetch ends the reliance on a data translation. An
interruption of the fetch is taken with no parameters, in the state that the translation leaves: an entry
that the hardware inserted for the fetch stays. The model's choice: that it stays (notes/assumptions/17.md),
that the attempt ends the reliance (notes/assumptions/58.md), and the refusal (notes/assumptions/48.md). -/
def Obligations.InstructionFetch : Prop :=
  (∀ s : State, s.pswC = false →
      (s.instrBreakpoint = .hit → s.fetch = .trap 30) ∧
      (s.instrBreakpoint = .undefined → s.fetch = .refused .debugMask) ∧
      (s.instrBreakpoint = .none → isIo s.fetchOffset = false →
        backed s.cfg s.fetchOffset.toNat 4 = true →
        s.fetchOffset.toNat = s.iaoqFront.toNat / 4 * 4 ∧
        ∃ w, s.fetch = .ok (s, w) ∧
          w = (if s.pswE then
              s.mem.byteAt (s.fetchOffset.toNat + 3) ++ s.mem.byteAt (s.fetchOffset.toNat + 2)
                ++ s.mem.byteAt (s.fetchOffset.toNat + 1) ++ s.mem.byteAt s.fetchOffset.toNat
            else
              s.mem.byteAt s.fetchOffset.toNat ++ s.mem.byteAt (s.fetchOffset.toNat + 1)
                ++ s.mem.byteAt (s.fetchOffset.toNat + 2) ++ s.mem.byteAt (s.fetchOffset.toNat + 3) : Word))) ∧
  (∀ s : State, s.pswC = true →
      let v := { s with relied := none }
      (v.translate true s.iasqFront s.fetchOffset = none → s.fetch = .trap 6) ∧
      ∀ e s', v.translate true s.iasqFront s.fetchOffset = some (e, s') →
        (executeAllowed e s.priv.toNat = false ∨ s.pswP = true ∧ s.pidCheck e false = false →
          s.fetch = .trap 7) ∧
        (executeAllowed e s.priv.toNat = true → (s.pswP = false ∨ s.pidCheck e false = true) →
          (s.cfg.tlbCombined = false ∨ s.cfg.hasTlbU = false ∨ e.u = false) →
          isIo (absoluteOf e s.fetchOffset) = false →
          backed s.cfg (absoluteOf e s.fetchOffset).toNat 4 = true →
          s.fetch = .ok (s', s.mem.word s.pswE (absoluteOf e s.fetchOffset).toNat))) ∧
  (∀ (s : State) (n : Nat), s.fetch = .trap n →
      ∃ u, runInstruction s = .next (take n .none u) ∧
        (s.pswC = false → u = s) ∧
        (s.pswC = true →
          let v := { s with relied := none }
          (v.translate true s.iasqFront s.fetchOffset = none → u = v) ∧
          (∀ e s', v.translate true s.iasqFront s.fetchOffset = some (e, s') → u = s') ∧
          u = { v with itlb := u.itlb, dtlb := u.dtlb, draws := u.draws } ∧
          (s.cfg.hwTlbMiss = false → u = v)))

/-- The interruptions of groups 1 and 2 in their order, and the step that takes one (R915 steps 1, 2). A
high-priority machine check while PSW M is 1 stops the machine (R940, U9). The model's choice: the request
is cleared when it is taken (notes/assumptions/32.md), the interval timer runs at the end of the step
(notes/assumptions/9.md), and the stop is a fault (notes/assumptions/31.md). -/
def Obligations.PendingInterruptionsInOrder : Prop :=
  ∀ s : State,
    (s.takeInput.pswM = true → s.takeInput.pendHpmc = true → step s = .fault .machineCheckStop) ∧
    (s.takeInput.pswM = false ∨ s.takeInput.pendHpmc = false →
      ∀ n, pendingInterruption s.takeInput = some n →
        step s = .next (take n .none (clearPending n s.takeInput)).runTimer) ∧
    (s.pswM = false → s.pendHpmc = true → pendingInterruption s = some 1) ∧
    (s.pswM = true ∨ s.pendHpmc = false →
      (s.pswI = true → s.pendPowerFail = true → pendingInterruption s = some 2) ∧
      (s.pswI = false ∨ s.pendPowerFail = false →
        (s.pswR = true → mbit s.rctr 0 = true → pendingInterruption s = some 3) ∧
        (s.pswR = false ∨ mbit s.rctr 0 = false →
          (s.pswI = true → s.eirr &&& s.eiem ≠ 0#32 → pendingInterruption s = some 4) ∧
          (s.pswI = true → s.eirr &&& s.eiem = 0#32 → s.pendLpmc = true →
            pendingInterruption s = some 5) ∧
          (s.pswI = false ∨ s.eirr &&& s.eiem = 0#32 ∧ s.pendLpmc = false →
            (s.pswF = true → s.pendPerfmon = true → pendingInterruption s = some 29) ∧
            (s.pswF = false ∨ s.pendPerfmon = false → pendingInterruption s = none)))))

/-- A nullified instruction is skipped: the queues advance, PSW N, B, X, Y and Z become 0, and nothing
else of the state changes, the Recovery Counter included (R80, R86), but the reliance on a data translation,
which stays while PSW C and D are 0 (R201). A trap of group 4 may follow (R915). The model's choice: when
the reliance ends (notes/assumptions/58.md), and that the interval timer runs at the end of a skipped step as
of any other (notes/assumptions/9.md). -/
def Obligations.NullifiedIsSkipped : Prop :=
  ∀ s u : State, u = s.takeInput → machineCheckStop u = false → pendingInterruption u = none →
    u.pswN = true →
    ∃ w, step s = .next (group4 u w true false).runTimer ∧
      (u.calm → step s = .next w.runTimer) ∧
      PswAfter u.psw w.psw false false u.pswCB u.pswV ∧
      (w.relied = u.relied ∨ w.relied = none) ∧
      (u.pswC = false → u.pswD = false → w.relied = u.relied) ∧
      w = { u with
        psw := w.psw, relied := w.relied
        iaoqFront := u.iaoqBack, iaoqBack := u.iaoqBack + 4#32
        iasqFront := u.iasqBack, iasqBack := u.iasqBack }

/-- The traps of group 4, in their order (R915 step 4): `s` is the state before the instruction, `w` after
it. In Level 0 only privilege level 0 and the others differ. -/
def Obligations.TransferTraps : Prop :=
  ∀ (s w : State) (lower taken : Bool),
    (s.rank s.priv < s.rank w.priv → s.pswL = true → lower = true →
      group4 s w lower taken = take 24 .none w) ∧
    (s.rank w.priv < s.rank s.priv → s.pswH = true →
      group4 s w lower taken = take 23 .none w) ∧
    ((s.rank s.priv < s.rank w.priv → s.pswL = false ∨ lower = false) →
      (s.rank w.priv < s.rank s.priv → s.pswH = false) →
      (taken = true → s.pswT = true → group4 s w lower taken = take 25 .none w) ∧
      (taken = false ∨ s.pswT = false → group4 s w lower taken = w))

/-- The interval timer: `n` ticks add `n` to the counter, and EIRR bit 0 is set when the counter passes
through the comparator's value; no other bit of EIRR changes (R93, R985). A step makes no tick, one or
two while ITMR_RATE is from 1/2 to 2, exactly one at the rate 1, and the timer changes nothing else. The
model's choice: how many ticks a step makes, and that they come after its instruction
(notes/assumptions/9.md). -/
def Obligations.TimerRequestsInterrupt : Prop :=
  (∀ (s : State) (n : Nat), n < 2 ^ 32 →
      (s.ticks n).itmr = s.itmr + BitVec.ofNat 32 n ∧
      (mbit (s.ticks n).eirr 0 = true ↔
        mbit s.eirr 0 = true ∨ ∃ k, 1 ≤ k ∧ k ≤ n ∧ s.itmr + BitVec.ofNat 32 k = s.itmrCmp) ∧
      ∀ i, 1 ≤ i → i < 32 → mbit (s.ticks n).eirr i = mbit s.eirr i) ∧
  (∀ s : State, s.cfg.valid = true → s.itmrPhase < s.cfg.itmrDenPred + 1 →
      ∃ n, n ≤ 2 ∧
        s.runTimer = { s with
          itmr := (s.ticks n).itmr, eirr := (s.ticks n).eirr, itmrPhase := s.runTimer.itmrPhase } ∧
        s.runTimer.itmrPhase < s.cfg.itmrDenPred + 1 ∧
        (s.cfg.itmrDenPred + 1) * n + s.runTimer.itmrPhase = s.itmrPhase + s.cfg.itmrNum ∧
        (s.cfg.itmrNum = s.cfg.itmrDenPred + 1 → n = 1))

/-! ### Reset and the invariant -/

/-- What the spec's reset leaves: no interruption pending or enabled, privilege level 0, absolute
addressing, the units disabled (R101, R1020), for the defaults and for every choice of the parameters:
the start is the word that RESET_IA names, PSW E is the default endian bit where PSW E exists. The address
0 is the default of RESET_IA (notes/assumptions/2.md), and no slot of a TLB holds an entry where the spec
says that E is 0 and the other fields are arbitrary (notes/assumptions/3.md): both are the model's choice. -/
def Obligations.ResetState : Prop :=
  (State.reset.psw = 0#32 ∧ State.reset.priv = 0#2 ∧ State.reset.iaoqFront = 0#32 ∧
    State.reset.iaoqBack = State.reset.iaoqFront + 4#32 ∧ State.reset.ccr = 0#8 ∧
    State.reset.scr = 0#8 ∧ State.reset.eirr = 0#32 ∧ State.reset.fpIdentifyValid = false ∧
    (∀ r, readReg State.reset.fprs r = 0#64) ∧
    (∀ e, some e ∉ State.reset.itlb ∧ some e ∉ State.reset.dtlb) ∧
    pendingInterruption State.reset = none) ∧
  (∀ c : Config,
    (State.resetOf c).cfg = c ∧
    (∀ i, i < 32 → mbit (State.resetOf c).psw i = (i == 5 && c.hasPswE && c.defaultEndian)) ∧
    (State.resetOf c).priv = 0#2 ∧
    (State.resetOf c).iaoqFront.toNat = c.resetIa.toNat / 4 * 4 ∧
    (State.resetOf c).iaoqBack = (State.resetOf c).iaoqFront + 4#32 ∧
    (State.resetOf c).defaultEndian = c.defaultEndian ∧
    (State.resetOf c).ccr = 0#8 ∧ (State.resetOf c).scr = 0#8 ∧ (State.resetOf c).eirr = 0#32 ∧
    (∀ r, readReg (State.resetOf c).fprs r = 0#64) ∧
    (∀ e, some e ∉ (State.resetOf c).itlb ∧ some e ∉ (State.resetOf c).dtlb) ∧
    (State.resetOf c).itlb.length = c.itlbSlotsPred + 1 ∧
    (State.resetOf c).dtlb.length = c.dtlbSlotsPred + 1 ∧
    pendingInterruption (State.resetOf c) = none)

/-- The invariant holds after reset, for every choice of the parameters in the spec's ranges: the reserved
bits of the PSW, the IPSW and IVA are 0, the bits of absent units in CCR and SCR are 0, the protection
identifiers hold implemented bits only (R40, R49, R87 to R89, R91). It rests on the zeros that the model
chooses for registers with no reset value in the spec (notes/assumptions/1.md). -/
def Obligations.ResetMeetsInvariant : Prop :=
  State.reset.Inv ∧ ∀ c : Config, c.valid = true → (State.resetOf c).Inv

/-- Every step keeps the invariant: memory stays canonical; the reserved bits of the PSW, the IPSW and IVA
stay 0, the bits of absent units in CCR and SCR too, and the protection identifiers hold implemented bits
only (R40, R49, R74, R87 to R89, R91). That the CCR, SCR and protection identifier bits read 0, and that
ones in reserved bits are refused, is read from the spec by inference (notes/assumptions/38.md,
notes/assumptions/40.md). -/
def Obligations.StepKeepsInvariant : Prop :=
  ∀ s s' : State, s.Inv → step s = .next s' → s'.Inv

/-! ### Interruptions -/

/-- Taking an interruption (R930): what is saved, the PSW at entry bit by bit, the handler's address
(R931); every other field is unchanged. With PSW Q = 0 the interruption registers are unchanged. The
spaces of an interruption taken while PSW C = 0 and of the handler are free values (R938, R78). -/
def Obligations.TakeSavesAndVectors : Prop :=
  ∀ (n : Nat) (p : IntParams) (s : State), n < 32 → s.iva &&& 0x7FF#32 = 0#32 →
    let t := take n p s
    t.ipsw = s.psw ∧
    (∀ i, i < 32 → mbit t.psw i =
      ((i == 5 && s.cfg.hasPswE && s.defaultEndian) || (i == 15 && n == 1))) ∧
    t.priv = 0#2 ∧
    t.iaoqFront = s.iva + BitVec.ofNat 32 (32 * n) ∧ t.iaoqBack = t.iaoqFront + 4#32 ∧
    t.shr = #v[s.gr 1, s.gr 8, s.gr 9, s.gr 16, s.gr 17, s.gr 24, s.gr 25] ∧
    (s.pswQ = true →
      t.iiaoqFront = s.iaoqFront ∧ t.iiaoqBack = s.iaoqBack ∧
      (∀ x, p.iir = some x → t.iir = x) ∧ (∀ x, p.ior = some x → t.ior = x) ∧
      (s.level0 = false → ∀ x, p.isr = some x → t.isr = x) ∧
      (s.pswC = true → t.iiasqFront = s.iasqFront ∧ t.iiasqBack = s.iasqBack)) ∧
    (s.pswQ = false →
      t.iiaoqFront = s.iiaoqFront ∧ t.iiaoqBack = s.iiaoqBack ∧ t.iiasqFront = s.iiasqFront ∧
      t.iiasqBack = s.iiasqBack ∧ t.iir = s.iir ∧ t.isr = s.isr ∧ t.ior = s.ior) ∧
    t = { s with
      ipsw := t.ipsw, psw := t.psw, iiasqFront := t.iiasqFront, iiasqBack := t.iiasqBack
      iiaoqFront := t.iiaoqFront, iiaoqBack := t.iiaoqBack, iir := t.iir, isr := t.isr, ior := t.ior
      shr := t.shr, iaoqFront := t.iaoqFront, iaoqBack := t.iaoqBack, iasqFront := t.iasqFront
      iasqBack := t.iasqBack, draws := t.draws }

/-- RFI at privilege level 0 (R632), with PSW Q 0 as the page requires: the PSW comes from IPSW, the queues
from the interruption queues; with IPSW Q = 1 nothing else changes but a counted Recovery Counter; with
IPSW Q = 0 the interruption queues are free values afterwards and nothing else changes. RFIR at
privilege level 0 (R633): as RFI, and GRs 1, 8, 9, 16, 17, 24 and 25 come from the shadow registers,
which are free values afterwards. In Level 0 both leave the space queue as it is. -/
def Obligations.ReturnFromInterruption : Prop :=
  (∀ s : State, s.priv = 0#2 → s.pswQ = false →
      ∃ w, exec .rfi s = .next (group4 s w false false) ∧ (s.calm → exec .rfi s = .next w) ∧
        w.psw = s.ipsw ∧ w.iaoqFront = s.iiaoqFront ∧ w.iaoqBack = s.iiaoqBack ∧
        (s.level0 = false → w.iasqFront = s.iiasqFront ∧ w.iasqBack = s.iiasqBack) ∧
        (s.level0 = true → w.iasqFront = s.iasqFront ∧ w.iasqBack = s.iasqBack) ∧
        w.rctr = (if s.pswR then s.rctr - 1#32 else s.rctr) ∧
        (mbit s.ipsw 28 = true →
          w = { s with
            psw := w.psw, iaoqFront := w.iaoqFront, iaoqBack := w.iaoqBack, iasqFront := w.iasqFront
            iasqBack := w.iasqBack, rctr := w.rctr }) ∧
        (mbit s.ipsw 28 = false →
          w = { s with
            psw := w.psw, iaoqFront := w.iaoqFront, iaoqBack := w.iaoqBack, iasqFront := w.iasqFront
            iasqBack := w.iasqBack, rctr := w.rctr, draws := w.draws, iiaoqFront := w.iiaoqFront
            iiaoqBack := w.iiaoqBack, iiasqFront := w.iiasqFront, iiasqBack := w.iiasqBack })) ∧
  (∀ s : State, s.priv = 0#2 → s.pswQ = false →
      ∃ w, exec .rfir s = .next (group4 s w false false) ∧ (s.calm → exec .rfir s = .next w) ∧
        w.psw = s.ipsw ∧ w.iaoqFront = s.iiaoqFront ∧ w.iaoqBack = s.iiaoqBack ∧
        (s.level0 = false → w.iasqFront = s.iiasqFront ∧ w.iasqBack = s.iiasqBack) ∧
        (s.level0 = true → w.iasqFront = s.iasqFront ∧ w.iasqBack = s.iasqBack) ∧
        w.rctr = (if s.pswR then s.rctr - 1#32 else s.rctr) ∧
        GrsAre s w [(1, s.shr[0]), (8, s.shr[1]), (9, s.shr[2]), (16, s.shr[3]), (17, s.shr[4]),
          (24, s.shr[5]), (25, s.shr[6])] ∧
        w = { s with
          grs := w.grs, shr := w.shr, psw := w.psw, iaoqFront := w.iaoqFront, iaoqBack := w.iaoqBack
          iasqFront := w.iasqFront, iasqBack := w.iasqBack, rctr := w.rctr, draws := w.draws
          iiaoqFront := if mbit s.ipsw 28 then s.iiaoqFront else w.iiaoqFront
          iiaoqBack := if mbit s.ipsw 28 then s.iiaoqBack else w.iiaoqBack
          iiasqFront := if mbit s.ipsw 28 then s.iiasqFront else w.iiasqFront
          iiasqBack := if mbit s.ipsw 28 then s.iiasqBack else w.iiasqBack })

/-- A handler that returns at once: an interruption taken while PSW Q was 1, then RFI, gives back the
PSW, the queues, every general and space register, memory and the Recovery Counter (R930, R632). -/
def Obligations.TakeThenRfiReturns : Prop :=
  ∀ (n : Nat) (p : IntParams) (s : State), s.pswQ = true →
    ∃ w, exec .rfi (take n p s) = .next w ∧
      w.psw = s.psw ∧ w.iaoqFront = s.iaoqFront ∧ w.iaoqBack = s.iaoqBack ∧
      (s.pswC = true → w.iasqFront = s.iasqFront ∧ w.iasqBack = s.iasqBack) ∧
      w.grs = s.grs ∧ w.srs = s.srs ∧ w.mem = s.mem ∧ w.rctr = s.rctr ∧ w.fprs = s.fprs

/-- The privileged instructions take interruption 10 at every privilege level but 0 (R409, R630), the TLB
instructions and LPA where virtual memory exists, LCI where the machine has coherent I/O. BREAK takes
the break instruction trap at every privilege level, with the instruction in IIR and its own address in
the interruption queues (R951, R631). -/
def Obligations.BreakAndPrivilegeTraps : Prop :=
  (∀ s : State, s.priv ≠ 0#2 →
      Traps (exec .rfi s) s 10 ∧ Traps (exec .rfir s) s 10 ∧
      (∀ i t, Traps (exec (.ssm i t) s) s 10 ∧ Traps (exec (.rsm i t) s) s 10) ∧
      (∀ r, Traps (exec (.mtsm r) s) s 10) ∧ (∀ i, Traps (exec (.diag i) s) s 10) ∧
      (∀ b x u cc m t, Traps (exec (.ldwax b x u cc m t) s) s 10) ∧
      (∀ b im a cc m t, Traps (exec (.ldwas b im a cc m t) s) s 10) ∧
      (∀ b r a cc m im, Traps (exec (.stwas b r a cc m im) s) s 10) ∧
      (s.level0 = false →
        (∀ b x p m, Traps (exec (.pdtlb b x p m) s) s 10 ∧ Traps (exec (.pdtlbe b x p m) s) s 10) ∧
        (∀ b x p m, Traps (exec (.pitlb b x p m) s) s 10 ∧ Traps (exec (.pitlbe b x p m) s) s 10) ∧
        (∀ b r p, Traps (exec (.iitlba b r p) s) s 10 ∧ Traps (exec (.iitlbp b r p) s) s 10) ∧
        (∀ b r p, Traps (exec (.idtlba b r p) s) s 10 ∧ Traps (exec (.idtlbp b r p) s) s 10) ∧
        (∀ b x p m t, Traps (exec (.lpa b x p m t) s) s 10) ∧
        (s.cfg.coherentIo = true → ∀ b x p t, Traps (exec (.lci b x p t) s) s 10))) ∧
  (∀ (i13 : BitVec 13) (i5 : BitVec 5) (s : State),
      ∃ w, exec (.breakTrap i13 i5) s = .next w ∧ w = take 9 (.instr s.iword) s ∧
        (s.pswQ = true → w.iir = s.iword ∧ w.iiaoqFront = s.iaoqFront) ∧ w.ipsw = s.psw)

/-! ### Arithmetic -/

/-- The adder (R531, R532): the sum modulo 2^32, the carry out of each digit, signed overflow exactly when
the sum of the signed numbers is out of range, row 4 of Table 5-1 exactly when no carry leaves the word.
The subtracter, `a + ~b + 1` (R531, R532): the difference, signed overflow, borrow. The overflow of a
pre-shift by 1, 2 or 3 places (R538): signed when the shifted value is not the signed product by 2^n,
unsigned when a 1 is shifted out. -/
def Obligations.ArithmeticIsExact : Prop :=
  (∀ (x y : Word) (c : Bool),
      (adder x y c).res.toNat = (x.toNat + y.toNat + c.toNat) % 2 ^ 32 ∧
      (∀ i, i < 8 → ((adder x y c).cb.getLsbD (7 - i) = true ↔
        2 ^ (32 - 4 * i) ≤ x.toNat % 2 ^ (32 - 4 * i) + y.toNat % 2 ^ (32 - 4 * i) + c.toNat)) ∧
      ((adder x y c).sv = true ↔
        x.toInt + y.toInt + c.toNat < -2 ^ 31 ∨ 2 ^ 31 ≤ x.toInt + y.toInt + (c.toNat : Int)) ∧
      ((adder x y c).row4 = true ↔ x.toNat + y.toNat + c.toNat < 2 ^ 32)) ∧
  (∀ a b : Word,
      (subtract a b).res = a - b ∧
      ((subtract a b).sv = true ↔ a.toInt - b.toInt < -2 ^ 31 ∨ 2 ^ 31 ≤ a.toInt - b.toInt) ∧
      ((subtract a b).row4 = true ↔ a.toNat < b.toNat) ∧
      ((subtract a b).cb.getLsbD 7 = true ↔ b.toNat ≤ a.toNat)) ∧
  (∀ (w : Word) (n : Nat), 1 ≤ n → n ≤ 3 →
      ((preShift w n).sv = true ↔ (w <<< n).toInt ≠ w.toInt * 2 ^ n) ∧
      ((preShift w n).uv = true ↔ 2 ^ 32 ≤ w.toNat * 2 ^ n))

/-- The compare and subtract conditions are the orders of the signed and unsigned numbers, whether or not
the difference overflows; `f` negates (R331, R333). The add conditions on the sum of the signed or
unsigned numbers (R331, R334). -/
def Obligations.ArithmeticConditions : Prop :=
  (∀ a b : Word,
      arithCond 0#3 0#1 (subtract a b) = false ∧
      (arithCond 1#3 0#1 (subtract a b) = true ↔ a = b) ∧
      (arithCond 2#3 0#1 (subtract a b) = true ↔ a.toInt < b.toInt) ∧
      (arithCond 3#3 0#1 (subtract a b) = true ↔ a.toInt ≤ b.toInt) ∧
      (arithCond 4#3 0#1 (subtract a b) = true ↔ a.toNat < b.toNat) ∧
      (arithCond 5#3 0#1 (subtract a b) = true ↔ a.toNat ≤ b.toNat) ∧
      (arithCond 6#3 0#1 (subtract a b) = true ↔
        a.toInt - b.toInt < -2 ^ 31 ∨ 2 ^ 31 ≤ a.toInt - b.toInt) ∧
      (arithCond 7#3 0#1 (subtract a b) = true ↔ (a - b).toNat % 2 = 1) ∧
      ∀ c, arithCond c 1#1 (subtract a b) = !arithCond c 0#1 (subtract a b)) ∧
  (∀ a b : Word,
      arithCond 0#3 0#1 (adder a b false) = false ∧
      (∀ c, arithCond c 1#1 (adder a b false) = !arithCond c 0#1 (adder a b false)) ∧
      (arithCond 1#3 0#1 (adder a b false) = true ↔ a = -b) ∧
      (arithCond 2#3 0#1 (adder a b false) = true ↔ a.toInt + b.toInt < 0) ∧
      (arithCond 3#3 0#1 (adder a b false) = true ↔ a = -b ∨ a.toInt + b.toInt < 0) ∧
      (arithCond 4#3 0#1 (adder a b false) = true ↔ a.toNat + b.toNat < 2 ^ 32) ∧
      (arithCond 5#3 0#1 (adder a b false) = true ↔ a = -b ∨ a.toNat + b.toNat < 2 ^ 32) ∧
      (arithCond 6#3 0#1 (adder a b false) = true ↔
        a.toInt + b.toInt < -2 ^ 31 ∨ 2 ^ 31 ≤ a.toInt + b.toInt) ∧
      (arithCond 7#3 0#1 (adder a b false) = true ↔ (a.toNat + b.toNat) % 2 = 1))

/-- ADD, ADDC, SUB, SUBB, ADDI and SUBI (R533, R536, R547, R549, R559, R563): the sum goes to GR t, its
digit carries to C/B, and the successor is nullified when the condition holds. ADDL, COMCLR and COMICLR
(R534, R554, R565): a result in GR t, C/B unchanged. -/
def Obligations.SumInstructions : Prop :=
  (∀ (s : State) (r2 r1 t : Reg) (c : BitVec 3) (f : BitVec 1) (i : BitVec 11),
      SumIn (exec (.add r2 r1 c f t) s) s t (adder (s.gr r1) (s.gr r2) false)
        (arithCond c f (adder (s.gr r1) (s.gr r2) false)) ∧
      SumIn (exec (.addc r2 r1 c f t) s) s t (adder (s.gr r1) (s.gr r2) (mbit s.psw 16))
        (arithCond c f (adder (s.gr r1) (s.gr r2) (mbit s.psw 16))) ∧
      SumIn (exec (.sub r2 r1 c f t) s) s t (subtract (s.gr r1) (s.gr r2))
        (arithCond c f (subtract (s.gr r1) (s.gr r2))) ∧
      SumIn (exec (.subb r2 r1 c f t) s) s t (adder (s.gr r1) (~~~(s.gr r2)) (mbit s.psw 16))
        (arithCond c f (adder (s.gr r1) (~~~(s.gr r2)) (mbit s.psw 16))) ∧
      SumIn (exec (.addi r1 t c f i) s) s t (adder (lowSignExt11 i) (s.gr r1) false)
        (arithCond c f (adder (lowSignExt11 i) (s.gr r1) false)) ∧
      SumIn (exec (.subi r1 t c f i) s) s t (subtract (lowSignExt11 i) (s.gr r1))
        (arithCond c f (subtract (lowSignExt11 i) (s.gr r1)))) ∧
  (∀ (s : State) (r2 r1 t : Reg) (c : BitVec 3) (f : BitVec 1) (i : BitVec 11),
      WordIn (exec (.addl r2 r1 c f t) s) s t (s.gr r1 + s.gr r2)
        (arithCond c f (adder (s.gr r1) (s.gr r2) false)) ∧
      WordIn (exec (.comclr r2 r1 c f t) s) s t 0#32 (arithCond c f (subtract (s.gr r1) (s.gr r2))) ∧
      WordIn (exec (.comiclr r1 t c f i) s) s t 0#32
        (arithCond c f (subtract (lowSignExt11 i) (s.gr r1))))

/-- The forms that trap on signed overflow (R535, R537, R548, R550, R560, R564): without overflow as the
plain sum, with it the overflow trap (12) and nothing written. The forms that trap on the condition
(R551, R552, R561, R562): ADDITO and SUBTO take the overflow trap (12) first; the conditional trap is
13; otherwise the sum is written and nothing is nullified. -/
def Obligations.TrappingArithmetic : Prop :=
  (∀ (s : State) (r2 r1 t : Reg) (c : BitVec 3) (f : BitVec 1) (i : BitVec 11),
      ∀ p ∈ [(Instr.addo r2 r1 c f t, adder (s.gr r1) (s.gr r2) false),
          (Instr.addco r2 r1 c f t, adder (s.gr r1) (s.gr r2) (mbit s.psw 16)),
          (Instr.subo r2 r1 c f t, subtract (s.gr r1) (s.gr r2)),
          (Instr.subbo r2 r1 c f t, adder (s.gr r1) (~~~(s.gr r2)) (mbit s.psw 16)),
          (Instr.addio r1 t c f i, adder (lowSignExt11 i) (s.gr r1) false),
          (Instr.subio r1 t c f i, subtract (lowSignExt11 i) (s.gr r1))],
        (p.2.sv = false → SumIn (exec p.1 s) s t p.2 (arithCond c f p.2)) ∧
        (p.2.sv = true → Traps (exec p.1 s) s 12)) ∧
  (∀ (s : State) (r2 r1 t : Reg) (c : BitVec 3) (f : BitVec 1) (i : BitVec 11),
      (∀ p ∈ [(Instr.addit r1 t c f i, adder (lowSignExt11 i) (s.gr r1) false),
          (Instr.subt r2 r1 c f t, subtract (s.gr r1) (s.gr r2))],
        (arithCond c f p.2 = false → SumIn (exec p.1 s) s t p.2 false) ∧
        (arithCond c f p.2 = true → Traps (exec p.1 s) s 13)) ∧
      ∀ p ∈ [(Instr.addito r1 t c f i, adder (lowSignExt11 i) (s.gr r1) false),
          (Instr.subto r2 r1 c f t, subtract (s.gr r1) (s.gr r2))],
        (p.2.sv = true → Traps (exec p.1 s) s 12) ∧
        (p.2.sv = false → arithCond c f p.2 = true → Traps (exec p.1 s) s 13) ∧
        (p.2.sv = false → arithCond c f p.2 = false → SumIn (exec p.1 s) s t p.2 false))

/-- The shift-and-add instructions (R538 to R546): the shifted first operand plus the second; C/B are the
carries of that addition, and the overflows are those of the shift (stated in ArithmeticIsExact) or of the
addition; SHnADDL leaves C/B alone, SHnADDO traps on overflow. Where the shift overflows, conditions 2 and 3 are judged with its overflow
or without it (R338). The model's choice: which of the two is a free value (notes/assumptions/41.md), and
C/B are the carries of the addition, the reading that R538 marks as decision D26
(notes/assumptions/53.md). -/
def Obligations.ShiftAndAdd : Prop :=
  ∀ (s : State) (r2 r1 t : Reg) (c : BitVec 3) (f : BitVec 1),
    ∀ p ∈ [(1, Instr.sh1add r2 r1 c f t, Instr.sh1addl r2 r1 c f t, Instr.sh1addo r2 r1 c f t),
        (2, Instr.sh2add r2 r1 c f t, Instr.sh2addl r2 r1 c f t, Instr.sh2addo r2 r1 c f t),
        (3, Instr.sh3add r2 r1 c f t, Instr.sh3addl r2 r1 c f t, Instr.sh3addo r2 r1 c f t)],
      let sh := preShift (s.gr r1) p.1
      let sum := adder (s.gr r1 <<< p.1) (s.gr r2) false
      let x := shiftAdd sh (s.gr r2)
      x.res = (s.gr r1 <<< p.1) + s.gr r2 ∧ x.cb = sum.cb ∧
      x.sv = (sh.sv || sum.sv) ∧ x.row4 = (!sh.uv && sum.row4) ∧
      (∃ n, SumIn (exec p.2.1 s) s t x n ∧ WordIn (exec p.2.2.1 s) s t x.res n ∧
        (n = arithCond c f x ∨
          sh.sv = true ∧ (c = 2#3 ∨ c = 3#3) ∧ n = arithCond c f { x with sv := sum.sv })) ∧
      (x.sv = true → Traps (exec p.2.2.2 s) s 12) ∧
      (x.sv = false → SumIn (exec p.2.2.2 s) s t x (arithCond c f x))

/-- The divide step (R553): subtract when PSW V is 1, add when it is 0; C/B are the carries of that
operation, and V becomes the leftmost one exclusive-or the divisor's sign; the overflows are those of the
shift or of the operation. Where the shift overflows, conditions 2 and 3 are judged with its overflow or
without it (R338). The model's choice: which of the two is a free value (notes/assumptions/41.md), and the
shifted value and the carry that sets V are the reading that R553 marks as decision D26
(notes/assumptions/53.md). -/
def Obligations.DivideStep : Prop :=
  ∀ (s : State) (r2 r1 t : Reg) (c : BitVec 3) (f : BitVec 1),
    let sh := divideShift (s.gr r1) (mbit s.psw 16)
    let x := divideAdd sh (s.gr r2) s.pswV
    let sum := if s.pswV then subtract sh.value (s.gr r2) else adder sh.value (s.gr r2) false
    sh.value = (s.gr r1 <<< 1) + (if mbit s.psw 16 then 1#32 else 0#32) ∧
    sh.sv = Bool.xor (mbit (s.gr r1) 0) (mbit (s.gr r1) 1) ∧ sh.uv = mbit (s.gr r1) 0 ∧
    x.res = (if s.pswV then sh.value - s.gr r2 else sh.value + s.gr r2) ∧ x.cb = sum.cb ∧
    x.sv = (sh.sv || sum.sv) ∧
    x.row4 = (if s.pswV then sh.uv || sum.row4 else !sh.uv && sum.row4) ∧
    ∃ n w, Completes (exec (.ds r2 r1 c f t) s) s s w [(t, x.res)] n none x.cb
        (Bool.xor (x.cb.getLsbD 7) (mbit (s.gr r2) 0)) ∧
      (n = arithCond c f x ∨
        sh.sv = true ∧ (c = 2#3 ∨ c = 3#3) ∧ n = arithCond c f { x with sv := sum.sv })

/-- OR, XOR, AND and ANDCM (R555 to R558): the result in GR t; nullification by Table 5-5 where it
defines the condition, a free value elsewhere (R335). UXOR, UADDCM, UADDCMT, DCOR and IDCOR (R567 to
R571): the result in GR t, C/B unchanged, the unit condition where Table 5-6 defines it: some byte or
halfword of the result is zero, some digit, byte or halfword carries (R336). UADDCMT traps when its
condition is met (R569). The model's choice: a condition that the tables do not define is a free value,
by which UADDCMT completes or takes trap 13 (notes/assumptions/41.md), and the unit conditions of DCOR and
IDCOR look at the carries of the correction (notes/assumptions/53.md). -/
def Obligations.LogicalAndUnitInstructions : Prop :=
  (∀ (s : State) (r2 r1 t : Reg) (c : BitVec 3) (f : BitVec 1),
      ∀ p ∈ [(Instr.or r2 r1 c f t, s.gr r1 ||| s.gr r2), (Instr.xor r2 r1 c f t, s.gr r1 ^^^ s.gr r2),
          (Instr.and r2 r1 c f t, s.gr r1 &&& s.gr r2),
          (Instr.andcm r2 r1 c f t, s.gr r1 &&& ~~~(s.gr r2))],
        ∃ n, WordIn (exec p.1 s) s t p.2 n ∧
          (c = 0#3 → n = isOne f) ∧ (c = 1#3 → n = Bool.xor (p.2 == 0#32) (isOne f)) ∧
          (c = 2#3 → n = Bool.xor (decide (p.2.toInt < 0)) (isOne f)) ∧
          (c = 3#3 → n = Bool.xor (decide (p.2.toInt ≤ 0)) (isOne f)) ∧
          (c = 7#3 → n = Bool.xor (decide (p.2.toNat % 2 = 1)) (isOne f))) ∧
  (∀ (s : State) (r2 r1 t : Reg) (c : BitVec 3) (f : BitVec 1),
      (∃ n, WordIn (exec (.uxor r2 r1 c f t) s) s t (s.gr r1 ^^^ s.gr r2) n ∧
        ∀ b, c = 0#3 ∨ c = 2#3 ∨ c = 3#3 → unitBase c (s.gr r1 ^^^ s.gr r2) 0#8 = some b →
          n = Bool.xor b (isOne f)) ∧
      (∀ p ∈ [(Instr.uaddcm r2 r1 c f t, adder (s.gr r1) (~~~(s.gr r2)) false),
          (Instr.dcor r1 c f t, subtract (s.gr r1) (sixes (~~~s.pswCB))),
          (Instr.idcor r1 c f t, adder (s.gr r1) (sixes s.pswCB) false)],
        ∃ n, WordIn (exec p.1 s) s t p.2.res n ∧
          ∀ b, unitBase c p.2.res p.2.cb = some b → n = Bool.xor b (isOne f)) ∧
      let x := adder (s.gr r1) (~~~(s.gr r2)) false
      (unitBase c x.res x.cb = none →
        WordIn (exec (.uaddcmt r2 r1 c f t) s) s t x.res false ∨
          ∃ d, Traps (exec (.uaddcmt r2 r1 c f t) s) { s with draws := d } 13) ∧
      ∀ b, unitBase c x.res x.cb = some b →
        (Bool.xor b (isOne f) = false → WordIn (exec (.uaddcmt r2 r1 c f t) s) s t x.res false) ∧
        (Bool.xor b (isOne f) = true → Traps (exec (.uaddcmt r2 r1 c f t) s) s 13)) ∧
  (∀ (res : Word) (cy : BitVec 8),
      unitBase 0#3 res cy = some false ∧
      unitBase 2#3 res cy = some (decide (∃ k : Fin 4, res.toNat / 256 ^ k.val % 256 = 0)) ∧
      unitBase 3#3 res cy = some (decide (∃ k : Fin 2, res.toNat / 65536 ^ k.val % 65536 = 0)) ∧
      unitBase 4#3 res cy = some (decide (∃ i : Fin 8, cy.getLsbD (7 - i.val) = true)) ∧
      unitBase 6#3 res cy = some (decide (∃ k : Fin 4, cy.getLsbD (7 - 2 * k.val) = true)) ∧
      unitBase 7#3 res cy = some (decide (∃ k : Fin 2, cy.getLsbD (7 - 4 * k.val) = true)) ∧
      unitBase 1#3 res cy = none ∧ unitBase 5#3 res cy = none) ∧
  ∀ (cb : BitVec 8) (i : Nat), i < 8 →
    field (sixes cb) (4 * i) 4 = if cb.getLsbD (7 - i) then 6#4 else 0#4

/-! ### Shift, extract, deposit -/

/-- The fields of the shift, extract and deposit instructions as numbers and bits (R603 to R616). A field
that runs past the left edge is extended with zeros or with the sign of the register, and a deposited one
is truncated. -/
def Obligations.FieldOperations : Prop :=
  ∀ (a b : Word) (pos len sa : Nat), pos < 32 → 1 ≤ len → len ≤ 32 → sa < 32 →
    (shiftDouble a b sa).toNat = (a.toNat % 2 ^ 31 * 2 ^ 32 + b.toNat) / 2 ^ sa % 2 ^ 32 ∧
    (extractUnsigned a pos len).toNat = a.toNat / 2 ^ (31 - pos) % 2 ^ len ∧
    (len - 1 ≤ pos →
      (extractSigned a pos len).toInt = Int.bmod (a.toNat / 2 ^ (31 - pos)) (2 ^ len)) ∧
    (pos < len - 1 → (extractSigned a pos len).toInt = a.toInt / 2 ^ (31 - pos)) ∧
    ∀ i, i < 32 → mbit (deposit a b pos len) i =
      if i ≤ pos ∧ pos < i + len then mbit b (31 - (pos - i)) else mbit a i

/-- The shift, extract and deposit instructions whose place is the Shift Amount Register, and SHD: the
result in GR t, nullification by Table 5-7, the flags unchanged (R602 to R606, R609, R611, R613, R615).
The extract and deposit instructions with a place in the instruction (R607, R608, R610, R612, R614,
R616): the field's result where the field lies in the word; a free value in GR t and PSW N where it does
not (R602). The eight conditions of Table 5-7 (R337). The model's choice: a field that leaves the word
gives free values (notes/assumptions/42.md). -/
def Obligations.FieldInstructions : Prop :=
  (∀ (s : State) (r2 r1 t : Reg) (c : BitVec 3) (cp k im : BitVec 5),
      ∀ p ∈ [(Instr.vshd r2 r1 c t, shiftDouble (s.gr r1) (s.gr r2) s.sar.toNat),
          (Instr.shd r2 r1 c cp t, shiftDouble (s.gr r1) (s.gr r2) (31 - cp.toNat)),
          (Instr.vextru r1 t c k, extractUnsigned (s.gr r1) s.sar.toNat (32 - k.toNat)),
          (Instr.vextrs r1 t c k, extractSigned (s.gr r1) s.sar.toNat (32 - k.toNat)),
          (Instr.zvdep t r1 c k, deposit 0#32 (s.gr r1) s.sar.toNat (32 - k.toNat)),
          (Instr.vdep t r1 c k, deposit (s.gr t) (s.gr r1) s.sar.toNat (32 - k.toNat)),
          (Instr.zvdepi t im c k, deposit 0#32 (lowSignExt5 im) s.sar.toNat (32 - k.toNat)),
          (Instr.vdepi t im c k, deposit (s.gr t) (lowSignExt5 im) s.sar.toNat (32 - k.toNat))],
        WordIn (exec p.1 s) s t p.2 (extractCond c p.2)) ∧
  (∀ (s : State) (r t : Reg) (c : BitVec 3) (q cp k im : BitVec 5),
      ∀ p ∈ [(Instr.extru r t c q k, q.toNat, extractUnsigned (s.gr r) q.toNat (32 - k.toNat)),
          (Instr.extrs r t c q k, q.toNat, extractSigned (s.gr r) q.toNat (32 - k.toNat)),
          (Instr.zdep t r c cp k, 31 - cp.toNat,
            deposit 0#32 (s.gr r) (31 - cp.toNat) (32 - k.toNat)),
          (Instr.dep t r c cp k, 31 - cp.toNat,
            deposit (s.gr t) (s.gr r) (31 - cp.toNat) (32 - k.toNat)),
          (Instr.zdepi t im c cp k, 31 - cp.toNat,
            deposit 0#32 (lowSignExt5 im) (31 - cp.toNat) (32 - k.toNat)),
          (Instr.depi t im c cp k, 31 - cp.toNat,
            deposit (s.gr t) (lowSignExt5 im) (31 - cp.toNat) (32 - k.toNat))],
        (31 - k.toNat ≤ p.2.1 → WordIn (exec p.1 s) s t p.2.2 (extractCond c p.2.2)) ∧
        (p.2.1 < 31 - k.toNat → ∃ v n, WordIn (exec p.1 s) s t v n)) ∧
  ∀ res : Word,
    extractCond 0#3 res = false ∧ (extractCond 1#3 res = true ↔ res.toNat = 0) ∧
    (extractCond 2#3 res = true ↔ res.toInt < 0) ∧ (extractCond 3#3 res = true ↔ res.toNat % 2 = 1) ∧
    extractCond 4#3 res = true ∧ (extractCond 5#3 res = true ↔ res.toNat ≠ 0) ∧
    (extractCond 6#3 res = true ↔ 0 ≤ res.toInt) ∧ (extractCond 7#3 res = true ↔ res.toNat % 2 = 0)

/-! ### Immediates -/

/-- `low_sign_ext` and the displacements of branches as signed numbers (R311 to R313), the number of a space
register (R314), and the long immediate bit by bit, its low 11 bits 0 (R315). LDO, LDIL and ADDIL with
these immediates (R471 to R473). -/
def Obligations.Immediates : Prop :=
  ((∀ x : BitVec 5, (lowSignExt5 x).toInt = (x.toNat / 2 : Nat) - (if x.getLsbD 0 then 16 else 0)) ∧
    (∀ x : BitVec 11,
      (lowSignExt11 x).toInt = (x.toNat / 2 : Nat) - (if x.getLsbD 0 then 1024 else 0)) ∧
    (∀ x : BitVec 14,
      (lowSignExt14 x).toInt = (x.toNat / 2 : Nat) - (if x.getLsbD 0 then 8192 else 0)) ∧
    (∀ (w1 : BitVec 11) (w : BitVec 1), (branchDisp12 w1 w).toInt =
      4 * ((w1.toNat % 2 * 1024 + w1.toNat / 2 : Nat) - (if w = 1#1 then 2048 else 0))) ∧
    (∀ (w1 : BitVec 5) (w2 : BitVec 11) (w : BitVec 1), (branchDisp17 w1 w2 w).toInt =
      4 * ((w1.toNat * 2048 + w2.toNat % 2 * 1024 + w2.toNat / 2 : Nat)
        - (if w = 1#1 then 65536 else 0)))) ∧
  (∀ x : BitVec 3, (assemble3 x).toNat = x.toNat % 2 * 4 + x.toNat / 2) ∧
  (∀ (x : BitVec 21) (i : Nat), i < 32 → mbit (longImm21 x) i =
    if i = 0 then x.getLsbD 0
    else if i ≤ 11 then x.getLsbD (20 - (i + 8))
    else if i ≤ 13 then x.getLsbD (20 - (i - 7))
    else if i ≤ 18 then x.getLsbD (20 - (i - 14))
    else if i ≤ 20 then x.getLsbD (20 - (i - 12))
    else false) ∧
  (∀ (s : State) (b t : Reg) (i : BitVec 14) (j : BitVec 21),
      Writes (exec (.ldo b t i) s) s s [(t, s.gr b + lowSignExt14 i)] ∧
      Writes (exec (.ldil t j) s) s s [(t, longImm21 j)] ∧
      Writes (exec (.addil b j) s) s s [(1#5, s.gr b + longImm21 j)] ∧
      longImm21 j &&& 0x7FF#32 = 0#32)

/-! ### Branches -/

/-- BL, BLR, BV and GATE with PSW B = 0 (R484 to R487): the target, the link in GR t, nullification by
n; GATE with PSW B = 1 takes the illegal instruction trap. BE and BLE (R488, R489): base relative in the
space of the space register named (with virtual addressing of code; a free value while PSW C = 0; none
in Level 0); BLE links in GR 31 and SR 0. The model's choice: the space after BE and BLE while PSW C = 0
is a free value, and the delay slot of GATE keeps its level (notes/assumptions/35.md and
notes/assumptions/37.md). -/
def Obligations.UnconditionalBranches : Prop :=
  (∀ (s : State) (t b x : Reg) (w1 : BitVec 5) (w2 : BitVec 11) (n w : BitVec 1),
      Jumps (exec (.bl t w1 w2 n w) s) s s [(t, s.iaoqBack + 4#32)] (isOne n)
        ⟨s.iaoqFront + branchDisp17 w1 w2 w + 8#32, none⟩ ∧
      Jumps (exec (.blr t x n) s) s s [(t, s.iaoqBack + 4#32)] (isOne n)
        ⟨s.iaoqFront + (s.gr x <<< 3) + 8#32, none⟩ ∧
      Jumps (exec (.bv b x n) s) s s [] (isOne n) ⟨s.baseRelative (s.gr b) (s.gr x <<< 3), none⟩ ∧
      (s.pswB = false →
        Jumps (exec (.gate t w1 w2 n w) s) s s [(t, field (s.gr t) 0 30 ++ s.priv)] (isOne n)
          ⟨field (s.iaoqFront + branchDisp17 w1 w2 w + 8#32) 0 30 ++ gatePriv s, none⟩) ∧
      (s.pswB = true → Traps (exec (.gate t w1 w2 n w) s) s 8)) ∧
  (∀ (s : State) (b : Reg) (w1 : BitVec 5) (p : BitVec 3) (w2 : BitVec 11) (n w : BitVec 1),
      (s.pswC = true →
        Jumps (exec (.be b w1 p w2 n w) s) s s [] (isOne n)
          ⟨s.baseRelative (s.gr b) (branchDisp17 w1 w2 w), some (s.sr (assemble3 p))⟩ ∧
        Jumps (exec (.ble b w1 p w2 n w) s) s (s.setSr 0#3 s.iasqBack) [(31#5, s.iaoqBack + 4#32)]
          (isOne n)
          ⟨s.baseRelative (s.gr b) (branchDisp17 w1 w2 w), some (s.sr (assemble3 p))⟩) ∧
      (s.pswC = false →
        ∃ v x, (s.level0 = true → x = none) ∧
          Jumps (exec (.be b w1 p w2 n w) s) s s [] (isOne n)
            ⟨s.baseRelative (s.gr b) (branchDisp17 w1 w2 w), x⟩ ∧
          Jumps (exec (.ble b w1 p w2 n w) s) s (s.setSr 0#3 v) [(31#5, s.iaoqBack + 4#32)] (isOne n)
            ⟨s.baseRelative (s.gr b) (branchDisp17 w1 w2 w), x⟩))

/-- A base relative target keeps the word part of the sum and never gains privilege; a gateway's target
never loses it (R483, R485). -/
def Obligations.BranchPrivilege : Prop :=
  ∀ (s : State) (base index : Word),
    (privOf (s.baseRelative base index)).toNat = max s.priv.toNat (privOf base).toNat ∧
    field (s.baseRelative base index) 0 30 = field (base + index) 0 30 ∧
    (gatePriv s).toNat ≤ s.priv.toNat ∧ (s.pswC = false → gatePriv s = 0#2) ∧
    (s.pswC = true → ∀ e, tlbValid s.cfg (s.tlb true) s.iasqFront (vpnOf s.fetchOffset) = some e →
      (gatePriv s).toNat =
        if 4 ≤ (arType e).toNat then min ((arType e).toNat - 4) s.priv.toNat else s.priv.toNat)

/-- The conditional branches (R491, R494, R500 to R509): what is written, whether the branch is taken,
where it goes, and what n nullifies: a backward branch's successor when it is not taken, a forward
branch's when it is. BB and BVB (R510, R511): branch on bit p, or on the bit that the Shift Amount
Register names; with a condition code that the page does not list, whether the branch is taken is a free
value (U36). The model's choice: a condition code of BB and BVB that the page does not list is a free
value (notes/assumptions/41.md). -/
def Obligations.ConditionalBranches : Prop :=
  (∀ (s : State) (r2 r1 : Reg) (c : BitVec 3) (w1 : BitVec 11) (n w : BitVec 1) (i : BitVec 5),
      let sum := adder (s.gr r1) (s.gr r2) false
      let sumI := adder (lowSignExt5 i) (s.gr r1) false
      ∀ p ∈ [(Instr.movb r2 r1 c w1 n w, extractCond c (s.gr r1), [(r2, s.gr r1)]),
          (Instr.movib r1 i c w1 n w, extractCond c (lowSignExt5 i), [(r1, lowSignExt5 i)]),
          (Instr.combt r2 r1 c w1 n w, arithBase c (subtract (s.gr r1) (s.gr r2)), []),
          (Instr.combf r2 r1 c w1 n w, !arithBase c (subtract (s.gr r1) (s.gr r2)), []),
          (Instr.comibt r1 i c w1 n w, arithBase c (subtract (lowSignExt5 i) (s.gr r1)), []),
          (Instr.comibf r1 i c w1 n w, !arithBase c (subtract (lowSignExt5 i) (s.gr r1)), []),
          (Instr.addbt r2 r1 c w1 n w, arithBase c sum, [(r2, sum.res)]),
          (Instr.addbf r2 r1 c w1 n w, !arithBase c sum, [(r2, sum.res)]),
          (Instr.addibt r1 i c w1 n w, arithBase c sumI, [(r1, sumI.res)]),
          (Instr.addibf r1 i c w1 n w, !arithBase c sumI, [(r1, sumI.res)])],
        ∃ u, Completes (exec p.1 s) s s u p.2.2
          (isOne n && (if (branchDisp12 w1 w).toInt < 0 then !p.2.1 else p.2.1))
          (if p.2.1 then some ⟨s.iaoqFront + branchDisp12 w1 w + 8#32, none⟩ else none)
          s.pswCB s.pswV) ∧
  (∀ (s : State) (r : Reg) (q : BitVec 5) (c : BitVec 3) (w1 : BitVec 11) (n w : BitVec 1),
      ∀ p ∈ [(Instr.bb q r c w1 n w, mbit (s.gr r) q.toNat),
          (Instr.bvb r c w1 n w, mbit (s.gr r) s.sar.toNat)],
        ∃ taken u, Completes (exec p.1 s) s s u []
            (isOne n && (if (branchDisp12 w1 w).toInt < 0 then !taken else taken))
            (if taken then some ⟨s.iaoqFront + branchDisp12 w1 w + 8#32, none⟩ else none)
            s.pswCB s.pswV ∧
          (c = 2#3 → taken = p.2) ∧ (c = 6#3 → taken = !p.2))

/-! ### Memory -/

/-- A byte, halfword, word or doubleword stored in either byte order reads back, and no byte outside it
changes (R161, R164). The bytes of a datum as they lie in memory: big endian has the most significant
byte first, little endian last; the swap of a doubleword covers all eight bytes (R164). -/
def Obligations.StoredDataReadsBack : Prop :=
  (∀ (m : Memory) (a : Nat) (le : Bool), m.wf = true →
      (∀ v : Byte, (m.setBytes a [v]).byteAt a = v) ∧
      (∀ v : BitVec 16, (m.setBytes a (halfBytes le v)).half le a = v) ∧
      (∀ v : Word, (m.setBytes a (wordBytes le v)).word le a = v) ∧
      (∀ v : Dword, (m.setBytes a (dwordBytes le v)).dword le a = v) ∧
      ∀ (b : Byte) (h : BitVec 16) (w : Word) (d : Dword),
        ∀ p ∈ [(1, [b]), (2, halfBytes le h), (4, wordBytes le w), (8, dwordBytes le d)],
          ∀ k, k < a ∨ a + p.1 ≤ k → (m.setBytes a p.2).byteAt k = m.byteAt k) ∧
  (∀ (v : Dword) (h : BitVec 16) (i : Nat), i < 8 →
      (dwordBytes false v)[i]? = some (v.extractLsb' (8 * (7 - i)) 8) ∧
      (dwordBytes true v)[i]? = some (v.extractLsb' (8 * i) 8) ∧
      (i < 4 → (wordBytes false (v.setWidth 32))[i]? = some (v.extractLsb' (8 * (3 - i)) 8) ∧
        (wordBytes true (v.setWidth 32))[i]? = some (v.extractLsb' (8 * i) 8)) ∧
      (i < 2 → (halfBytes false h)[i]? = some (h.extractLsb' (8 * (1 - i)) 8) ∧
        (halfBytes true h)[i]? = some (h.extractLsb' (8 * i) 8)))

/-- An absolute data reference (R168, R403): aligned, with no data breakpoint, backed and outside the
I/O address space it reaches its offset as the address and changes nothing; a breakpoint is trap 31, and
one whose offset and mask overlap is undefined (R890, U32); an unaligned one stops, traps, or goes on at the
truncated address (D18), and what the I/O address space and unbacked memory do is a stop (R251, D17). The
model's choice: how far an unaligned address is truncated, and that the breakpoints are compared with the
address before (notes/assumptions/47.md); what the I/O address space and unbacked memory do
(notes/assumptions/46.md); that an undefined breakpoint is refused (notes/assumptions/48.md). -/
def Obligations.AbsoluteReferences : Prop :=
  ∀ (s : State) (ref : DataRef) (space offset : Word), s.isVirtual ref = false →
    let goesOnAt (a : Word) : Prop :=
      (s.dataBreakpoint ref.kind offset = .hit → s.dataCheck ref space offset = .trap 31) ∧
      (s.dataBreakpoint ref.kind offset = .undefined →
        s.dataCheck ref space offset = .refused .debugMask) ∧
      (s.dataBreakpoint ref.kind offset = .none →
        (isIo a = false → backed s.cfg a.toNat ref.size = true →
          s.dataCheck ref space offset = .ok (s, a.toNat)) ∧
        (isIo a = false → backed s.cfg a.toNat ref.size = false →
          s.dataCheck ref space offset = .fault .unbackedMemory) ∧
        (isIo a = true → ref.copr = true → s.dataCheck ref space offset = .refused .coprocessorIo) ∧
        (isIo a = true → ref.copr = false →
          s.dataCheck ref space offset =
            .refused (if ref.kind = .semaphore then .uncacheable else .ioSpace)))
    (offset.toNat % ref.align = 0 → goesOnAt offset) ∧
    (offset.toNat % ref.align ≠ 0 →
      (s.cfg.unalignedAbs = .refuse → s.dataCheck ref space offset = .refused .unaligned) ∧
      (s.cfg.unalignedAbs = .trap28 → s.dataCheck ref space offset = .trap 28) ∧
      (s.cfg.unalignedAbs = .truncate →
        goesOnAt (BitVec.ofNat 32 (offset.toNat / ref.align * ref.align))))

/-- A virtual load, store or semaphore operation, its interruptions in the order of R212, and the address
it reaches (R180). A semaphore operation needs the rights to read and to write (R207, R425) and a page
that may be cached (R251); unaligned, it is undefined (R425, U37), where a load or a store takes trap 28.
A reference to another page than that of the translation relied upon ends the reliance, and an
interruption 18 to 22 or 26 to 28 begins one on its own page (R201). The model's choice: what is undefined
is refused, an unaligned semaphore operation after 15, 26 and 27 and ahead of 19, 20 and 21
(notes/assumptions/47.md). -/
def Obligations.VirtualReferences : Prop :=
  (∀ (s : State) (ref : DataRef) (space offset : Word), s.isVirtual ref = true →
    let v := s.keepRelied space offset
    (v.translate false space offset = none → s.dataCheck ref space offset = .trap 15) ∧
    ∀ e s', v.translate false space offset = some (e, s') →
      (rightsOk e ref.kind s.priv.toNat = false → s.dataCheck ref space offset = .trap 26) ∧
      (rightsOk e ref.kind s.priv.toNat = true →
        (s.pswP = true → s.pidCheck e (ref.kind != .load) = false →
          s.dataCheck ref space offset = .trap 27) ∧
        ((s.pswP = true → s.pidCheck e (ref.kind != .load) = true) →
          (offset.toNat % ref.align ≠ 0 → ref.kind ≠ .semaphore →
            s.dataCheck ref space offset = .trap 28) ∧
          (offset.toNat % ref.align ≠ 0 → ref.kind = .semaphore → s.cfg.unalignedAbs = .refuse →
            s.dataCheck ref space offset = .refused .unaligned) ∧
          (offset.toNat % ref.align = 0 →
            (ref.kind ≠ .load → e.b = true → s.pswX = false →
              s.dataCheck ref space offset = .trap 19) ∧
            ((ref.kind ≠ .load → e.b = false ∨ s.pswX = true) →
              (ref.kind ≠ .load → e.d = false → s.dataCheck ref space offset = .trap 20) ∧
              ((ref.kind ≠ .load → e.d = true) →
                (e.t = true → s.dataCheck ref space offset = .trap 21) ∧
                (e.t = false → isIo (absoluteOf e offset) = false →
                  (ref.kind = .semaphore → s.cfg.hasTlbU = true → e.u = true →
                    s.dataCheck ref space offset = .refused .uncacheable) ∧
                  ((ref.kind = .semaphore → s.cfg.hasTlbU = false ∨ e.u = false) →
                    backed s.cfg (absoluteOf e offset).toNat ref.size = true →
                    s.dataCheck ref space offset = .ok (s', (absoluteOf e offset).toNat))))))))) ∧
  (∀ (e : TlbEntry) (pl : Nat),
    (rightsOk e .load pl = true ↔ readAllowed e pl = true) ∧
    (rightsOk e .store pl = true ↔ writeAllowed e pl = true) ∧
    (rightsOk e .semaphore pl = true ↔ readAllowed e pl = true ∧ writeAllowed e pl = true)) ∧
  ∀ (s : State) (ref : DataRef) (space offset : Word) (n : Nat),
    let v := s.keepRelied space offset
    (s.relied = none → v = s) ∧
    (∀ sp vpn, s.relied = some (sp, vpn) →
      (sp &&& spaceMask s.cfg = space &&& spaceMask s.cfg → vpn = vpnOf offset → v = s) ∧
      (sp &&& spaceMask s.cfg ≠ space &&& spaceMask s.cfg ∨ vpn ≠ vpnOf offset →
        v = { s with relied := none })) ∧
    (s.isVirtual ref = true →
      (s.referenceWalked n ref space offset).relied =
        if n ∈ [18, 19, 20, 21, 22, 26, 27, 28] then some (space, vpnOf offset) else v.relied)

/-- Table 3-1 of the access rights (R209) and the protection identifiers (R208): a page whose access ID is 0
is public; another one may be accessed when one of the four protection identifiers matches its access ID,
with write disable 0 for a write. They match when the implemented bits of the identifier and of the access
ID are equal. -/
def Obligations.AccessRights : Prop :=
  ∀ (s : State) (e : TlbEntry) (pl : BitVec 2),
    let p1 := (e.accessRights.extractLsb' 2 2 : BitVec 2).toNat
    let p2 := (e.accessRights.extractLsb' 0 2 : BitVec 2).toNat
    let ty := (e.accessRights.extractLsb' 4 3 : BitVec 3).toNat
    (readAllowed e pl.toNat = true ↔ ty ≤ 3 ∧ pl.toNat ≤ p1) ∧
    (writeAllowed e pl.toNat = true ↔ (ty = 1 ∨ ty = 3) ∧ pl.toNat ≤ p2) ∧
    (executeAllowed e pl.toNat = true ↔ 2 ≤ ty ∧ p2 ≤ pl.toNat ∧ pl.toNat ≤ p1) ∧
    (e.accessId = 0#18 → ∀ write, s.pidCheck e write = true) ∧
    (∀ write, s.pidCheck e write = true ↔
      e.accessId.toNat % 2 ^ (15 + s.cfg.pidExtra.val) = 0 ∨
        ∃ pid ∈ [s.pid1, s.pid2, s.pid3, s.pid4],
          pidMatches s.cfg pid e.accessId = true ∧ (write = true → mbit pid 31 = false)) ∧
    ∀ (c : Config) (pid : Word) (id : BitVec 18), pidMatches c pid id = true ↔
      pid.toNat / 2 % 2 ^ (15 + c.pidExtra.val) = id.toNat % 2 ^ (15 + c.pidExtra.val)

/-- The address forms (R170, R405 to R407): the space register, the offset, the new base. That of STBYS has
the offset of the short displacement and leaves the address of a word in the base register (R408, R432). -/
def Obligations.AddressForms : Prop :=
  ∀ (s : State) (b x : Reg) (sf : BitVec 2) (i14 : BitVec 14) (i5 : BitVec 5) (u m a : BitVec 1)
    (k : Nat),
    let index := if u = 1#1 then s.gr x <<< k else s.gr x
    (∀ base : Word, sf ≠ 0#2 → s.space sf base = s.sr (sf.setWidth 3)) ∧
    (∀ base : Word, s.space 0#2 base = s.sr (BitVec.ofNat 3 (4 + base.toNat / 2 ^ 30))) ∧
    longEa s b sf i14 = ⟨s.space sf (s.gr b), s.gr b + lowSignExt14 i14, none⟩ ∧
    longModifyEa s b sf i14 = ⟨s.space sf (s.gr b),
      if (lowSignExt14 i14).toInt < 0 then s.gr b + lowSignExt14 i14 else s.gr b,
      some (s.gr b + lowSignExt14 i14)⟩ ∧
    indexedEa s b x sf u m k = ⟨s.space sf (s.gr b), if m = 1#1 then s.gr b else s.gr b + index,
      if m = 1#1 then some (s.gr b + index) else none⟩ ∧
    shortEa s b i5 sf a m = ⟨s.space sf (s.gr b),
      if m = 1#1 ∧ a = 0#1 then s.gr b else s.gr b + lowSignExt5 i5,
      if m = 1#1 then some (s.gr b + lowSignExt5 i5) else none⟩ ∧
    bytesEa s b i5 sf a m = ⟨s.space sf (s.gr b),
      if m = 1#1 ∧ a = 0#1 then s.gr b else s.gr b + lowSignExt5 i5,
      if m = 1#1 then some (BitVec.ofNat 32 ((s.gr b + lowSignExt5 i5).toNat / 4 * 4)) else none⟩

/-- The loads (R412 to R414, R418, R420 to R422, R426 to R428): when the reference passes its checks, the
zero-extended datum at the address goes to GR t, the base register is modified, and no byte of memory
changes; an interrupted reference has no effect but its interruption, with the address in ISR and IOR
(R410, R920, R933). The model's choice: ISR of a reference that is not translated is a free value
(notes/assumptions/33.md). -/
def Obligations.LoadInstructions : Prop :=
  ∀ (s s' : State) (addr : Nat) (b x t : Reg) (sf : BitVec 2) (i14 : BitVec 14) (i5 : BitVec 5)
    (u m a : BitVec 1) (cc : BitVec 2),
    ∀ p ∈ [(Instr.ldw b t sf i14, 4, longEa s b sf i14, s'.loadWord addr),
        (Instr.ldh b t sf i14, 2, longEa s b sf i14, s'.loadHalf addr),
        (Instr.ldb b t sf i14, 1, longEa s b sf i14, s'.loadByte addr),
        (Instr.ldwm b t sf i14, 4, longModifyEa s b sf i14, s'.loadWord addr),
        (Instr.ldwx b x sf u cc m t, 4, indexedEa s b x sf u m 2, s'.loadWord addr),
        (Instr.ldhx b x sf u cc m t, 2, indexedEa s b x sf u m 1, s'.loadHalf addr),
        (Instr.ldbx b x sf u cc m t, 1, indexedEa s b x sf u m 0, s'.loadByte addr),
        (Instr.ldws b i5 sf a cc m t, 4, shortEa s b i5 sf a m, s'.loadWord addr),
        (Instr.ldhs b i5 sf a cc m t, 2, shortEa s b i5 sf a m, s'.loadHalf addr),
        (Instr.ldbs b i5 sf a cc m t, 1, shortEa s b i5 sf a m, s'.loadByte addr)],
      (s.dataCheck ⟨.load, p.2.1, p.2.1, false, false⟩ p.2.2.1.space p.2.2.1.offset = .ok (s', addr) →
        Loads (exec p.1 s) s s' b t p.2.2.1.base p.2.2.2) ∧
      ∀ n, s.dataCheck ⟨.load, p.2.1, p.2.1, false, false⟩ p.2.2.1.space p.2.2.1.offset = .trap n →
        TrapsRef (exec p.1 s) s n ⟨.load, p.2.1, p.2.1, false, false⟩ p.2.2.1.space p.2.2.1.offset
          p.2.2.1.offset

/-- The stores (R415 to R417, R419, R431, R433, R434): when the reference passes its checks, the low part
of GR r is stored at the address in the byte order of PSW E, the base register is modified, and every
other byte of memory is unchanged; an interrupted reference has no effect but its interruption (R920,
R933). The model's choice: ISR of a reference that is not translated is a free value
(notes/assumptions/33.md). -/
def Obligations.StoreInstructions : Prop :=
  ∀ (s s' : State) (addr : Nat) (b r : Reg) (sf : BitVec 2) (i14 : BitVec 14) (i5 : BitVec 5)
    (m a : BitVec 1) (cc : BitVec 2), s.mem.wf = true →
    ∀ p ∈ [(Instr.stw b r sf i14, 4, longEa s b sf i14, wordBytes s.pswE (s.gr r)),
        (Instr.sth b r sf i14, 2, longEa s b sf i14, halfBytes s.pswE ((s.gr r).setWidth 16)),
        (Instr.stb b r sf i14, 1, longEa s b sf i14, [(s.gr r).setWidth 8]),
        (Instr.stwm b r sf i14, 4, longModifyEa s b sf i14, wordBytes s.pswE (s.gr r)),
        (Instr.stws b r sf a cc m i5, 4, shortEa s b i5 sf a m, wordBytes s.pswE (s.gr r)),
        (Instr.sths b r sf a cc m i5, 2, shortEa s b i5 sf a m,
          halfBytes s.pswE ((s.gr r).setWidth 16)),
        (Instr.stbs b r sf a cc m i5, 1, shortEa s b i5 sf a m, [(s.gr r).setWidth 8])],
      (s.dataCheck ⟨.store, p.2.1, p.2.1, false, false⟩ p.2.2.1.space p.2.2.1.offset = .ok (s', addr) →
        Stores (exec p.1 s) s s' b p.2.2.1.base addr p.2.2.2) ∧
      ∀ n, s.dataCheck ⟨.store, p.2.1, p.2.1, false, false⟩ p.2.2.1.space p.2.2.1.offset = .trap n →
        TrapsRef (exec p.1 s) s n ⟨.store, p.2.1, p.2.1, false, false⟩ p.2.2.1.space p.2.2.1.offset
          p.2.2.1.offset

/-- LDWAX, LDWAS and STWAS at privilege level 0 (R409, R423, R429, R435): absolute whatever PSW D is; an
interrupted reference has no effect but its interruption (R920). The model's choice: ISR is then a free
value (notes/assumptions/33.md). -/
def Obligations.AbsoluteInstructions : Prop :=
  ∀ (s s' : State) (addr : Nat) (b x t : Reg) (i5 : BitVec 5) (u m a : BitVec 1) (cc : BitVec 2),
    s.priv = 0#2 →
    (∀ k space offset, s.dataCheck ⟨k, 4, 4, true, false⟩ space offset =
      absoluteCheck s ⟨k, 4, 4, true, false⟩ offset) ∧
    ∀ ex es, ex = indexedEa s b x 0#2 u m 2 → es = shortEa s b i5 0#2 a m →
      (s.dataCheck ⟨.load, 4, 4, true, false⟩ ex.space ex.offset = .ok (s', addr) →
        Loads (exec (.ldwax b x u cc m t) s) s s' b t ex.base (s'.loadWord addr)) ∧
      (s.dataCheck ⟨.load, 4, 4, true, false⟩ es.space es.offset = .ok (s', addr) →
        Loads (exec (.ldwas b i5 a cc m t) s) s s' b t es.base (s'.loadWord addr)) ∧
      (s.mem.wf = true → s.dataCheck ⟨.store, 4, 4, true, false⟩ es.space es.offset = .ok (s', addr) →
        Stores (exec (.stwas b t a cc m i5) s) s s' b es.base addr (wordBytes s.pswE (s.gr t))) ∧
      ∀ n, ∀ p ∈ [(Instr.ldwax b x u cc m t, DataRef.mk .load 4 4 true false, ex),
          (Instr.ldwas b i5 a cc m t, DataRef.mk .load 4 4 true false, es),
          (Instr.stwas b t a cc m i5, DataRef.mk .store 4 4 true false, es)],
        s.dataCheck p.2.1 p.2.2.space p.2.2.offset = .trap n →
        TrapsRef (exec p.1 s) s n p.2.1 p.2.2.space p.2.2.offset p.2.2.offset

/-- LDCWX and LDCWS (R424, R425, R430): the word at the address goes to GR t and is cleared in memory.
STBYS (R432): with `k` the byte position in the word, the beginning case stores bytes `k..3` of the word
that a store word would store, the ending case bytes `0..k-1`; the base becomes a word address. An
interrupted reference has no effect but its interruption (R920); for STBYS it reports the whole offset.
The model's choice: STBYS is checked as a store of the whole word (notes/assumptions/36.md), and ISR of a
reference that is not translated is a free value (notes/assumptions/33.md). -/
def Obligations.SemaphoresAndStoreBytes : Prop :=
  (∀ (s s' : State) (addr : Nat) (b x t : Reg) (sf : BitVec 2) (i5 : BitVec 5) (u m a : BitVec 1)
      (cc : BitVec 2), s.mem.wf = true →
      ∀ p ∈ [(Instr.ldcwx b x sf u cc m t, indexedEa s b x sf u m 3),
          (Instr.ldcws b i5 sf a cc m t, shortEa s b i5 sf a m)],
        let ref : DataRef := ⟨.semaphore, 4, 16, false, false⟩
        (s.dataCheck ref p.2.space p.2.offset = .ok (s', addr) →
          ∃ w, Completes (exec p.1 s) s { s' with mem := w.mem } w
              ((t, s.mem.word s.pswE addr) :: (p.2.base.map fun v => (b, v)).toList) false none
              s.pswCB s.pswV ∧
            StoresAt s w addr [0#8, 0#8, 0#8, 0#8]) ∧
        ∀ n, s.dataCheck ref p.2.space p.2.offset = .trap n →
          TrapsRef (exec p.1 s) s n ref p.2.space p.2.offset p.2.offset) ∧
  (∀ (s s' : State) (addr : Nat) (b r : Reg) (sf : BitVec 2) (i5 : BitVec 5) (m a : BitVec 1)
      (cc : BitVec 2), s.mem.wf = true →
      let offset := if m = 1#1 ∧ a = 0#1 then s.gr b else s.gr b + lowSignExt5 i5
      let base := if m = 1#1 then some ((s.gr b + lowSignExt5 i5) &&& 0xFFFFFFFC#32) else none
      let k := offset.toNat % 4
      let ref : DataRef := ⟨.store, 4, 4, false, false⟩
      (s.dataCheck ref (s.space sf (s.gr b)) (offset &&& 0xFFFFFFFC#32) = .ok (s', addr) →
        (a = 0#1 → Stores (exec (.stbys b r sf a cc m i5) s) s s' b base (addr + k)
          ((wordBytes s.pswE (s.gr r)).drop k)) ∧
        (a = 1#1 → Stores (exec (.stbys b r sf a cc m i5) s) s s' b base addr
          ((wordBytes s.pswE (s.gr r)).take k))) ∧
      ∀ n, s.dataCheck ref (s.space sf (s.gr b)) (offset &&& 0xFFFFFFFC#32) = .trap n →
        TrapsRef (exec (.stbys b r sf a cc m i5) s) s n ref (s.space sf (s.gr b))
          (offset &&& 0xFFFFFFFC#32) offset)

/-! ### System control -/

/-- SSM, RSM and MTSM at privilege level 0 (R72, R634 to R636): the old mask in GR t, the new one in the
PSW. SSM and MTSM may not set Q, and the ones that they write to reserved bits are undefined (U1, U17); RSM
has no undefined case. Clearing Q makes the interruption registers free values (U16). The model's choice:
what is undefined is refused, and what counts as a one written (notes/assumptions/40.md). -/
def Obligations.SystemMask : Prop :=
  ∀ (s : State) (i : BitVec 7) (t : Reg), s.priv = 0#2 →
    let old : BitVec 7 := field s.psw 25 7
    let new : BitVec 7 := field (s.gr t) 25 7
    (∀ p ∈ [(Instr.ssm i t, old ||| i, i, [(t, zeroExt old)]), (Instr.mtsm t, new, new, [])],
      let psw := setField s.psw 25 7 p.2.1
      (s.pswQ = false → mbit psw 28 = true → exec p.1 s = .refused .setsQ) ∧
      ((s.pswQ = false → mbit psw 28 = false) →
        ((∃ k, k < 7 ∧ p.2.2.1.getLsbD k = true ∧ (pswReserved s.cfg).getLsbD k = true) →
          exec p.1 s = .refused .reservedBits) ∧
        ((∀ k, k < 7 → p.2.2.1.getLsbD k = true → (pswReserved s.cfg).getLsbD k = false) →
          (s.pswQ = mbit psw 28 → Writes (exec p.1 s) s { s with psw := psw } p.2.2.2) ∧
          (s.pswQ = true → mbit psw 28 = false →
            Writes (exec p.1 s) s { s with psw := psw }.loseInterruptionState p.2.2.2)))) ∧
    let psw := setField s.psw 25 7 (old &&& ~~~i)
    ((s.pswQ = true → mbit psw 28 = true) →
      Writes (exec (.rsm i t) s) s { s with psw := psw } [(t, zeroExt old)]) ∧
    (s.pswQ = true → mbit psw 28 = false →
      Writes (exec (.rsm i t) s) s { s with psw := psw }.loseInterruptionState [(t, zeroExt old)])

/-- LDSID, MFSP and MTSP (R639 to R641): SRs 5, 6 and 7 are written at privilege level 0 only, elsewhere
the privileged register trap (11) (R47); in Level 0 the space registers read as zero and a write is null.
The model's choice: at Levels 1 and 1.5 a space register keeps all 32 bits (notes/assumptions/49.md). -/
def Obligations.SpaceRegisterMoves : Prop :=
  ∀ (s : State) (b t : Reg) (sf : BitVec 2) (p : BitVec 3),
    Writes (exec (.ldsid b sf t) s) s s [(t, s.space sf (s.gr b))] ∧
    Writes (exec (.mfsp p t) s) s s [(t, s.sr (assemble3 p))] ∧
    (s.level0 = true → Writes (exec (.mtsp b p) s) s s [] ∧ s.sr (assemble3 p) = 0#32) ∧
    (s.level0 = false →
      (5 ≤ (assemble3 p).toNat → s.priv ≠ 0#2 → Traps (exec (.mtsp b p) s) s 11) ∧
      ((assemble3 p).toNat < 5 ∨ s.priv = 0#2 →
        Writes (exec (.mtsp b p) s) s (s.setSr (assemble3 p) (s.gr b)) []) ∧
      ∀ v : Word, (∀ q, q ≠ p → (s.setSr p v).sr q = s.sr q) ∧
        ((s.setSr p v).sr p).setWidth 16 = v.setWidth 16 ∧
        (s.cfg.level = .l15 → ((s.setSr p v).sr p).setWidth 24 = v.setWidth 24) ∧
        (s.cfg.level = .l2 → (s.setSr p v).sr p = v))

/-- MTCTL (R642) and MFCTL (R644): in Level 0 a register that it lacks is written with no effect and reads
as 0; outside privilege level 0 the privileged register trap, but for CR 11, and for a read of CR 26, CR 27
and an interval timer that PSW S leaves readable; then an undefined write is refused and an undefined read
gives a free value (U18); otherwise the register is written or read. The model's choice: the privilege test
comes before CRs 1 to 7, as U18 rules (notes/assumptions/39.md), and a write of CR 14 or CR 22 with ones in
reserved bits is refused (notes/assumptions/40.md). -/
def Obligations.ControlRegisterMoves : Prop :=
  (∀ (s : State) (t r : Reg),
      let undefined := (1#5 ≤ t ∧ t ≤ 7#5) ∨ t = 0#5 ∧ s.pswR = true ∨
        (t = 17#5 ∨ t = 18#5 ∨ t = 22#5) ∧ s.pswQ = true ∨ (19#5 ≤ t ∧ t ≤ 21#5)
      let reserved := t = 14#5 ∧ s.gr r &&& 0x7FF#32 ≠ 0#32 ∨
        t = 22#5 ∧ s.gr r &&& pswReserved s.cfg ≠ 0#32
      (s.level0 = true → absentInLevel0 t.toNat = true → Writes (exec (.mtctl t r) s) s s []) ∧
      ((s.level0 = true → absentInLevel0 t.toNat = false) →
        (t ≠ 11#5 → s.priv ≠ 0#2 → Traps (exec (.mtctl t r) s) s 11) ∧
        (t = 11#5 ∨ s.priv = 0#2 →
          (undefined → exec (.mtctl t r) s = .refused .controlRegisterWrite) ∧
          (¬ undefined → reserved → exec (.mtctl t r) s = .refused .reservedBits) ∧
          (¬ undefined → ¬ reserved →
            Writes (exec (.mtctl t r) s) s (s.setCr t.toNat (s.gr r)) [])))) ∧
  (∀ (s : State) (r t : Reg),
      let readable := r = 11#5 ∨ r = 26#5 ∨ r = 27#5 ∨ r = 16#5 ∧ s.pswS = false
      let undefined := (1#5 ≤ r ∧ r ≤ 7#5) ∨ (17#5 ≤ r ∧ r ≤ 22#5) ∧ s.pswQ = true ∨
        r = 0#5 ∧ s.pswR = true
      (s.level0 = true → absentInLevel0 r.toNat = true →
        Writes (exec (.mfctl r t) s) s s [(t, 0#32)]) ∧
      ((s.level0 = true → absentInLevel0 r.toNat = false) →
        (s.priv ≠ 0#2 → ¬ readable → Traps (exec (.mfctl r t) s) s 11) ∧
        (s.priv = 0#2 ∨ readable →
          (undefined → ∃ v, Writes (exec (.mfctl r t) s) s s [(t, v)]) ∧
          (¬ undefined → Writes (exec (.mfctl r t) s) s s [(t, s.cr r.toNat)]))))

/-- What a control register reads as after it is written (R86 to R98): all 32 bits, but for the
protection identifiers, CR 10, CR 11, CR 16 (the comparator is written, the counter read), CRs 17 and 18
(a queue: the second write is read at the back) and CR 23 (ones clear bits); no other register changes.
The model's choice: what CR 10 and the protection identifiers keep (notes/assumptions/38.md), that CR 17
keeps all 32 bits at every level, and that the absent bits of CR 11 read as 0 (notes/assumptions/49.md). -/
def Obligations.ControlRegistersReadBack : Prop :=
  ∀ (s : State) (n k : Nat) (v w : Word), n < 32 → k < 32 →
    (n ∈ [0, 14, 15, 22, 24, 25, 26, 27, 28, 29, 30, 31] → (s.setCr n v).cr n = v) ∧
    (n ∈ [8, 9, 12, 13] → (s.setCr n v).cr n = v &&& pidMask s.cfg) ∧
    (s.setCr 10 v).cr 10 =
      v &&& (0#16 ++ scrPresent s.cfg ++ ccrPresent s.cfg : Word) ∧
    (s.setCr 11 v).cr 11 = v &&& 0x1F#32 ∧
    (s.setCr 16 v).itmrCmp = v ∧ (s.setCr 16 v).cr 16 = s.cr 16 ∧
    ((s.setCr 17 v).setCr 17 w).iiasqFront = v ∧ ((s.setCr 17 v).setCr 17 w).iiasqBack = w ∧
    ((s.setCr 18 v).setCr 18 w).iiaoqFront = v ∧ ((s.setCr 18 v).setCr 18 w).iiaoqBack = w ∧
    (s.setCr 23 v).cr 23 = s.cr 23 &&& ~~~v ∧
    (k ≠ n → (s.setCr n v).cr k = s.cr k)

/-- The probes (R650 to R653): 1 or 0 in GR t for an access at the privilege level of GR r or of the
immediate; the non-access miss is trap 17; in Level 0 the answer is 1. LPA and LCI at privilege level 0
(R655, R656): the absolute address of a translated page, the miss trap 17; undefined instructions (trap
8) where the machine lacks them. LPA of any page leaves the data translation that is relied upon (R201);
the others, and an undefined instruction, end the reliance. The model's choice: LPA in Level 0 is an illegal
instruction at every level, and LCI of an untranslated page gives a free value (notes/assumptions/30.md and
notes/assumptions/34.md); LPA is no data reference, and what its translation may evict
(notes/assumptions/12.md and notes/assumptions/58.md). -/
def Obligations.ProbesAndAddresses : Prop :=
  (∀ (s : State) (b r t : Reg) (sf : BitVec 2) (i : BitVec 5),
      ∀ p ∈ [(Instr.prober b r sf t, false, field (s.gr r) 30 2),
          (Instr.proberi b i sf t, false, i.setWidth 2),
          (Instr.probew b r sf t, true, field (s.gr r) 30 2),
          (Instr.probewi b i sf t, true, i.setWidth 2)],
        (s.level0 = true → Writes (exec p.1 s) s s [(t, 1#32)]) ∧
        (s.level0 = false →
          let v := { s with relied := none }
          (v.translate false (s.space sf (s.gr b)) (s.gr b) = none →
            TrapsAt (exec p.1 s) s 17 (s.space sf (s.gr b)) (s.gr b)) ∧
          ∀ e s', v.translate false (s.space sf (s.gr b)) (s.gr b) = some (e, s') →
            ∃ ok : Bool, Writes (exec p.1 s) s s' [(t, if ok then 1#32 else 0#32)] ∧
              (ok = true ↔ (if p.2.1 then writeAllowed e p.2.2.toNat else readAllowed e p.2.2.toNat) = true ∧
                (s.pswP = true → s.pidCheck e p.2.1 = true)))) ∧
  (∀ (s : State) (b x t : Reg) (sf : BitVec 2) (m : BitVec 1),
      let ea := indexedEa s b x sf 0#1 m 0
      let v := { s with relied := none }
      (s.level0 = true → Traps (exec (.lpa b x sf m t) s) v 8) ∧
      (s.level0 = false → s.priv = 0#2 →
        (s.translate false ea.space ea.offset = none →
          TrapsAt (exec (.lpa b x sf m t) s) s 17 ea.space ea.offset) ∧
        ∀ e s', s.translate false ea.space ea.offset = some (e, s') →
          Writes (exec (.lpa b x sf m t) s) s s'
            ((t, (e.ppn ++ field ea.offset 20 12 : Word)) :: (ea.base.map fun v => (b, v)).toList) ∧
          s'.relied = s.relied ∧
          ∀ sp vpn held, s.relied = some (sp, vpn) → tlbValid s.cfg (s.tlb false) sp vpn = some held →
            tlbValid s.cfg (s'.tlb false) sp vpn = some held) ∧
      (s.level0 = true ∨ s.cfg.coherentIo = false → Traps (exec (.lci b x sf t) s) v 8) ∧
      (s.level0 = false → s.cfg.coherentIo = true → s.priv = 0#2 →
        ∃ i, Writes (exec (.lci b x sf t) s) s v [(t, i)]))

/-- After IDTLBA and IDTLBP, or IITLBA and IITLBP, for one address at privilege level 0, that TLB
translates its page with the page number and the protection fields given (R666 to R670), though between
the two it does not; a separate instruction TLB keeps no U, T, D and B bits. The model's choice: the slot
an insertion takes, and no entry is lost between instructions (notes/assumptions/12.md and
notes/assumptions/13.md). -/
def Obligations.TlbInsertTranslates : Prop :=
  ∀ (s : State) (b r q : Reg) (sf : BitVec 2) (p3 : BitVec 3), s.level0 = false → s.priv = 0#2 →
    privOf s.iaoqBack = 0#2 → s.calm →
    ∀ p ∈ [(Instr.idtlba b r sf, Instr.idtlbp b q sf, false, s.space sf (s.gr b)),
        (Instr.iitlba b r p3, Instr.iitlbp b q p3, true, s.sr (assemble3 p3))],
      (s.tlb p.2.2.1).length = s.tlbSlots p.2.2.1 →
      ∃ s1 s2 e, exec p.1 s = .next s1 ∧
        tlbValid s1.cfg (s1.tlb p.2.2.1) p.2.2.2 (vpnOf (s.gr b)) = none ∧
        exec p.2.1 s1 = .next s2 ∧
        tlbValid s2.cfg (s2.tlb p.2.2.1) p.2.2.2 (vpnOf (s.gr b)) = some e ∧
        e.ppn = field (s.gr r) 7 20 ∧ e.accessRights = field (s.gr q) 5 7 ∧
        e.accessId = field (s.gr q) 13 18 &&& accessIdMask s.cfg ∧
        (p.2.2.1 = false ∨ s.cfg.tlbCombined = true →
          e.t = mbit (s.gr q) 2 ∧ e.d = mbit (s.gr q) 3 ∧ e.b = mbit (s.gr q) 4 ∧
          e.u = mbit (s.gr q) 12)

/-- The TLB instructions at privilege level 0 complete, writing only the TLB they name and, for a purge,
the base register; in Level 0 they are null (R660 to R663, R667 to R670). After PDTLB or PITLB the page
has no valid entry, and the entries of pages with another page number are as before; no data translation is
relied upon any more (R201). The model's choice: the slots that the instructions name, and what a purge leaves (notes/assumptions/12.md,
notes/assumptions/14.md, notes/assumptions/16.md). -/
def Obligations.TlbInstructions : Prop :=
  ∀ (s : State) (b x r : Reg) (sf : BitVec 2) (p : BitVec 3) (m : BitVec 1),
    let ed := indexedEa s b x sf 0#1 m 0
    let ei : Ea := { indexedEa s b x 0#2 0#1 m 0 with space := s.sr (assemble3 p) }
    let wrote (base : Option Word) := (base.map fun v => (b, v)).toList
    let all : List (Instr × Bool × List (Reg × Word)) :=
      [(.pdtlb b x sf m, false, wrote ed.base), (.pdtlbe b x sf m, false, wrote ed.base),
       (.pitlb b x p m, true, wrote ei.base), (.pitlbe b x p m, true, wrote ei.base),
       (.idtlba b r sf, false, []), (.idtlbp b r sf, false, []),
       (.iitlba b r p, true, []), (.iitlbp b r p, true, [])]
    (∀ i ∈ all,
      (s.level0 = true → Writes (exec i.1 s) s s []) ∧
      (s.level0 = false → s.priv = 0#2 → ∃ l, Writes (exec i.1 s) s { s.setTlb i.2.1 l with relied := none } i.2.2)) ∧
    (s.level0 = false → s.priv = 0#2 →
      ∀ i ∈ [(Instr.pdtlb b x sf m, false, ed), (Instr.pitlb b x p m, true, ei)],
        ∃ l, Writes (exec i.1 s) s { s.setTlb i.2.1 l with relied := none } (wrote i.2.2.base) ∧
          tlbValid s.cfg l i.2.2.space (vpnOf i.2.2.offset) = none ∧
          ∀ sp vpn, vpn ≠ vpnOf i.2.2.offset → tlbValid s.cfg l sp vpn = tlbValid s.cfg (s.tlb i.2.1) sp vpn)

/-- The cache flush and purge instructions (R675, R676, R679 to R681): with no cache in view they check
the translation (17, or 16 for FIC through an instruction TLB) and modify the base register; FDCE and
FICE do not translate and are null (R680, R681); the others are undefined to the I/O address space (U38). SYNC, SYNCDMA and, at
privilege level 0, DIAG where DIAG_SEMANTICS is null change nothing but the common state; where it is
not, DIAG is an illegal instruction (R646, R647, R690, D13, D22). After any of them but SYNC and SYNCDMA no
data translation is relied upon (R201). The model's choice: caches hold nothing,
the two meanings of DIAG, the I/O address space is refused, and FDCE and FICE are null there too
(notes/assumptions/27.md, notes/assumptions/44.md, notes/assumptions/46.md, notes/assumptions/59.md). -/
def Obligations.CacheAndNullInstructions : Prop :=
  (∀ (s : State) (b x : Reg) (sf : BitVec 2) (p : BitVec 3) (m : BitVec 1),
      let ed := indexedEa s b x sf 0#1 m 0
      let ei : Ea := { indexedEa s b x 0#2 0#1 m 0 with space := s.sr (assemble3 p) }
      let fic := !(s.cfg.ficUsesDtlb || s.cfg.tlbCombined)
      let v := { s with relied := none }
      let wrote (base : Option Word) := (base.map fun v => (b, v)).toList
      (∀ i ∈ [(Instr.pdc b x sf m, false, 17, ed), (Instr.fdc b x sf m, false, 17, ed),
          (Instr.fic b x p m, fic, if fic then 16 else 17, ei)],
        (s.pswD = false → isIo i.2.2.2.offset = true → exec i.1 s = .refused .uncacheable) ∧
        (s.pswD = false → isIo i.2.2.2.offset = false →
          Writes (exec i.1 s) s v (wrote i.2.2.2.base)) ∧
        (s.pswD = true →
          (v.translate i.2.1 i.2.2.2.space i.2.2.2.offset = none →
            TrapsAt (exec i.1 s) s i.2.2.1 i.2.2.2.space i.2.2.2.offset) ∧
          ∀ e s', v.translate i.2.1 i.2.2.2.space i.2.2.2.offset = some (e, s') →
            (isIo (absoluteOf e i.2.2.2.offset) = true → exec i.1 s = .refused .uncacheable) ∧
            (isIo (absoluteOf e i.2.2.2.offset) = false →
              Writes (exec i.1 s) s s' (wrote i.2.2.2.base)))) ∧
      Writes (exec (.fdce b x sf m) s) s v (wrote ed.base) ∧
      Writes (exec (.fice b x p m) s) s v (wrote ei.base)) ∧
  (∀ (s : State) (i : BitVec 26),
      Writes (exec .sync s) s s [] ∧ Writes (exec .syncdma s) s s [] ∧
      (s.priv = 0#2 → s.cfg.diagSemantics = .null →
        Writes (exec (.diag i) s) s { s with relied := none } []) ∧
      (s.priv = 0#2 → s.cfg.diagSemantics = .illegal →
        Traps (exec (.diag i) s) { s with relied := none } 8))

/-! ### Floating point -/

/-- Rounding to a multiple of 2^q (R776): `k` bits are dropped. The result is one of the two neighbours,
inexact when they differ from the number; nearest with ties to even, toward zero, toward plus infinity,
toward minus infinity. A nonzero number is delivered to a format rounded to its precision, with overflow,
underflow and the inexact exception, trapping or not (R792 to R794, R797, R800 to R802, R805): FpDelivers.
An overflow that does not trap gives an infinity or the largest finite number (R801). The model's choice:
which flags a trapping exception leaves (notes/assumptions/21.md). -/
def Obligations.RoundingModes : Prop :=
  (∀ (neg : Bool) (m : Nat) (e q : Int) (k : Nat), q = e + k → 0 < k →
    let x : FpExact := ⟨neg, m, e, false⟩
    let low := m / 2 ^ k
    (∀ rm, (roundAt rm x q).2 = true ↔ m % 2 ^ k ≠ 0) ∧
    (∀ rm, m % 2 ^ k = 0 → (roundAt rm x q).1 = low) ∧
    (m % 2 ^ k ≠ 0 →
      (m % 2 ^ k * 2 < 2 ^ k → (roundAt 0#2 x q).1 = low) ∧
      (2 ^ k < m % 2 ^ k * 2 → (roundAt 0#2 x q).1 = low + 1) ∧
      (m % 2 ^ k * 2 = 2 ^ k → (roundAt 0#2 x q).1 = low + low % 2) ∧
      (roundAt 1#2 x q).1 = low ∧
      (roundAt 2#2 x q).1 = (if neg then low else low + 1) ∧
      (roundAt 3#2 x q).1 = (if neg then low + 1 else low))) ∧
  (∀ (sr : Word) (f : FpFmt) (conv : Bool) (x : FpExact) (v : ℝ), x.Spans f v →
      FpDelivers (fpDeliver sr f conv x) sr f conv x.neg v) ∧
  ∀ (f : FpFmt) (rm : BitVec 2) (neg : Bool),
    fpOverflow f rm neg =
      (if rm = 0#2 ∨ rm = 2#2 ∧ neg = false ∨ rm = 3#2 ∧ neg = true then fpInf f neg
      else fpMaxFinite f neg) ∧
    fpValue f (fpInf f neg) = .inf neg ∧
    FpHas f (fpMaxFinite f neg) neg ((2 : ℝ) ^ (f.bias + 1) - (2 : ℝ) ^ (f.bias - f.fbits))

/-- A finite nonzero number of the format, delivered as a result of that format while the underflow trap
is disabled, is that number: no rounding, no flag, no exception (R776, R805). FADD, FSUB, FMPY, FDIV,
FSQRT, FRND, FCNVFF, FCNVXF and FCNVFX of operands that are no NaNs: the exact result of the operation on
the numbers is delivered to the format (R838 to R843, R850 to R853); zeros and infinities by R777 and
R779; an invalid operation traps or gives the default NaN (R798); a division of a number by zero traps or
gives an infinity (R799); a fixed-point result that does not fit is unimplemented (R797). The bits of the
default NaN, of a zero and of an infinity are stated in NanOperands. The model's choice: the flags that a
trapping operation leaves as they are, tininess after rounding, the default NaN's sign and the signs of
zero results are those of decision D10 (notes/assumptions/21.md), and zero plus a denormal number is
delivered as any exact sum (notes/assumptions/55.md). -/
def Obligations.ExactResultsAreDelivered : Prop :=
  (∀ (sr : Word) (f : FpFmt) (conv : Bool) (x : Nat) (neg : Bool) (m : Nat) (e : Int),
    x < 2 ^ f.width → fpIsNan f x = false → fpValue f x = .num neg m e → fpEnabled sr 3 = false →
    fpDeliver sr f conv ⟨neg, m, e, false⟩ = .result x 0#32 0#6) ∧
  (∀ (sr : Word) (f : FpFmt) (a b : Nat), fpIsNan f a = false → fpIsNan f b = false →
    let s := fpSign f a
    let t := fpSign f b
    let exactly (bits : Nat) : FpOutcome := .result bits 0#32 0#6
    let invalid : FpOutcome := if fpEnabled sr 0 then .preserved 0b100000#6
      else .result (fpDefaultNan f) (fpFlag 0) 0#6
    let delivers (o : FpOutcome) (v : ℚ) : Prop := FpDelivers o sr f false (decide (v < 0)) |(v : ℝ)|
    (∀ p ∈ [(fpAdd, t, fpRat f a + fpRat f b), (fpSub, !t, fpRat f a - fpRat f b)],
      (fpFinite f a → fpFinite f b →
        (p.2.2 ≠ 0 → delivers (p.1 sr f a b) p.2.2) ∧
        (p.2.2 = 0 →
          p.1 sr f a b = exactly (fpZero f (if s = p.2.1 then s else decide (fpRm sr = 3#2))))) ∧
      (¬ fpFinite f a → fpFinite f b ∨ s = p.2.1 → p.1 sr f a b = exactly (fpInf f s)) ∧
      (fpFinite f a → ¬ fpFinite f b → p.1 sr f a b = exactly (fpInf f p.2.1)) ∧
      (¬ fpFinite f a → ¬ fpFinite f b → s ≠ p.2.1 → p.1 sr f a b = invalid)) ∧
    (fpFinite f a → fpFinite f b →
      (fpRat f a * fpRat f b ≠ 0 → delivers (fpMul sr f a b) (fpRat f a * fpRat f b)) ∧
      (fpRat f a * fpRat f b = 0 → fpMul sr f a b = exactly (fpZero f (s != t))) ∧
      (fpRat f b ≠ 0 →
        (fpRat f a ≠ 0 → delivers (fpDiv sr f a b) (fpRat f a / fpRat f b)) ∧
        (fpRat f a = 0 → fpDiv sr f a b = exactly (fpZero f (s != t)))) ∧
      (fpRat f b = 0 →
        (fpRat f a ≠ 0 → fpDiv sr f a b = if fpEnabled sr 1 then .preserved 0b010000#6
          else .result (fpInf f (s != t)) (fpFlag 1) 0#6) ∧
        (fpRat f a = 0 → fpDiv sr f a b = invalid))) ∧
    (¬ fpFinite f a →
      (fpFinite f b → fpRat f b = 0 → fpMul sr f a b = invalid) ∧
      (¬ fpFinite f b ∨ fpRat f b ≠ 0 → fpMul sr f a b = exactly (fpInf f (s != t))) ∧
      (fpFinite f b → fpDiv sr f a b = exactly (fpInf f (s != t))) ∧
      (¬ fpFinite f b → fpDiv sr f a b = invalid)) ∧
    (fpFinite f a → ¬ fpFinite f b →
      (fpRat f a = 0 → fpMul sr f a b = invalid) ∧
      (fpRat f a ≠ 0 → fpMul sr f a b = exactly (fpInf f (s != t))) ∧
      fpDiv sr f a b = exactly (fpZero f (s != t)))) ∧
  (∀ (sr : Word) (f g : FpFmt) (a : Nat), fpIsNan f a = false →
    let s := fpSign f a
    let exactly (bits : Nat) : FpOutcome := .result bits 0#32 0#6
    let invalid : FpOutcome := if fpEnabled sr 0 then .preserved 0b100000#6
      else .result (fpDefaultNan f) (fpFlag 0) 0#6
    (fpFinite f a → fpRat f a = 0 →
      fpSqrt sr f a = exactly a ∧ fpRound sr f a = exactly a ∧
      fpConvert sr f g a = exactly (fpZero g s) ∧ ∀ rm, fpToFixed sr rm f g a = exactly 0) ∧
    (fpFinite f a → fpRat f a ≠ 0 →
      (s = true → fpSqrt sr f a = invalid) ∧
      (s = false → FpDelivers (fpSqrt sr f a) sr f false false (Real.sqrt (fpRat f a : ℝ))) ∧
      FpDelivers (fpConvert sr f g a) sr g true s |(fpRat f a : ℝ)| ∧
      (∃ n bits, RoundsTo (fpRm sr) s |(fpRat f a : ℝ)| n ∧ FpHas f bits s n ∧
        FpGives (fpRound sr f a) sr bits ((n : ℝ) = |(fpRat f a : ℝ)|) 0#32 0#6 0b000010#6) ∧
      ∀ rm, ∃ n : Nat, RoundsTo rm s |(fpRat f a : ℝ)| n ∧
        (n < 2 ^ (g.width - 1) ∨ n = 2 ^ (g.width - 1) ∧ s = true →
          FpGives (fpToFixed sr rm f g a) sr (if s ∧ n ≠ 0 then 2 ^ g.width - n else n)
            ((n : ℝ) = |(fpRat f a : ℝ)|) 0#32 0#6 0b000010#6) ∧
        (¬ (n < 2 ^ (g.width - 1) ∨ n = 2 ^ (g.width - 1) ∧ s = true) →
          fpToFixed sr rm f g a = .unimplemented)) ∧
    (¬ fpFinite f a →
      fpSqrt sr f a = (if s then invalid else exactly a) ∧ fpRound sr f a = exactly a ∧
      fpConvert sr f g a = exactly (fpInf g s) ∧ ∀ rm, fpToFixed sr rm f g a = .unimplemented)) ∧
  ∀ (sr : Word) (f g : FpFmt) (a : Nat), a < 2 ^ f.width →
    let n : Int := if a < 2 ^ (f.width - 1) then a else a - 2 ^ f.width
    (n = 0 → fpFromFixed sr f g a = .result (fpZero g false) 0#32 0#6) ∧
    (n ≠ 0 → FpDelivers (fpFromFixed sr f g a) sr g true (decide (n < 0)) |(n : ℝ)|)

/-- NaN operands of the arithmetic instructions (R778, R798): a signaling NaN is an invalid operation,
which traps when enabled and otherwise delivers the operand made quiet and sets V; of quiet NaNs the
first operand's is the result, with no exception. FSQRT and FRND of a NaN in the same way, FCNVFF with the
NaN in the destination's format; FCNVFX of a NaN is unimplemented (R797). Bit by bit: a signaling NaN made
quiet loses b1 and gains b2 where the rest of the fraction is 0, and keeps every other bit (R778 (e)); the
default NaN has sign 0, an exponent of ones and b2 (R778 (g)); a quiet NaN in another format keeps its sign
and the leftmost part of its fraction, with zeros to the right or, where nothing is left of it, b2
(R778 (h)); a zero and an infinity have their sign, and nothing else or the exponent. The model's choice:
the default NaN's sign, and b2 as it was where the rest of the fraction is not 0, as the spec decides in
D10 (notes/assumptions/21.md). -/
def Obligations.NanOperands : Prop :=
  (∀ (sr : Word) (f : FpFmt) (a b : Nat),
    ∀ op ∈ [fpAdd, fpSub, fpMul, fpDiv],
      (fpIsSnan f a = true →
        op sr f a b = if fpEnabled sr 0 then .preserved 0b100000#6
          else .result (fpQuiet f a) (fpFlag 0) 0#6) ∧
      (fpIsSnan f a = false → fpIsSnan f b = true →
        op sr f a b = if fpEnabled sr 0 then .preserved 0b100000#6
          else .result (fpQuiet f b) (fpFlag 0) 0#6) ∧
      (fpIsSnan f a = false → fpIsSnan f b = false →
        (fpIsNan f a = true → op sr f a b = .result a 0#32 0#6) ∧
        (fpIsNan f a = false → fpIsNan f b = true → op sr f a b = .result b 0#32 0#6))) ∧
  (∀ (f g : FpFmt) (a : Nat), a < 2 ^ f.width → fpIsNan f a = true →
    (fpIsSnan f a = true → ∀ i, (fpQuiet f a).testBit i =
      if i = f.fbits - 1 then false
      else if i = f.fbits - 2 then a.testBit i || decide (a % 2 ^ (f.fbits - 1) = 0)
      else a.testBit i) ∧
    (fpIsSnan f a = false → ∀ i, (fpResizeNan f g a).testBit i =
      if i < g.fbits then
        if f.fbits ≤ g.fbits then decide (g.fbits ≤ i + f.fbits) && a.testBit (i + f.fbits - g.fbits)
        else a.testBit (i + (f.fbits - g.fbits))
          || decide (i = g.fbits - 2 ∧ a % 2 ^ f.fbits < 2 ^ (f.fbits - g.fbits))
      else if i < g.width - 1 then true
      else decide (i = g.width - 1) && fpSign f a)) ∧
  (∀ (f : FpFmt) (neg : Bool) (i : Nat),
    (fpDefaultNan f).testBit i = decide (i = f.fbits - 2 ∨ f.fbits ≤ i ∧ i < f.width - 1) ∧
    (fpZero f neg).testBit i = (neg && decide (i = f.width - 1)) ∧
    (fpInf f neg).testBit i =
      (neg && decide (i = f.width - 1) || decide (f.fbits ≤ i ∧ i < f.width - 1))) ∧
  ∀ (sr : Word) (f g : FpFmt) (a : Nat),
    (fpIsSnan f a = true →
      (∀ op ∈ [fpSqrt, fpRound], op sr f a = if fpEnabled sr 0 then .preserved 0b100000#6
        else .result (fpQuiet f a) (fpFlag 0) 0#6) ∧
      fpConvert sr f g a = if fpEnabled sr 0 then .preserved 0b100000#6
        else .result (fpResizeNan f g (fpQuiet f a)) (fpFlag 0) 0#6) ∧
    (fpIsNan f a = true → fpIsSnan f a = false →
      fpSqrt sr f a = .result a 0#32 0#6 ∧ fpRound sr f a = .result a 0#32 0#6 ∧
      fpConvert sr f g a = .result (fpResizeNan f g a) 0#32 0#6) ∧
    (fpIsNan f a = true → ∀ rm, fpToFixed sr rm f g a = .unimplemented)

/-- What a result leaves in the registers (R746, R760, R821): the destination reads as the result, the
flags are added to the Status Register, every other word is unchanged. -/
def Obligations.FpResultWritten : Prop :=
  ∀ (s : State) (unimp : BitVec 6) (src : List (Reg × Bool)) (t : FpReg) (f : FpFmt) (bits : Nat)
    (flags : Word), fpDestOk t f = true → bits < 2 ^ f.width →
    let u := s.fpFinish unimp src t f (.result bits flags 0#6)
    u.fpRead t f = bits ∧ u.fpsr = s.fpsr ||| flags ∧
    (∀ n h, (n, h) ∉ fpWords t f → (n, h) ≠ (0#5, false) → u.fpHalf n h = s.fpHalf n h) ∧
    u = { s with fprs := u.fprs }

/-- What a trapping invalid operation, division by zero or unimplemented operation leaves (R780, R791,
R792, R797): T is 1, Exception Register 1 holds the code over the low 26 bits of the instruction, every
word of a source is preserved, and nothing but the destination's other words (free values) changes. What a
trapping overflow, underflow or inexact result leaves (R792, R794): the result in the destination, the
flags added, T 1, and the code in Exception Register 1. The model's choice: Exception Register 1 is the
one used, and a destination word that is no source word is a free value (notes/assumptions/21.md and
notes/assumptions/24.md); T is bit 25 of the Status Register (notes/assumptions/22.md). -/
def Obligations.FpTrapRecorded : Prop :=
  ∀ (s : State) (unimp code : BitVec 6) (src : List (Reg × Bool)) (t : FpReg) (f : FpFmt),
    fpDestOk t f = true →
    (∀ (bits : Nat) (flags : Word), code ≠ 0#6 → bits < 2 ^ f.width →
      let u := s.fpFinish unimp src t f (.result bits flags code)
      u.fpRead t f = bits ∧ u.fpHalf 0#5 true = code ++ field s.iword 6 26 ∧
      (∀ i, i < 32 → mbit u.fpsr i = (mbit s.fpsr i || mbit flags i || i == 25)) ∧
      (∀ n h, n ≠ 0#5 → (n, h) ∉ fpWords t f → u.fpHalf n h = s.fpHalf n h) ∧
      u = { s with fprs := u.fprs }) ∧
    ∀ p ∈ [(FpOutcome.preserved code, code), (FpOutcome.unimplemented, unimp)],
      let u := s.fpFinish unimp src t f p.1
      u.fpT = true ∧ u.fpHalf 0#5 true = p.2 ++ field s.iword 6 26 ∧
      (∀ i, i < 32 → i ≠ 25 → mbit u.fpsr i = mbit s.fpsr i) ∧
      (∀ n h, n ≠ 0#5 → (n, h) ∈ src ∨ (n, h) ∉ fpWords t f → u.fpHalf n h = s.fpHalf n h) ∧
      u = { s with fprs := u.fprs, draws := u.draws }

/-- A floating-point operation where the coprocessor may not run it (R700, R770, R784, R823): CCR bits 0
and 1 both 0 is the assist emulation trap (22); enabled with T = 1 is the assist exception trap (14);
bits that differ, and an exception queued while T = 0, are undefined operations. It holds of every
floating-point instruction but the loads and stores, whatever its operands. The model's choice: undefined
operations are refused, as the spec's U25 and U26 treat them (notes/assumptions/21.md). -/
def Obligations.FpNotReady : Prop :=
  ∀ (s : State) (r1 r2 r3 r4 t : Reg) (x y : BitVec 2) (c : BitVec 5) (g h1 h2 th : BitVec 1),
    ∀ i ∈ [Instr.copr00, .fcpy r1 x t, .fabs r1 x t, .fsqrt r1 x t, .frnd r1 x t, .fcnvff r1 y x t,
        .fcnvxf r1 y x t, .fcnvfx r1 y x t, .fcnvfxt r1 y x t, .fcmp r1 r2 x c, .ftest c,
        .fadd r1 r2 x t, .fsub r1 r2 x t, .fmpy r1 r2 x t, .fdiv r1 r2 x t,
        .fcpy0E r1 x h1 th t, .fabs0E r1 x h1 th t, .fsqrt0E r1 x h1 th t, .frnd0E r1 x h1 th t,
        .fcnvff0E r1 y x h1 th t, .fcnvxf0E r1 y x h1 th t, .fcnvfx0E r1 y x h1 th t,
        .fcnvfxt0E r1 y x h1 th t, .fcmp0E r1 r2 h2 g h1 c, .fadd0E r1 r2 h2 g h1 th t,
        .fsub0E r1 r2 h2 g h1 th t, .fmpy0E r1 r2 h2 g h1 th t, .fdiv0E r1 r2 h2 g h1 th t,
        .xmpyu r1 r2 h2 h1 t, .fmpyadd r1 r2 r3 r4 g t, .fmpysub r1 r2 r3 r4 g t],
      (s.ccrBit 0#3 = false → s.ccrBit 1#3 = false → Traps (exec i s) s 22) ∧
      (s.ccrBit 0#3 = true → s.ccrBit 1#3 = true → s.fpT = true → Traps (exec i s) s 14) ∧
      (s.ccrBit 0#3 ≠ s.ccrBit 1#3 → exec i s = .refused .fpConfiguration) ∧
      (s.ccrBit 0#3 = true → s.ccrBit 1#3 = true → s.fpT = false → s.fpQueued = true →
        exec i s = .refused .fpExceptionQueue)

/-- The one-operand instructions (R835 to R843): with the coprocessor ready, formats and registers that
the instruction may name, the outcome of the operation (or the unimplemented exception, where the
implementation leaves it to software) is left in the registers; what fpSqrt, fpRound, fpConvert,
fpFromFixed and fpToFixed compute on numbers is stated in ExactResultsAreDelivered, on NaNs in
NanOperands; FCPY and FABS copy the bits, FABS with sign 0 (R836, R837). An operation ends the identify
format; the Status Register then has the fields it had, where COPR,0,0 stood between two doubleword stores
of register 0, and elsewhere free values but for T. The model's choice: COPR,0,0 keeps the Status Register
and its identify format, as D10 decides (notes/assumptions/25.md), T is bit 25 of the Status Register
(notes/assumptions/22.md), and the unimplemented outcome (notes/assumptions/21.md), which a pair of the
operation with either format gives (notes/assumptions/56.md). -/
def Obligations.FpUnaryInstructions : Prop :=
  ∀ (s : State) (r t : Reg) (x y : BitVec 2) (rh th : BitVec 1) (sf df : FpFmt), FpReady s →
    Writes (exec .copr00 s) s
      { s with
        fpIdentifyValid := true, fpZeroStored := false
        fpBracketed := s.fpZeroStored && (!s.fpIdentifyValid || s.fpBracketed) } [] ∧
    (s.fpIdentifyValid = false ∨ s.fpBracketed = true ∧ s.fpZeroStored = true →
      s.endIdentify = { s with fpIdentifyValid := false, fpZeroStored := false }) ∧
    (∃ sr, s.endIdentify = { s.setFpsr sr with
        fpIdentifyValid := false, fpZeroStored := false, draws := s.endIdentify.draws } ∧
      mbit sr 25 = mbit s.fpsr 25) ∧
    (∀ (sr : Word) (f : FpFmt) (a : Nat), a < 2 ^ f.width → fpCopy sr f f a = .result a 0#32 0#6 ∧
      ∃ b, fpAbsolute sr f f a = .result b 0#32 0#6 ∧ b < 2 ^ f.width ∧
        ∀ i, b.testBit i = (a.testBit i && decide (i ≠ f.width - 1))) ∧
    let sqrt := fun sr f (_ : FpFmt) a => fpSqrt sr f a
    let round := fun sr f (_ : FpFmt) a => fpRound sr f a
    let toFixed := fun sr a b v => fpToFixed sr (fpRm sr) a b v
    let toFixedT := fun sr a b v => fpToFixed sr 1#2 a b v
    let all0C : List (Instr × FpOp × Option FpFmt × Option FpFmt × (Word → FpFmt → FpFmt → Nat → FpOutcome)) :=
      [(.fcpy r x t, .fcpy, fpFmt0C x, fpFmt0C x, fpCopy),
       (.fabs r x t, .fabs, fpFmt0C x, fpFmt0C x, fpAbsolute),
       (.fsqrt r x t, .fsqrt, fpFmt0C x, fpFmt0C x, sqrt),
       (.frnd r x t, .frnd, fpFmt0C x, fpFmt0C x, round),
       (.fcnvff r y x t, .fcnvff, if fpFmt0C x = fpFmt0C y then none else fpFmt0C x, fpFmt0C y, fpConvert),
       (.fcnvxf r y x t, .fcnvxf, fpFmt0C x, fpFmt0C y, fpFromFixed),
       (.fcnvfx r y x t, .fcnvfx, fpFmt0C x, fpFmt0C y, toFixed),
       (.fcnvfxt r y x t, .fcnvfxt, fpFmt0C x, fpFmt0C y, toFixedT)]
    let all0E : List (Instr × FpOp × Option FpFmt × Option FpFmt × (Word → FpFmt → FpFmt → Nat → FpOutcome)) :=
      [(.fcpy0E r x rh th t, .fcpy, fpFmt0E x, fpFmt0E x, fpCopy),
       (.fabs0E r x rh th t, .fabs, fpFmt0E x, fpFmt0E x, fpAbsolute),
       (.fsqrt0E r x rh th t, .fsqrt, fpFmt0E x, fpFmt0E x, sqrt),
       (.frnd0E r x rh th t, .frnd, fpFmt0E x, fpFmt0E x, round),
       (.fcnvff0E r y x rh th t, .fcnvff, if fpFmt0E x = fpFmt0E y then none else fpFmt0E x, fpFmt0E y,
         fpConvert),
       (.fcnvxf0E r y x rh th t, .fcnvxf, fpFmt0E x, fpFmt0E y, fpFromFixed),
       (.fcnvfx0E r y x rh th t, .fcnvfx, fpFmt0E x, fpFmt0E y, toFixed),
       (.fcnvfxt0E r y x rh th t, .fcnvfxt, fpFmt0E x, fpFmt0E y, toFixedT)]
    (∀ p ∈ all0C, p.2.2.1 = some sf → p.2.2.2.1 = some df →
      fpSourceOk ⟨r, false⟩ sf = true → fpDestOk ⟨t, false⟩ df = true →
      FpRuns (exec p.1 s) s (s.endIdentify.fpFinish 0b001001#6 (fpWords ⟨r, false⟩ sf) ⟨t, false⟩ df
        (if (p.2.1, sf) ∈ s.cfg.fpUnimplemented ∨ (p.2.1, df) ∈ s.cfg.fpUnimplemented then .unimplemented
        else p.2.2.2.2 s.endIdentify.fpsr sf df (s.endIdentify.fpRead ⟨r, false⟩ sf)))) ∧
    (∀ p ∈ all0E, p.2.2.1 = some sf → p.2.2.2.1 = some df →
      fpSourceOk ⟨r, rh == 1#1⟩ sf = true → fpDestOk ⟨t, th == 1#1⟩ df = true →
      FpRuns (exec p.1 s) s (s.endIdentify.fpFinish 0b001011#6 (fpWords ⟨r, rh == 1#1⟩ sf)
        ⟨t, th == 1#1⟩ df
        (if (p.2.1, sf) ∈ s.cfg.fpUnimplemented ∨ (p.2.1, df) ∈ s.cfg.fpUnimplemented then .unimplemented
        else p.2.2.2.2 s.endIdentify.fpsr sf df (s.endIdentify.fpRead ⟨r, rh == 1#1⟩ sf))))

/-- FADD, FSUB, FMPY, FDIV and XMPYU (R850 to R853, R855): as the one-operand instructions; what fpAdd,
fpSub, fpMul and fpDiv compute on numbers, zeros and infinities is stated in ExactResultsAreDelivered, on
NaNs in NanOperands; XMPYU is the product of its operands as unsigned numbers. The model's choice: the
unimplemented outcome (notes/assumptions/21.md), and that XMPYU is left out by its pair with SGL
(notes/assumptions/56.md). -/
def Obligations.FpBinaryInstructions : Prop :=
  ∀ (s : State) (r1 r2 t : Reg) (x : BitVec 2) (g h1 h2 th : BitVec 1) (f : FpFmt), FpReady s →
    (∀ p ∈ [(Instr.fadd r1 r2 x t, FpOp.fadd, fpAdd), (Instr.fsub r1 r2 x t, FpOp.fsub, fpSub),
        (Instr.fmpy r1 r2 x t, FpOp.fmpy, fpMul), (Instr.fdiv r1 r2 x t, FpOp.fdiv, fpDiv)],
      fpFmt0C x = some f → fpSourceOk ⟨r1, false⟩ f = true → fpSourceOk ⟨r2, false⟩ f = true →
      fpDestOk ⟨t, false⟩ f = true →
      FpRuns (exec p.1 s) s (s.endIdentify.fpFinish 0b001001#6
        (fpWords ⟨r1, false⟩ f ++ fpWords ⟨r2, false⟩ f) ⟨t, false⟩ f
        (if (p.2.1, f) ∈ s.cfg.fpUnimplemented then .unimplemented
        else p.2.2 s.endIdentify.fpsr f (s.endIdentify.fpRead ⟨r1, false⟩ f)
          (s.endIdentify.fpRead ⟨r2, false⟩ f)))) ∧
    (∀ p ∈ [(Instr.fadd0E r1 r2 h2 g h1 th t, FpOp.fadd, fpAdd),
        (Instr.fsub0E r1 r2 h2 g h1 th t, FpOp.fsub, fpSub),
        (Instr.fmpy0E r1 r2 h2 g h1 th t, FpOp.fmpy, fpMul),
        (Instr.fdiv0E r1 r2 h2 g h1 th t, FpOp.fdiv, fpDiv)],
      (if g = 0#1 then f = .sgl else f = .dbl ∧ h2 = 0#1) →
      fpSourceOk ⟨r1, h1 == 1#1⟩ f = true → fpSourceOk ⟨r2, h2 == 1#1⟩ f = true →
      fpDestOk ⟨t, th == 1#1⟩ f = true →
      FpRuns (exec p.1 s) s (s.endIdentify.fpFinish 0b001011#6
        (fpWords ⟨r1, h1 == 1#1⟩ f ++ fpWords ⟨r2, h2 == 1#1⟩ f) ⟨t, th == 1#1⟩ f
        (if (p.2.1, f) ∈ s.cfg.fpUnimplemented then .unimplemented
        else p.2.2 s.endIdentify.fpsr f (s.endIdentify.fpRead ⟨r1, h1 == 1#1⟩ f)
          (s.endIdentify.fpRead ⟨r2, h2 == 1#1⟩ f)))) ∧
    (fpSourceOk ⟨r1, h1 == 1#1⟩ .sgl = true → fpSourceOk ⟨r2, h2 == 1#1⟩ .sgl = true →
      fpDestOk ⟨t, false⟩ .dbl = true →
      FpRuns (exec (.xmpyu r1 r2 h2 h1 t) s) s (s.endIdentify.fpFinish 0b001011#6
        (fpWords ⟨r1, h1 == 1#1⟩ .sgl ++ fpWords ⟨r2, h2 == 1#1⟩ .sgl) ⟨t, false⟩ .dbl
        (if (FpOp.xmpyu, FpFmt.sgl) ∈ s.cfg.fpUnimplemented then .unimplemented
        else .result (s.endIdentify.fpRead ⟨r1, h1 == 1#1⟩ .sgl
          * s.endIdentify.fpRead ⟨r2, h2 == 1#1⟩ .sgl) 0#32 0#6)))

/-- FCMP (R844, R845), with the coprocessor ready, a format and registers that the instruction may name, and
any operands: it completes. With operands that are no NaNs, the relation in C, the old C in the queue; a
NaN compares unordered, and is an invalid operation when it is signaling or the condition asks for it:
that sets V, or with the trap enabled is recorded with C and CQ as they were. FTEST (R846): the successor
is nullified when the test of Table 6-14 holds. The order of the operands is that of the numbers, with the
infinities at the ends. The model's choice: a test that Table 6-14 does not list is a free value
(notes/assumptions/41.md), the unimplemented outcome (notes/assumptions/21.md), and the places of the
queue and T in the Status Register, bits 10 to 20 and bit 25 (notes/assumptions/22.md). -/
def Obligations.FpCompareAndTest : Prop :=
  (∀ (s : State) (r1 r2 : Reg) (x : BitVec 2) (g h1 h2 : BitVec 1) (c : BitVec 5) (f : FpFmt),
      FpReady s →
      ∀ p ∈ [(Instr.fcmp r1 r2 x c, fpFmt0C x, FpReg.mk r1 false, FpReg.mk r2 false, 0b001001#6),
          (Instr.fcmp0E r1 r2 h2 g h1 c, fpFmtF g h2, FpReg.mk r1 (h1 == 1#1), FpReg.mk r2 (h2 == 1#1),
            0b001011#6)],
        p.2.1 = some f → fpSourceOk p.2.2.1 f = true → fpSourceOk p.2.2.2.1 f = true →
        let u := s.endIdentify
        let a := u.fpRead p.2.2.1 f
        let b := u.fpRead p.2.2.2.1 f
        let nan := fpIsNan f a || fpIsNan f b
        let invalid := nan && (c.getLsbD 0 || fpIsSnan f a || fpIsSnan f b)
        let trapped := invalid && fpEnabled u.fpsr 0
        let relation := if nan then c.getLsbD 1
          else match fpCompare (fpValue f a) (fpValue f b) with
            | .gt => c.getLsbD 4 | .lt => c.getLsbD 3 | .eq => c.getLsbD 2
        ((FpOp.fcmp, f) ∈ s.cfg.fpUnimplemented ∨ trapped = true →
          ∃ e sr, FpRuns (exec p.1 s) s ((u.setFpHalf 0#5 true e).setFpsr sr) ∧
            e = (if (FpOp.fcmp, f) ∈ s.cfg.fpUnimplemented then p.2.2.2.2 else 0b100000#6)
              ++ field s.iword 6 26 ∧
            ∀ i, i < 32 → mbit sr i = (mbit u.fpsr i || i == 25)) ∧
        ((FpOp.fcmp, f) ∉ s.cfg.fpUnimplemented → trapped = false →
          ∃ sr, FpRuns (exec p.1 s) s (u.setFpsr sr) ∧
            mbit sr 0 = (mbit u.fpsr 0 || invalid) ∧ mbit sr 5 = relation ∧
            mbit sr 10 = mbit u.fpsr 5 ∧ (∀ i, 10 < i → i ≤ 20 → mbit sr i = mbit u.fpsr (i - 1)) ∧
            ∀ i, i < 32 → 1 ≤ i ∧ i < 5 ∨ 5 < i ∧ i < 10 ∨ 20 < i → mbit sr i = mbit u.fpsr i)) ∧
  (∀ (f : FpFmt) (a b : Nat),
      (fpFinite f a → fpFinite f b →
        fpCompare (fpValue f a) (fpValue f b) = compare (fpRat f a) (fpRat f b)) ∧
      (¬ fpFinite f a → fpFinite f b → fpCompare (fpValue f a) (fpValue f b) =
        if fpSign f a then .lt else .gt) ∧
      (fpFinite f a → ¬ fpFinite f b → fpCompare (fpValue f a) (fpValue f b) =
        if fpSign f b then .gt else .lt) ∧
      (¬ fpFinite f a → ¬ fpFinite f b → fpCompare (fpValue f a) (fpValue f b) =
        if fpSign f a = fpSign f b then .eq else if fpSign f a then .lt else .gt)) ∧
  (∀ (s : State) (t : BitVec 5), FpReady s →
      let c := mbit s.endIdentify.fpsr 5
      let q (i : Nat) := mbit s.endIdentify.fpsr (10 + i)
      ∃ n w, Completes (exec (.ftest t) s) s s.endIdentify w [] n none s.pswCB s.pswV ∧
        (t = 0#5 → n = c) ∧
        (∀ p ∈ [(1#5, 11), (5#5, 7), (9#5, 5), (13#5, 3), (17#5, 1)], t = p.1 →
          (n = true ↔ c = false ∧ ∀ i, i < p.2 → q i = false)) ∧
        (t = 2#5 → (n = true ↔ c = true ∧ q 5 = true ∨ ∃ i, i < 5 ∧ q i = true ∧ q (i + 6) = true)) ∧
        (t = 6#5 → (n = true ↔ c = true ∧ q 3 = true ∨ ∃ i, i < 3 ∧ q i = true ∧ q (i + 4) = true)))

/-- FMPYADD and FMPYSUB (R859 to R861): with operands that do not overlap and neither operation
trapping, both results are written and both sets of flags added; otherwise the whole is unimplemented.
The model's choice: a trapping half makes the whole unimplemented, as the spec's D10 does
(notes/assumptions/21.md). -/
def Obligations.FpMultipleInstructions : Prop :=
  ∀ (s : State) (m1 m2 ta ra tm : Reg) (g : BitVec 1), FpReady s →
    ra ≠ 0#5 → ra ≠ tm → ta ≠ m1 → ta ≠ m2 → ta ≠ tm →
    let f : FpFmt := if g = 1#1 then .sgl else .dbl
    let u := s.endIdentify
    fpSourceOk (fpMulti f m1) f = true → fpSourceOk (fpMulti f m2) f = true →
    fpDestOk (fpMulti f tm) f = true → fpSourceOk (fpMulti f ra) f = true →
    fpDestOk (fpMulti f ta) f = true →
    ∀ p ∈ [(Instr.fmpyadd m1 m2 ta ra g tm, FpOp.fmpyadd, fpAdd, 0b000011#6),
        (Instr.fmpysub m1 m2 ta ra g tm, FpOp.fmpysub, fpSub, 0b100011#6)],
      let o1 := fpMul u.fpsr f (u.fpRead (fpMulti f m1) f) (u.fpRead (fpMulti f m2) f)
      let o2 := p.2.2.1 u.fpsr f (u.fpRead (fpMulti f ta) f) (u.fpRead (fpMulti f ra) f)
      ((p.2.1, f) ∉ s.cfg.fpUnimplemented → ∀ b1 g1 b2 g2, o1 = .result b1 g1 0#6 → o2 = .result b2 g2 0#6 →
        FpRuns (exec p.1 s) s
          (((u.fpWrite (fpMulti f tm) f b1).fpWrite (fpMulti f ta) f b2).setFpsr (u.fpsr ||| g1 ||| g2))) ∧
      ((p.2.1, f) ∈ s.cfg.fpUnimplemented ∨ (∀ b1 g1, o1 ≠ .result b1 g1 0#6) ∨
          (∀ b2 g2, o2 ≠ .result b2 g2 0#6) →
        FpRuns (exec p.1 s) s
          ((u.fpLose (fpWords (fpMulti f m1) f ++ fpWords (fpMulti f m2) f ++ fpWords (fpMulti f ra) f
            ++ fpWords (fpMulti f ta) f) (fpWords (fpMulti f tm) f)).fpRecord p.2.2.2))

/-- The floating-point loads and stores (R824 to R832), with the coprocessor enabled: with T = 1 the assist
exception trap (14), but for a doubleword store of register 0, which takes none; a word access to an
exception register, and a word load of the Status Register that sets T, are undefined (U30); an
interrupted reference has no effect but its interruption, and with the coprocessor disabled interruption
22 comes after the checks of the reference, for an unaligned untranslated address after its data
breakpoints (R700, R893). A reference that passes its checks loads or stores the
register; every instruction but a doubleword store of register 0 ends the identify format (R756, R824). A
doubleword store of register 0 (R803, R828) stores the Status Register, or its identify format with the
model and revision while that is valid, and Exception Register 1, as they are, then clears T. The model's
choice: undefined accesses are refused and the other bits of the identify format are free values
(notes/assumptions/21.md, notes/assumptions/25.md); ISR of an untranslated reference is a free value
(notes/assumptions/33.md); what 22 comes before (notes/assumptions/50.md); T is bit 25 of the Status
Register, and the model and the revision are bits 5 to 9 and 10 to 20 of the identify format
(notes/assumptions/22.md). -/
def Obligations.FpLoadsAndStores : Prop :=
  ∀ (s s' : State) (addr : Nat) (b x r : Reg) (sf : BitVec 2) (i5 : BitVec 5) (u m a h : BitVec 1)
    (cc : BitVec 2),
    let base (ea : Ea) := (ea.base.map fun v => (b, v)).toList
    let loadsW := [(Instr.fldwx b x sf u cc h m r, indexedEa s b x sf u m 2),
      (Instr.fldws b i5 sf a cc h m r, shortEa s b i5 sf a m)]
    let loadsD := [(Instr.flddx b x sf u cc m r, indexedEa s b x sf u m 3),
      (Instr.fldds b i5 sf a cc m r, shortEa s b i5 sf a m)]
    let storesW := [(Instr.fstwx b x sf u cc h m r, indexedEa s b x sf u m 2),
      (Instr.fstws b i5 sf a cc h m r, shortEa s b i5 sf a m)]
    let storesD := [(Instr.fstdx b x sf u cc m r, indexedEa s b x sf u m 3),
      (Instr.fstds b i5 sf a cc m r, shortEa s b i5 sf a m)]
    let word : Prop := 3 < r.toNat ∨ r = 0#5 ∧ h = 0#1
    let ref (k : Access) (n : Nat) : DataRef := ⟨k, n, n, false, true⟩
    let all : List ((Instr × Ea) × DataRef) := (loadsW.map fun p => (p, ref .load 4)) ++
      (loadsD.map fun p => (p, ref .load 8)) ++ (storesW.map fun p => (p, ref .store 4)) ++
      (storesD.map fun p => (p, ref .store 8))
    (s.ccrBit 0#3 = false → s.ccrBit 1#3 = false → ∀ p ∈ all,
      (s.dataCheck p.2 p.1.2.space p.1.2.offset = .ok (s', addr) →
        TrapsRef (exec p.1.1 s) s 22 p.2 p.1.2.space p.1.2.offset p.1.2.offset) ∧
      (s.dataCheck p.2 p.1.2.space p.1.2.offset = .refused .unaligned →
        (s.dataBreakpoint p.2.kind p.1.2.offset = .hit →
          TrapsRef (exec p.1.1 s) s 31 p.2 p.1.2.space p.1.2.offset p.1.2.offset) ∧
        (s.dataBreakpoint p.2.kind p.1.2.offset = .none →
          TrapsRef (exec p.1.1 s) s 22 p.2 p.1.2.space p.1.2.offset p.1.2.offset)) ∧
      ∀ n, s.dataCheck p.2 p.1.2.space p.1.2.offset = .trap n →
        TrapsRef (exec p.1.1 s) s n p.2 p.1.2.space p.1.2.offset p.1.2.offset) ∧
    (s.ccrBit 0#3 = true → s.ccrBit 1#3 = true →
      (s.fpT = true → ∀ p ∈ all, (p.2 = ref .store 8 → r ≠ 0#5) → Traps (exec p.1.1 s) s 14) ∧
      (∀ p ∈ all, s.fpT = false ∨ p.2 = ref .store 8 ∧ r = 0#5 → (p.2.size = 4 → word) →
        ∀ n, s.dataCheck p.2 p.1.2.space p.1.2.offset = .trap n →
          TrapsRef (exec p.1.1 s) s n p.2 p.1.2.space p.1.2.offset p.1.2.offset) ∧
      (s.fpT = false →
        (¬ word → ∀ p ∈ loadsW ++ storesW, exec p.1 s = .refused .fpSingleWord) ∧
        (word → ∀ p ∈ loadsW, s.dataCheck (ref .load 4) p.2.space p.2.offset = .ok (s', addr) →
          (r = 0#5 → mbit (s'.loadWord addr) 25 = true → exec p.1 s = .refused .fpSingleWord) ∧
          (r ≠ 0#5 ∨ mbit (s'.loadWord addr) 25 = false →
            Writes (exec p.1 s) s (s'.endIdentify.setFpHalf r (h == 1#1) (s'.loadWord addr)) (base p.2))) ∧
        (∀ p ∈ loadsD, s.dataCheck (ref .load 8) p.2.space p.2.offset = .ok (s', addr) →
          Writes (exec p.1 s) s (s'.endIdentify.setFpr r (s'.loadDword addr)) (base p.2)) ∧
        (word → s.mem.wf = true → ∀ p ∈ storesW,
          s.dataCheck (ref .store 4) p.2.space p.2.offset = .ok (s', addr) →
          Stores (exec p.1 s) s s'.endIdentify b p.2.base addr
            (wordBytes s.pswE (s'.endIdentify.fpHalf r (h == 1#1)))) ∧
        (r ≠ 0#5 → s.mem.wf = true → ∀ p ∈ storesD,
          s.dataCheck (ref .store 8) p.2.space p.2.offset = .ok (s', addr) →
          Stores (exec p.1 s) s s'.endIdentify b p.2.base addr
            (dwordBytes s.pswE (readReg s.fprs r)))) ∧
      (r = 0#5 → s.mem.wf = true → ∀ p ∈ storesD,
        s.dataCheck (ref .store 8) p.2.space p.2.offset = .ok (s', addr) →
        ∃ sr w, Completes (exec p.1 s) s
            { s'.setFpsr (setMbit s.fpsr 25 false) with fpZeroStored := true, mem := w.mem } w (base p.2)
            false none s.pswCB s.pswV ∧
          StoresAt s w addr (dwordBytes s.pswE (sr ++ s.fpHalf 0#5 true)) ∧ w.fpT = false ∧
          (s.fpIdentifyValid = false → sr = s.fpsr) ∧
          (s.fpIdentifyValid = true →
            field sr 5 5 = s.cfg.fpModel ∧ field sr 10 11 = s.cfg.fpRevision)))

/-! ### Assist units -/

/-- The special function unit instructions (R700 to R710): trap 22 with the unit's SCR bit 0; with it 1,
an unarchitected unit's operation changes its state, delivers its result, nullifies on its condition, or
reports an exception (14), which SPOP1 with sop 0 cannot; the unit number 1 is the debug unit's. The model's choice: an unarchitected
unit is a set of free functions (notes/assumptions/19.md and notes/assumptions/20.md). -/
def Obligations.SfuInstructions : Prop :=
  ∀ (s : State) (r2 r1 t : Reg) (o15 : BitVec 15) (o10 : BitVec 10) (o5 z : BitVec 5) (u : BitVec 3)
    (n : BitVec 1),
    (∀ i ∈ [Instr.spop0 o15 u n z, Instr.spop1 o15 u n t, Instr.spop2 r1 o10 u n z,
        Instr.spop3 r2 r1 o5 u n z],
      s.scrBit u = false → Traps (exec i s) s 22) ∧
    (s.scrBit u = true → u ≠ 1#3 →
      (∃ st, Writes (exec (.spop1 0#15 u 0#1 t) s) s
        { s with sfuStates := writeReg8 s.sfuStates u st } [(t, Config.sfuId u)]) ∧
      ∀ p ∈ [(Instr.spop0 o15 u n z, 0, (o15 ++ u ++ n ++ z : BitVec 24).toNat, 0#32, 0#32, []),
          (Instr.spop1 o15 u n t, 1, (o15 ++ u ++ n : BitVec 19).toNat, 0#32, 0#32, [t]),
          (Instr.spop2 r1 o10 u n z, 2, (o10 ++ u ++ n ++ z : BitVec 19).toNat, s.gr r1, 0#32, []),
          (Instr.spop3 r2 r1 o5 u n z, 3, (o5 ++ u ++ n ++ z : BitVec 14).toNat, s.gr r1, s.gr r2, [])],
        (p.2.1 = 1 → ¬ (o15 = 0#15 ∧ n = 0#1)) →
        let old := readReg8 s.sfuStates u
        let arg {α : Type} (g : BitVec 3 → Nat → Nat → BitVec 2 → Word → Word → Nat → α) : α :=
          g u p.2.1 p.2.2.1 s.priv p.2.2.2.1 p.2.2.2.2.1 old
        let raises : Bool := arg Config.sfuRaises && decide (p.2.1 = 1 → o15 ≠ 0#15)
        (raises = true → Traps (exec p.1 s) s 14) ∧
        (raises = false →
          ∃ w, Completes (exec p.1 s) s
            { s with sfuStates := writeReg8 s.sfuStates u (arg Config.sfuState) } w
            (p.2.2.2.2.2.map fun g => (g, arg Config.sfuResult)) (isOne n && arg Config.sfuCond) none
            s.pswCB s.pswV))

/-- COPR of an unarchitected coprocessor (R711, R715, R716): an operation changes the unit's registers, may
report an exception (14), and nullifies when n and its condition, looked at afterwards, hold; IDENTIFY puts
the identification into register 0. A disabled unit is the assist emulation trap (R700). The loads and
stores of an unarchitected coprocessor (R717 to R726): disabled, interruption 22 after the checks of the
reference, for an unaligned untranslated address after its data breakpoints (R893); an exception that the
unit reports (14); an interrupted reference; with a reference that passes
its checks, the unit is told the register (send_to_copr, R711), then the datum is moved. The model's
choice: an unarchitected coprocessor is a set of free functions (notes/assumptions/19.md and
notes/assumptions/20.md), ISR of an untranslated reference is a free value (notes/assumptions/33.md). -/
def Obligations.CoprocessorInstructions : Prop :=
  (∀ (s : State) (o1 : BitVec 17) (u : BitVec 3) (n : BitVec 1) (o2 : BitVec 5),
      u ≠ 0#3 → u ≠ 1#3 →
      (s.ccrBit u = false → Traps (exec (.copr o1 u n o2) s) s 22) ∧
      (s.ccrBit u = true → u ≠ 2#3 →
        let sop : BitVec 22 := o1 ++ o2
        let old := readReg8 s.cprs u
        let new := Config.coprOp u sop n s.priv old
        (sop = 0#22 → n = 0#1 → 4 ≤ u.toNat →
          Writes (exec (.copr o1 u n o2) s) s
            { s with cprs := writeReg8 s.cprs u (writeReg old 0#5 (Config.coprId u)) } []) ∧
        (¬ (sop = 0#22 ∧ n = 0#1 ∧ 4 ≤ u.toNat) →
          (Config.coprRaises u sop n s.priv old = true → Traps (exec (.copr o1 u n o2) s) s 14) ∧
          (Config.coprRaises u sop n s.priv old = false →
            ∃ w, Completes (exec (.copr o1 u n o2) s) s { s with cprs := writeReg8 s.cprs u new } w []
              (isOne n && Config.coprCond u sop n new) none s.pswCB s.pswV)))) ∧
  (∀ u : BitVec 3, (Config.coprId u).setWidth 32 ≠ 0#32 ∧
      (Config.coprId u).setWidth 32 ≠ BitVec.allOnes 32) ∧
  (∀ (s s' : State) (addr : Nat) (b x r : Reg) (sf : BitVec 2) (i5 : BitVec 5) (u m a : BitVec 1)
      (cc : BitVec 2) (uid : BitVec 3), uid ≠ 0#3 → uid ≠ 1#3 →
      let send (store : Bool) := Config.coprSend uid store r (readReg8 s.cprs uid)
      let raises (store : Bool) := Config.coprSendRaises uid store r (readReg8 s.cprs uid)
      let sent (store : Bool) := { s' with cprs := writeReg8 s'.cprs uid (send store) }
      let x2 := indexedEa s b x sf u m 2
      let x3 := indexedEa s b x sf u m 3
      let sh := shortEa s b i5 sf a m
      let ref (k : Access) (n : Nat) : DataRef := ⟨k, n, n, false, true⟩
      (∀ p ∈ [(Instr.cldwx b x sf u cc uid m r, ref .load 4, x2, false),
          (Instr.cldws b i5 sf a cc uid m r, ref .load 4, sh, false),
          (Instr.clddx b x sf u cc uid m r, ref .load 8, x3, false),
          (Instr.cldds b i5 sf a cc uid m r, ref .load 8, sh, false),
          (Instr.cstwx b x sf u cc uid m r, ref .store 4, x2, true),
          (Instr.cstws b i5 sf a cc uid m r, ref .store 4, sh, true),
          (Instr.cstdx b x sf u cc uid m r, ref .store 8, x3, true),
          (Instr.cstds b i5 sf a cc uid m r, ref .store 8, sh, true)],
        let check := s.dataCheck p.2.1 p.2.2.1.space p.2.2.1.offset
        (s.ccrBit uid = false → check = .ok (s', addr) →
          TrapsRef (exec p.1 s) s 22 p.2.1 p.2.2.1.space p.2.2.1.offset p.2.2.1.offset) ∧
        (s.ccrBit uid = false → check = .refused .unaligned →
          (s.dataBreakpoint p.2.1.kind p.2.2.1.offset = .hit →
            TrapsRef (exec p.1 s) s 31 p.2.1 p.2.2.1.space p.2.2.1.offset p.2.2.1.offset) ∧
          (s.dataBreakpoint p.2.1.kind p.2.2.1.offset = .none →
            TrapsRef (exec p.1 s) s 22 p.2.1 p.2.2.1.space p.2.2.1.offset p.2.2.1.offset)) ∧
        (s.ccrBit uid = true → uid ≠ 2#3 → raises p.2.2.2 = true → Traps (exec p.1 s) s 14) ∧
        (s.ccrBit uid = false ∨ uid ≠ 2#3 ∧ raises p.2.2.2 = false → ∀ n, check = .trap n →
          TrapsRef (exec p.1 s) s n p.2.1 p.2.2.1.space p.2.2.1.offset p.2.2.1.offset)) ∧
      (s.ccrBit uid = true → uid ≠ 2#3 → raises false = false →
        ∀ p ∈ [(Instr.cldwx b x sf u cc uid m r, 4, x2, (s'.loadWord addr).setWidth 64),
            (Instr.cldws b i5 sf a cc uid m r, 4, sh, (s'.loadWord addr).setWidth 64),
            (Instr.clddx b x sf u cc uid m r, 8, x3, s'.loadDword addr),
            (Instr.cldds b i5 sf a cc uid m r, 8, sh, s'.loadDword addr)],
          s.dataCheck (ref .load p.2.1) p.2.2.1.space p.2.2.1.offset = .ok (s', addr) →
          Writes (exec p.1 s) s
            { s' with cprs := writeReg8 s'.cprs uid (writeReg (send false) r p.2.2.2) }
            (p.2.2.1.base.map fun v => (b, v)).toList) ∧
      (s.ccrBit uid = true → uid ≠ 2#3 → raises true = false → s.mem.wf = true →
        ∀ p ∈ [(Instr.cstwx b x sf u cc uid m r, 4, x2,
              wordBytes s.pswE ((readReg (send true) r).setWidth 32)),
            (Instr.cstws b i5 sf a cc uid m r, 4, sh,
              wordBytes s.pswE ((readReg (send true) r).setWidth 32)),
            (Instr.cstdx b x sf u cc uid m r, 8, x3, dwordBytes s.pswE (readReg (send true) r)),
            (Instr.cstds b i5 sf a cc uid m r, 8, sh, dwordBytes s.pswE (readReg (send true) r))],
          s.dataCheck (ref .store p.2.1) p.2.2.1.space p.2.2.1.offset = .ok (s', addr) →
          Stores (exec p.1 s) s (sent true) b p.2.2.1.base addr p.2.2.2))

/-- PMENB and PMDIS (R881 to R884): the measurement enable with CCR bit 2, the assist emulation trap
without it. The debug SFU (R887 to R903): with SCR bit 1, the moves to and from its registers; a
register number that does not exist is an undefined operation (U33), as are ones in reserved bits (U1);
without it the assist emulation trap. A breakpoint matches while the unit exists, PSW G is 1 and PSW Y (for
data) or Z (for instructions) is 0: some implemented pair is enabled for the access, and the address bits
that its mask does not exclude are those of its offset register (R890, R892, R893), where no enabled pair
has a 1 under its mask, which is undefined (U32). The model's choice: a register number that does not
exist and ones in reserved bits are refused (notes/assumptions/40.md and notes/assumptions/48.md). -/
def Obligations.MonitorAndDebugUnit : Prop :=
  (∀ s : State,
      (s.ccrBit 2#3 = true →
        Writes (exec .pmenb s) s { s with measurementEnabled := true } [] ∧
        Writes (exec .pmdis s) s { s with measurementEnabled := false } []) ∧
      (s.ccrBit 2#3 = false → Traps (exec .pmenb s) s 22 ∧ Traps (exec .pmdis s) s 22)) ∧
  (∀ (s : State) (r t : Reg), s.scrBit 1#3 = false →
      ∀ i ∈ [Instr.debugid t, Instr.mfdbao r t, Instr.mfdbam r t, Instr.mfibao r t, Instr.mfibam r t,
          Instr.mtdbao r t, Instr.mtdbam r t, Instr.mtibao r t, Instr.mtibam r t],
        Traps (exec i s) s 22) ∧
  (∀ (s : State) (r t : Reg), s.scrBit 1#3 = true →
      Writes (exec (.debugid t) s) s s [(t, debugId s.cfg)] ∧
      (∀ p ∈ [(Instr.mfdbao r t, s.cfg.dbgDreg, s.dbaor), (Instr.mfdbam r t, s.cfg.dbgDreg, s.dbamr),
          (Instr.mfibao r t, s.cfg.dbgIreg, s.ibaor), (Instr.mfibam r t, s.cfg.dbgIreg, s.ibamr)],
        (r < p.2.1 → Writes (exec p.1 s) s s [(t, readReg p.2.2 r)]) ∧
        (p.2.1 ≤ r → exec p.1 s = .refused .debugRegister)) ∧
      ∀ p ∈ [(Instr.mtdbao r t, s.cfg.dbgDreg, 0#32, { s with dbaor := writeReg s.dbaor t (s.gr r) }),
          (Instr.mtdbam r t, s.cfg.dbgDreg, debugReserved s.cfg 0xC0000000#32,
            { s with dbamr := writeReg s.dbamr t (s.gr r) }),
          (Instr.mtibao r t, s.cfg.dbgIreg, 0#32, { s with ibaor := writeReg s.ibaor t (s.gr r) }),
          (Instr.mtibam r t, s.cfg.dbgIreg, debugReserved s.cfg 0x80000000#32,
            { s with ibamr := writeReg s.ibamr t (s.gr r) })],
        (t < p.2.1 → s.gr r &&& p.2.2.1 ≠ 0#32 → exec p.1 s = .refused .reservedBits) ∧
        (t < p.2.1 → s.gr r &&& p.2.2.1 = 0#32 → Writes (exec p.1 s) s p.2.2.2 []) ∧
        (p.2.1 ≤ t → exec p.1 s = .refused .debugRegister)) ∧
  (∀ (s : State) (k : Access) (addr : Word),
      let masked (amr : Word) (j : Nat) : Prop := j < s.cfg.dbgMask.toNat ∧ amr.getLsbD j = true
      let good (aor amr : Word) : Prop := ∀ j, masked amr j → aor.getLsbD j = false
      let hits (addr aor amr : Word) : Prop := ∀ j, ¬ masked amr j → addr.getLsbD j = aor.getLsbD j
      let data (r : Reg) : Prop := r < s.cfg.dbgDreg ∧
        (mbit (readReg s.dbamr r) 0 = true ∧ k ≠ .store ∨ mbit (readReg s.dbamr r) 1 = true ∧ k ≠ .load)
      let code (r : Reg) : Prop := r < s.cfg.dbgIreg ∧ mbit (readReg s.ibamr r) 0 = true
      (s.hasDebug = false ∨ s.pswG = false ∨ s.pswY = true → s.dataBreakpoint k addr = .none) ∧
      (s.hasDebug = false ∨ s.pswG = false ∨ s.pswZ = true → s.instrBreakpoint = .none) ∧
      (s.hasDebug = true → s.pswG = true → s.pswY = false →
        (∀ r, data r → good (readReg s.dbaor r) (readReg s.dbamr r)) →
        ((∃ r, data r ∧ hits addr (readReg s.dbaor r) (readReg s.dbamr r)) →
          s.dataBreakpoint k addr = .hit) ∧
        ((∀ r, data r → ¬ hits addr (readReg s.dbaor r) (readReg s.dbamr r)) →
          s.dataBreakpoint k addr = .none)) ∧
      (s.hasDebug = true → s.pswG = true → s.pswZ = false →
        (∀ r, code r → good (readReg s.ibaor r) (readReg s.ibamr r)) →
        ((∃ r, code r ∧ hits s.iaoqFront (readReg s.ibaor r) (readReg s.ibamr r)) →
          s.instrBreakpoint = .hit) ∧
        ((∀ r, code r → ¬ hits s.iaoqFront (readReg s.ibaor r) (readReg s.ibamr r)) →
          s.instrBreakpoint = .none)))
end

