-- ==== Sys2Proof/Laws/Float.lean ====
section
/-!
SUPPORT. Floating-point bits as numbers: what joined and packed bits are, and that the rounding of
Machine/FpArith.lean is the rounding of Safety.lean.
-/

namespace Sys2Proof.Machine

/-! ### Bits -/

/-- Joined bits as a sum of their fields. -/
theorem fpJoin_eq (f : FpFmt) (neg : Bool) {e frac : Nat}
    (he : e < 2 ^ f.ebits) (hf : frac < 2 ^ f.fbits) :
    fpJoin f neg e frac = neg.toNat * 2 ^ (f.width - 1) + (e * 2 ^ f.fbits + frac) := by
  have h1 : e <<< f.fbits ||| frac = e * 2 ^ f.fbits + frac := by
    rw [← Nat.shiftLeft_add_eq_or_of_lt hf, Nat.shiftLeft_eq]
  have h2 : e * 2 ^ f.fbits + frac < 2 ^ (f.width - 1) := by
    have : f.width - 1 = f.ebits + f.fbits := by unfold FpFmt.width; omega
    rw [this, pow_add]
    calc e * 2 ^ f.fbits + frac < e * 2 ^ f.fbits + 2 ^ f.fbits := by omega
      _ = (e + 1) * 2 ^ f.fbits := by ring
      _ ≤ 2 ^ f.ebits * 2 ^ f.fbits := Nat.mul_le_mul_right _ he
  rw [fpJoin, Nat.or_assoc, h1, ← Nat.shiftLeft_add_eq_or_of_lt h2, Nat.shiftLeft_eq]

/-- The fields of joined bits. -/
theorem fpJoin_fields (f : FpFmt) (neg : Bool) {e frac : Nat}
    (he : e < 2 ^ f.ebits) (hf : frac < 2 ^ f.fbits) :
    fpSign f (fpJoin f neg e frac) = neg ∧ fpExpField f (fpJoin f neg e frac) = e ∧
      fpFrac f (fpJoin f neg e frac) = frac ∧ fpJoin f neg e frac < 2 ^ f.width := by
  have hw : f.width - 1 = f.ebits + f.fbits := by unfold FpFmt.width; omega
  have hw' : f.width = f.ebits + f.fbits + 1 := by unfold FpFmt.width; omega
  have h2 : e * 2 ^ f.fbits + frac < 2 ^ (f.width - 1) := by
    rw [hw, pow_add]
    calc e * 2 ^ f.fbits + frac < e * 2 ^ f.fbits + 2 ^ f.fbits := by omega
      _ = (e + 1) * 2 ^ f.fbits := by ring
      _ ≤ 2 ^ f.ebits * 2 ^ f.fbits := Nat.mul_le_mul_right _ he
  have hp : 0 < 2 ^ f.fbits := by positivity
  have sum : neg.toNat * (2 ^ f.ebits * 2 ^ f.fbits) + (e * 2 ^ f.fbits + frac) =
      frac + 2 ^ f.fbits * (neg.toNat * 2 ^ f.ebits + e) := by ring
  rw [fpJoin_eq f neg he hf]
  refine ⟨?_, ?_, ?_, ?_⟩
  · unfold fpSign
    cases neg
    · simp [Nat.testBit_lt_two_pow h2]
    · simp [Nat.testBit_two_pow_add_eq, Nat.testBit_lt_two_pow h2]
  · unfold fpExpField
    rw [Nat.shiftRight_eq_div_pow, hw, pow_add, sum, Nat.add_mul_div_left _ _ hp, Nat.div_eq_of_lt hf,
      Nat.zero_add, Nat.add_comm, Nat.add_mul_mod_self_right, Nat.mod_eq_of_lt he]
  · unfold fpFrac
    rw [hw, pow_add, sum, Nat.add_mul_mod_self_left, Nat.mod_eq_of_lt hf]
  · have h3 : 2 ^ f.width = 2 ^ (f.width - 1) + 2 ^ (f.width - 1) := by rw [hw, hw', pow_succ]; ring
    cases neg <;> simp <;> omega

/-- What joined bits are as a number. -/
theorem fpJoin_has (f : FpFmt) (neg : Bool) {e frac : Nat} (he : e < f.emask) (hf : frac < 2 ^ f.fbits) :
    FpHas f (fpJoin f neg e frac) neg
      (if e = 0 then frac * (2 : ℝ) ^ (f.emin - f.fbits)
      else (2 ^ f.fbits + frac) * (2 : ℝ) ^ (f.emin - f.fbits + e - 1)) := by
  have he' : e < 2 ^ f.ebits := by unfold FpFmt.emask at he; omega
  obtain ⟨h1, h2, h3, h4⟩ := fpJoin_fields f neg he' hf
  refine ⟨h4, ?_, h1, ?_⟩
  · unfold fpFinite; rw [h2]; omega
  · unfold fpRat fpValue
    simp only [h1, h2, h3]
    rw [if_neg (by omega : ¬ e = f.emask)]
    by_cases h0 : e = 0
    · simp only [h0, if_true]
      by_cases hz : frac = 0
      · simp [hz]
      · simp only [hz, if_false]
        push_cast
        rw [abs_mul, abs_mul]
        rw [abs_of_nonneg (a := ((2:ℝ) ^ (f.emin - f.fbits))) (by positivity)]
        cases neg <;> simp
    · simp only [h0, if_false]
      push_cast
      rw [abs_mul, abs_mul]
      rw [abs_of_nonneg (a := ((2:ℝ) ^ (_:ℤ))) (by positivity),
        abs_of_nonneg (a := ((2:ℝ) ^ f.fbits + frac)) (by positivity)]
      cases neg <;> simp

/-- The largest exponent field and the bias. -/
theorem FpFmt.emask_eq (f : FpFmt) : (f.emask : ℤ) = 2 * f.bias + 1 := by cases f <;> rfl

/-- A power of two moved out of a significand. -/
theorem natMul_zpow (m : ℕ) (a b : ℤ) (k : ℕ) (h : a = b + k) :
    (m * 2 ^ k : ℕ) * (2:ℝ) ^ b = m * (2:ℝ) ^ a := by
  subst h; rw [zpow_add₀ (by norm_num), zpow_natCast]; push_cast; ring

/-- A packed number is that number, where it is one of the format. -/
theorem fpPack_has (f : FpFmt) (neg : Bool) (m : Nat) (q : Int) (hm : m ≠ 0)
    (hi : q + m.log2 ≤ f.bias)
    (hq : if q + m.log2 < f.emin then q = f.emin - f.fbits
      else m.log2 ≤ f.fbits ∨ 2 ^ (m.log2 - f.fbits) ∣ m) :
    FpHas f (fpPack f neg m q) neg (m * (2 : ℝ) ^ q) := by
  have hlo := Nat.log2_self_le hm
  have hhi := Nat.lt_log2_self (n := m)
  unfold fpPack
  by_cases hd : q + m.log2 < f.emin
  · rw [if_pos hd] at hq
    simp only [hd, if_true]
    have hlt : m < 2 ^ f.fbits := by
      have : m.log2 + 1 ≤ f.fbits := by omega
      exact lt_of_lt_of_le hhi (Nat.pow_le_pow_right (by norm_num) this)
    have := fpJoin_has f neg (e := 0) (by cases f <;> decide) hlt
    simpa [hq] using this
  · rw [if_neg hd] at hq
    simp only [hd, if_false]
    set frac := if m.log2 ≤ f.fbits then m <<< (f.fbits - m.log2) else m >>> (m.log2 - f.fbits) with hfrac
    have hb : 1 ≤ q + m.log2 + f.bias := by unfold FpFmt.emin at hd; omega
    have he : (q + m.log2 + f.bias).toNat < f.emask := by have := FpFmt.emask_eq f; omega
    have key : 2 ^ f.fbits ≤ frac ∧ frac < 2 ^ (f.fbits + 1) ∧
        (frac : ℝ) * (2:ℝ) ^ (q + m.log2 - f.fbits) = m * (2:ℝ)^q := by
      rw [hfrac]
      split_ifs with h
      · rw [Nat.shiftLeft_eq]
        refine ⟨?_, ?_, ?_⟩
        · calc 2 ^ f.fbits = 2 ^ m.log2 * 2 ^ (f.fbits - m.log2) := by rw [← pow_add]; congr 1; omega
            _ ≤ _ := Nat.mul_le_mul_right _ hlo
        · calc m * 2 ^ (f.fbits - m.log2) < 2 ^ (m.log2 + 1) * 2 ^ (f.fbits - m.log2) :=
              Nat.mul_lt_mul_of_pos_right hhi (by positivity)
            _ = _ := by rw [← pow_add]; congr 1; omega
        · exact natMul_zpow m _ _ _ (by omega)
      · obtain ⟨c, hc⟩ := hq.resolve_left h
        have hcc : m >>> (m.log2 - f.fbits) = c := by
          rw [Nat.shiftRight_eq_div_pow]
          exact Nat.div_eq_of_eq_mul_right (by positivity) hc
        rw [hcc]
        have hp : 0 < 2 ^ (m.log2 - f.fbits) := by positivity
        refine ⟨?_, ?_, ?_⟩
        · apply Nat.le_of_mul_le_mul_left _ hp
          rw [← hc, ← pow_add]; refine le_trans (le_of_eq ?_) hlo; congr 1; omega
        · apply Nat.lt_of_mul_lt_mul_left (a := 2 ^ (m.log2 - f.fbits))
          rw [← hc, ← pow_add]; refine lt_of_lt_of_eq hhi ?_; congr 1; omega
        · have := natMul_zpow c (q + m.log2 - f.fbits) q (m.log2 - f.fbits) (by omega)
          rw [← this, mul_comm c, ← hc]
    obtain ⟨k1, k2, k3⟩ := key
    have hfl : frac - 2 ^ f.fbits < 2 ^ f.fbits := by rw [pow_succ] at k2; omega
    have := fpJoin_has f neg he hfl
    rw [if_neg (by omega : ¬ (q + m.log2 + f.bias).toNat = 0)] at this
    rw [← k3]
    convert this using 2
    · rw [Nat.cast_sub k1]; push_cast; ring
    · congr 1
      have : ((q + m.log2 + f.bias).toNat : ℤ) = q + m.log2 + f.bias := Int.toNat_of_nonneg (by omega)
      rw [this]; unfold FpFmt.emin; ring

/-- A magnitude with an integer part and a fraction, rounded to an integer. `up` is the decision. -/
theorem roundsTo_of (rm : BitVec 2) (neg : Bool) (v t : ℝ) (quo : Nat) (up : Bool)
    (hv : v = quo + t) (h0 : 0 ≤ t) (h1 : t < 1)
    (n0 : rm = 0#2 → up = true → 1 / 2 < t ∨ t = 1 / 2 ∧ quo % 2 = 1)
    (n1 : rm = 0#2 → up = false → t < 1 / 2 ∨ t = 1 / 2 ∧ quo % 2 = 0)
    (z : rm = 1#2 → up = false)
    (p : rm = 2#2 → (up = true ↔ t ≠ 0 ∧ neg = false))
    (m : rm = 3#2 → (up = true ↔ t ≠ 0 ∧ neg = true)) :
    RoundsTo rm neg v (if up then quo + 1 else quo) := by
  have hr : rm = 0#2 ∨ rm = 1#2 ∨ rm = 2#2 ∨ rm = 3#2 := by bv_omega
  rcases hr with rfl | rfl | rfl | rfl
  · show |_| < 1 / 2 ∨ _
    cases up
    · simp only [Bool.false_eq_true, if_false, hv, add_sub_cancel_left, abs_of_nonneg h0]
      exact n1 rfl rfl
    · simp only [if_true, hv]
      push_cast
      rw [show (quo : ℝ) + t - (quo + 1) = -(1 - t) by ring, abs_neg, abs_of_nonneg (by linarith)]
      rcases n0 rfl rfl with h | ⟨h, h'⟩
      · left; linarith
      · right; exact ⟨by linarith, by omega⟩
  · show _ ≤ _ ∧ _
    rw [z rfl, hv]; simp; exact ⟨h0, h1⟩
  · show if neg = true then _ else _
    have hh := p rfl
    cases neg
    · cases up
      · have : t = 0 := by by_contra h; exact absurd (hh.2 ⟨h, rfl⟩) (by simp)
        simp [hv, this]
      · have : t ≠ 0 := (hh.1 rfl).1
        have : 0 < t := lt_of_le_of_ne h0 (Ne.symm this)
        simp [hv]; constructor <;> linarith
    · have : up = false := by by_contra h; simp at h; exact absurd (hh.1 h).2 (by simp)
      simp [hv, this]; exact ⟨h0, h1⟩
  · show if neg = true then _ else _
    have hh := m rfl
    cases neg
    · have : up = false := by by_contra h; simp at h; exact absurd (hh.1 h).2 (by simp)
      simp [hv, this]; exact ⟨h0, h1⟩
    · cases up
      · have : t = 0 := by by_contra h; exact absurd (hh.2 ⟨h, rfl⟩) (by simp)
        simp [hv, this]
      · have : t ≠ 0 := (hh.1 rfl).1
        have : 0 < t := lt_of_le_of_ne h0 (Ne.symm this)
        simp [hv]; constructor <;> linarith

/-- Rounding to a multiple of 2^q: the multiple, and whether it is the magnitude itself (R776). -/
theorem roundAt_rounds (rm : BitVec 2) (x : FpExact) (f : FpFmt) (v : ℝ) (q : Int) (h : x.Spans f v)
    (hq : x.sticky = true → x.exp < q) :
    RoundsTo rm x.neg (v / (2 : ℝ) ^ q) (roundAt rm x q).1 ∧
      ((roundAt rm x q).2 = false ↔ ((roundAt rm x q).1 : ℝ) * (2 : ℝ) ^ q = v) := by
  have hz : (2 : ℝ) ^ q ≠ 0 := by positivity
  by_cases hle : q ≤ x.exp
  · have hs : x.sticky = false := by by_contra hc; simp at hc; have := hq hc; omega
    have hv : v = x.mant * (2 : ℝ) ^ x.exp := by have := h.2; rwa [if_neg (by simp [hs])] at this
    have e : ((x.mant <<< (x.exp - q).toNat : ℕ) : ℝ) * (2 : ℝ) ^ q = v := by
      rw [Nat.shiftLeft_eq, hv]; exact natMul_zpow _ _ _ _ (by omega)
    have r1 : (roundAt rm x q).1 = x.mant <<< (x.exp - q).toNat := by simp [roundAt, hle]
    have r2 : (roundAt rm x q).2 = x.sticky := by simp [roundAt, hle]
    rw [r1, r2, hs]
    refine ⟨?_, by simp [e]⟩
    rw [← e, mul_div_cancel_right₀ _ hz]
    have := roundsTo_of rm x.neg (x.mant <<< (x.exp - q).toNat : ℕ) 0
      (x.mant <<< (x.exp - q).toNat) false (by simp) (le_refl _) (by norm_num)
      (by simp) (by intro _ _; left; norm_num) (by simp) (by simp) (by simp)
    simpa using this
  · obtain ⟨j, hk⟩ : ∃ j, (q - x.exp).toNat = j + 1 := ⟨(q - x.exp).toNat - 1, by omega⟩
    have hqk : q = x.exp + (j + 1 : ℕ) := by omega
    set quo := x.mant >>> (j + 1) with hquo
    set low := x.mant % 2 ^ (j + 1) with hlow
    have hll : low < 2 ^ (j + 1) := Nat.mod_lt _ (by positivity)
    have hm : x.mant = quo * 2 ^ (j + 1) + low := by
      rw [hquo, hlow, Nat.shiftRight_eq_div_pow]; exact (Nat.div_add_mod' _ _).symm
    have hP : (0 : ℝ) < 2 ^ (j + 1) := by positivity
    have hE : (0 : ℝ) < (2 : ℝ) ^ x.exp := by positivity
    -- the remainder as a fraction of 2^k
    obtain ⟨d, hd0, hd1, hds, hvd⟩ : ∃ d : ℝ, 0 ≤ d ∧ d < 1 ∧ (x.sticky = true ↔ d ≠ 0) ∧
        v = (x.mant + d) * (2 : ℝ) ^ x.exp := by
      have := h.2
      by_cases hs : x.sticky = true
      · rw [if_pos hs] at this
        refine ⟨v / (2 : ℝ) ^ x.exp - x.mant, ?_, ?_, ?_, ?_⟩
        · rw [sub_nonneg, le_div_iff₀ hE]; exact this.1.le
        · rw [sub_lt_iff_lt_add, div_lt_iff₀ hE]; linarith [this.2.1]
        · simp only [hs, true_iff]
          intro hc; rw [sub_eq_zero, div_eq_iff hE.ne'] at hc; linarith [this.1]
        · field_simp; ring
      · rw [if_neg hs] at this
        exact ⟨0, le_refl _, by norm_num, by simp [hs], by simpa using this⟩
    set t : ℝ := (low + d) / 2 ^ (j + 1) with ht
    have ht0 : 0 ≤ t := by positivity
    have hlr : (low : ℝ) + 1 ≤ 2 ^ (j + 1) := by exact_mod_cast hll
    have ht1 : t < 1 := by rw [ht, div_lt_one hP]; linarith
    have hvt : v / (2 : ℝ) ^ q = quo + t := by
      rw [hvd, hqk, zpow_add₀ (by norm_num), zpow_natCast, hm, ht]; push_cast; field_simp; ring
    have hin : (low != 0 || x.sticky) = true ↔ t ≠ 0 := by
      rw [ht, Ne, div_eq_zero_iff, not_or]
      simp only [hP.ne', not_false_eq_true, and_true, Bool.or_eq_true, bne_iff_ne, hds]
      constructor
      · rintro (a | a) hc
        · have : (0:ℝ) < low := by exact_mod_cast Nat.pos_of_ne_zero a
          linarith
        · have : 0 < d := lt_of_le_of_ne hd0 (Ne.symm a)
          have : (0:ℝ) ≤ low := by positivity
          linarith
      · intro a; by_contra hc; push Not at hc; apply a; rw [hc.1, hc.2]; simp
    have half : (2 : ℝ) ^ (j + 1) = 2 * (2 ^ j : ℕ) := by push_cast; ring
    have tl : ∀ c : ℝ, t < c / 2 ↔ low + d < c * (2 ^ j : ℕ) := by
      intro c; rw [ht, div_lt_iff₀ hP, half]; constructor <;> intro h <;> linarith
    have te : t = 1 / 2 ↔ low + d = (2 ^ j : ℕ) := by
      rw [ht, div_eq_iff hP.ne', half]; constructor <;> intro h <;> linarith
    set up : Bool := (match rm.toNat with
      | 0 => decide (2 ^ j < low) || (low == 2 ^ j && (x.sticky || quo % 2 == 1))
      | 1 => false
      | 2 => (low != 0 || x.sticky) && !x.neg
      | _ => (low != 0 || x.sticky) && x.neg) with hup
    have r : roundAt rm x q = (if up then quo + 1 else quo, low != 0 || x.sticky) := by
      unfold roundAt; rw [if_neg hle]; simp only [hk, Nat.add_sub_cancel]; rfl
    rw [r]
    have n0 : rm = 0#2 → up = true → 1 / 2 < t ∨ t = 1 / 2 ∧ quo % 2 = 1 := by
      rintro rfl hu
      simp [hup] at hu
      by_cases hlt : 2 ^ j < low
      · left
        by_contra hc; push Not at hc
        have : ((2 ^ j : ℕ) : ℝ) + 1 ≤ low := by exact_mod_cast hlt
        rcases lt_or_eq_of_le hc with hc | hc
        · rw [tl 1] at hc; linarith
        · rw [te] at hc; linarith
      · obtain ⟨h1, h2⟩ := hu.resolve_left hlt
        have h1' : (low : ℝ) = (2 ^ j : ℕ) := by exact_mod_cast h1
        by_cases hs : x.sticky = true
        · left
          have : 0 < d := lt_of_le_of_ne hd0 (Ne.symm (hds.1 hs))
          by_contra hc; push Not at hc
          rcases lt_or_eq_of_le hc with hc | hc
          · rw [tl 1] at hc; linarith
          · rw [te] at hc; linarith
        · right
          have : d = 0 := by by_contra hc; exact hs (hds.2 hc)
          exact ⟨by rw [te, this, h1']; simp, h2.resolve_left hs⟩
    refine ⟨?_, ?_⟩
    · refine roundsTo_of rm x.neg _ t quo up hvt ht0 ht1 n0 ?_ ?_ ?_ ?_
      · rintro rfl hu
        simp [hup] at hu
        obtain ⟨h1, h2⟩ := hu
        rcases Nat.lt_or_eq_of_le h1 with h1 | h1
        · left; rw [tl 1]
          have : (low : ℝ) + 1 ≤ (2 ^ j : ℕ) := by exact_mod_cast h1
          linarith
        · right
          obtain ⟨h3, h4⟩ := h2 h1
          have h1' : (low : ℝ) = (2 ^ j : ℕ) := by exact_mod_cast h1
          have : d = 0 := by by_contra hc; exact absurd (hds.2 hc) (by simp [h3])
          exact ⟨by rw [te, this, h1']; simp, by omega⟩
      · rintro rfl; rfl
      · rintro rfl
        rw [hup]; show ((low != 0 || x.sticky) && !x.neg) = true ↔ _
        rw [Bool.and_eq_true, hin]; simp
      · rintro rfl
        rw [hup]; show ((low != 0 || x.sticky) && x.neg) = true ↔ _
        rw [Bool.and_eq_true, hin]
    · have hin' : (low != 0 || x.sticky) = false ↔ t = 0 := by
        rw [← Bool.not_eq_true, hin, not_not]
      have e1 : v = (quo + t) * (2 : ℝ) ^ q := by rw [← hvt]; field_simp
      rw [hin', e1]
      constructor
      · intro h0
        have : up = false := by
          by_contra hc
          rw [Bool.not_eq_false] at hc
          have hr : rm = 0#2 ∨ rm = 1#2 ∨ rm = 2#2 ∨ rm = 3#2 := by bv_omega
          have h1 := hin'.2 h0
          rcases hr with rfl | rfl | rfl | rfl
          · rcases n0 rfl hc with h | ⟨h, _⟩ <;> rw [h0] at h <;> norm_num at h
          · exact absurd hc (by simp [hup])
          · have h2 : ((low != 0 || x.sticky) && !x.neg) = true := hc
            rw [h1] at h2; simp at h2
          · have h2 : ((low != 0 || x.sticky) && x.neg) = true := hc
            rw [h1] at h2; simp at h2
        rw [this, h0]; simp
      · intro hc
        have := mul_right_cancel₀ hz hc
        cases hu : up
        · rw [hu] at this; simpa using this.symm
        · rw [hu] at this; push_cast at this; simp at this; linarith

/-! ### Results -/

/-- The magnitude of a number against a power of two. -/
theorem log2_lt_iff_zpow (n : Nat) (hn : n ≠ 0) (q a : Int) :
    q + n.log2 < a ↔ (n : ℝ) * (2:ℝ)^q < (2:ℝ)^a := by
  have hlo : ((2:ℝ)^(n.log2)) ≤ n := by exact_mod_cast Nat.log2_self_le hn
  have hhi : (n:ℝ) < (2:ℝ)^(n.log2+1) := by exact_mod_cast Nat.lt_log2_self (n := n)
  have hq : (0:ℝ) < (2:ℝ)^q := by positivity
  constructor
  · intro h
    calc (n:ℝ) * (2:ℝ)^q < (2:ℝ)^(n.log2+1) * (2:ℝ)^q := by nlinarith
      _ = (2:ℝ)^((n.log2+1 : ℕ) + q : ℤ) := by rw [zpow_add₀ (by norm_num), zpow_natCast]
      _ ≤ _ := zpow_le_zpow_right₀ (by norm_num) (by push_cast; omega)
  · intro h
    by_contra hc
    have : (2:ℝ)^a ≤ (2:ℝ)^((n.log2 : ℕ) + q : ℤ) := zpow_le_zpow_right₀ (by norm_num) (by omega)
    rw [zpow_add₀ (by norm_num), zpow_natCast] at this
    nlinarith

/-- A result with the inexact exception (R800). -/
theorem fpInexact_gives (sr : Word) (bits : Nat) (flags : Word) (b : Bool) (exact : Prop)
    (h : b = false ↔ exact) :
    FpGives (fpInexact sr bits (if b then flags else 0#32) b) sr bits exact flags 0#6 0b000010#6 := by
  unfold fpInexact
  refine ⟨?_,?_,?_⟩
  · intro e; simp [h.2 e]
  · intro e h2; have : b = true := by by_contra hc; simp at hc; exact e (h.1 hc)
    simp [this, h2]
  · intro e h2; have : b = true := by by_contra hc; simp at hc; exact e (h.1 hc)
    simp [this, h2]

/-- A bias-adjusted result with the inexact exception (R794). -/
theorem fpAdjusted_gives (sr : Word) (bits : Nat) (c1 c2 : BitVec 6) (b : Bool) (exact : Prop)
    (h : b = false ↔ exact) :
    FpGives (fpAdjusted sr bits b c1 c2) sr bits exact 0#32 c1 c2 := by
  unfold fpAdjusted
  refine ⟨?_,?_,?_⟩
  · intro e; simp [h.2 e]
  · intro e h2; have : b = true := by by_contra hc; simp at hc; exact e (h.1 hc)
    simp [this, h2]
  · intro e h2; have : b = true := by by_contra hc; simp at hc; exact e (h.1 hc)
    simp [this, h2]

/-- The magnitude lies between the powers of two around its leading bit. -/
theorem FpExact.Spans.bounds {x : FpExact} {f : FpFmt} {v : ℝ} (h : x.Spans f v) :
    (2:ℝ)^x.msb ≤ v ∧ v < (2:ℝ)^(x.msb+1) := by
  have hm := h.1
  have hlo : ((2:ℝ)^(x.mant.log2)) ≤ x.mant := by exact_mod_cast Nat.log2_self_le hm
  have hhi : (x.mant:ℝ) + 1 ≤ (2:ℝ)^(x.mant.log2+1) := by exact_mod_cast Nat.lt_log2_self (n := x.mant)
  have hq : (0:ℝ) < (2:ℝ)^x.exp := by positivity
  have e1 : (2:ℝ)^x.msb = (2:ℝ)^(x.mant.log2) * (2:ℝ)^x.exp := by
    unfold FpExact.msb; rw [zpow_add₀ (by norm_num), zpow_natCast]; ring
  have e2 : (2:ℝ)^(x.msb+1) = (2:ℝ)^(x.mant.log2+1) * (2:ℝ)^x.exp := by
    rw [zpow_add_one₀ (by norm_num), e1]; ring
  rw [e1, e2]
  have := h.2
  split at this
  · constructor <;> nlinarith
  · rw [this]; constructor <;> nlinarith

/-- A rounding does not fall below an integer below the magnitude. -/
theorem RoundsTo.ge {rm neg} {v : ℝ} {n : Nat} (h : RoundsTo rm neg v n) (N : Nat)
    (h1 : (N:ℝ) ≤ v) : N ≤ n := by
  have : (N:ℝ) < n + 1 := by
    unfold RoundsTo at h
    split at h
    · rcases h with h | h
      · have := abs_le.1 (le_of_lt h); linarith
      · have := abs_le.1 h.1.le; linarith
    · linarith
    · split at h <;> linarith
    · split at h <;> linarith
  have : N < n + 1 := by exact_mod_cast this
  omega

/-- A rounding does not pass an integer above the magnitude. -/
theorem RoundsTo.le {rm neg} {v : ℝ} {n : Nat} (h : RoundsTo rm neg v n) (N : Nat)
    (h1 : v < N) : n ≤ N := by
  have : (n:ℝ) < N + 1 := by
    unfold RoundsTo at h
    split at h
    · rcases h with h | h
      · have := abs_le.1 (le_of_lt h); linarith
      · have := abs_le.1 h.1.le; linarith
    · linarith
    · split at h <;> linarith
    · split at h <;> linarith
  have : n < N + 1 := by exact_mod_cast this
  omega

/-- An operand that is no NaN: an infinity, a zero, or a number with its significand and exponent (R752). -/
theorem fpValue_cases (f : FpFmt) (x : Nat) (h : fpIsNan f x = false) :
    (¬ fpFinite f x ∧ fpValue f x = .inf (fpSign f x)) ∨
    (fpFinite f x ∧ fpValue f x = .zero (fpSign f x) ∧ fpRat f x = 0) ∨
    (fpFinite f x ∧ ∃ m e, m ≠ 0 ∧ fpValue f x = .num (fpSign f x) m e ∧
      fpRat f x = (if fpSign f x then -1 else 1) * m * 2 ^ e ∧ m.log2 ≤ f.fbits ∧ e + m.log2 ≤ f.bias ∧ f.emin - f.fbits ≤ e) := by
  by_cases hf : fpFinite f x
  · right
    have hv : fpValue f x = if fpExpField f x = 0 then
        if fpFrac f x = 0 then .zero (fpSign f x)
        else .num (fpSign f x) (fpFrac f x) (f.emin - f.fbits)
      else .num (fpSign f x) (2 ^ f.fbits + fpFrac f x) (f.emin - f.fbits + fpExpField f x - 1) := by
      unfold fpValue; simp only; rw [if_neg hf]
    have hfr : fpFrac f x < 2 ^ f.fbits := Nat.mod_lt _ (by positivity)
    have hex : fpExpField f x < 2 ^ f.ebits := Nat.mod_lt _ (by positivity)
    have hne : fpExpField f x ≠ f.emask := hf
    have hem := FpFmt.emask_eq f
    have hp : 0 < 2 ^ f.ebits := by positivity
    have hlt : (fpExpField f x : ℤ) < f.emask := by unfold FpFmt.emask at hne ⊢; omega
    split_ifs at hv with h1 h2
    · left; exact ⟨hf, hv, by simp [fpRat, hv]⟩
    · right; refine ⟨hf, _, _, h2, hv, by simp [fpRat, hv], ?_, ?_, le_refl _⟩
      · by_contra hc; have := (Nat.le_log2 h2).1 (show f.fbits ≤ _ by omega); omega
      · have : (fpFrac f x).log2 < f.fbits := by
          by_contra hc; have := (Nat.le_log2 h2).1 (show f.fbits ≤ _ by omega); omega
        have : f.emin ≤ f.bias := by cases f <;> decide
        omega
    · right
      have h0 : 2 ^ f.fbits + fpFrac f x ≠ 0 := by have : 0 < 2 ^ f.fbits := by positivity
                                                   omega
      have hl : (2 ^ f.fbits + fpFrac f x).log2 ≤ f.fbits := by
        by_contra hc
        have := (Nat.le_log2 h0).1 (show f.fbits + 1 ≤ _ by omega)
        rw [pow_succ] at this; omega
      refine ⟨hf, _, _, h0, hv, by simp [fpRat, hv], hl, ?_, by omega⟩
      have : f.emin = 1 - f.bias := rfl
      omega
  · left
    refine ⟨hf, ?_⟩
    unfold fpValue; simp only
    rw [if_pos (by unfold fpFinite at hf; push Not at hf; exact hf)]

end Sys2Proof.Machine
end

