-- ==== Sys2Proof/Laws/Memory.lean ====
section
/-!
SUPPORT. Every memory operation keeps the canonical form; what a byte reads as after a write.
-/

namespace Sys2Proof.Machine

theorem Memory.wfAbove_weaken {a b : Nat} {m : Memory} (h : a ≤ b) (w : Memory.wfAbove b m = true) :
    Memory.wfAbove a m = true := by
  cases m with
  | nil => rfl
  | cons c rest =>
    simp only [Memory.wfAbove, Bool.and_eq_true, decide_eq_true_eq] at *
    exact ⟨⟨by omega, w.1.2⟩, w.2⟩

theorem Memory.wf_of_wfAbove {a : Nat} {m : Memory} (w : Memory.wfAbove a m = true) :
    m.wf = true := by
  cases m with
  | nil => rfl
  | cons c rest =>
    simp only [Memory.wfAbove, Memory.wf, Bool.and_eq_true, decide_eq_true_eq] at *
    exact ⟨w.1.2, w.2⟩

theorem Memory.setByte_wfAbove {b a : Nat} {m : Memory} {v : Byte} (h : b < a)
    (w : Memory.wfAbove b m = true) : Memory.wfAbove b (m.setByte a v) = true := by
  induction m generalizing b with
  | nil => by_cases e : v = Memory.unlisted <;> simp [Memory.setByte, Memory.wfAbove, e, h]
  | cons c rest ih =>
    obtain ⟨k, x⟩ := c
    simp only [Memory.wfAbove, Bool.and_eq_true, decide_eq_true_eq] at w
    obtain ⟨⟨hb, hx⟩, hr⟩ := w
    unfold Memory.setByte
    split
    · rename_i hlt
      split
      · simp [Memory.wfAbove, hb, hx, hr]
      · rename_i e; simp [Memory.wfAbove, hx, hr, e, h, hlt]
    · split
      · rename_i heq
        subst heq
        split
        · exact Memory.wfAbove_weaken (by omega) hr
        · rename_i e; simp [Memory.wfAbove, hr, e, h]
      · simp [Memory.wfAbove, hb, hx, ih (show k < a by omega) hr]

/-- A byte write keeps the canonical form. -/
theorem Memory.setByte_wf {m : Memory} (a : Nat) (v : Byte) (w : m.wf = true) :
    (m.setByte a v).wf = true := by
  cases m with
  | nil => by_cases e : v = Memory.unlisted <;> simp [Memory.setByte, Memory.wf, Memory.wfAbove, e]
  | cons c rest =>
    obtain ⟨k, x⟩ := c
    simp only [Memory.wf, Bool.and_eq_true, decide_eq_true_eq] at w
    obtain ⟨hx, hr⟩ := w
    unfold Memory.setByte
    split
    · rename_i hlt
      split
      · simp [Memory.wf, hx, hr]
      · rename_i e; simp [Memory.wf, Memory.wfAbove, hx, hr, e, hlt]
    · split
      · rename_i heq
        split
        · exact Memory.wf_of_wfAbove hr
        · rename_i e; subst heq; simp [Memory.wf, hr, e]
      · simp [Memory.wf, hx, Memory.setByte_wfAbove (show k < a by omega) hr]

/-- A write of several bytes keeps the canonical form. -/
theorem Memory.setBytes_wf {m : Memory} (a : Nat) (bs : List Byte) (w : m.wf = true) :
    (m.setBytes a bs).wf = true := by
  induction bs generalizing m a with
  | nil => exact w
  | cons b rest ih => exact ih (a + 1) (Memory.setByte_wf a b w)

theorem Memory.byteAt_wfAbove {a b : Nat} {m : Memory} (h : a ≤ b)
    (w : Memory.wfAbove b m = true) : m.byteAt a = Memory.unlisted := by
  induction m generalizing b with
  | nil => rfl
  | cons c rest ih =>
    obtain ⟨k, x⟩ := c
    simp only [Memory.wfAbove, Bool.and_eq_true, decide_eq_true_eq] at w
    have : k ≠ a := by omega
    rw [Memory.byteAt, if_neg this]
    exact ih (show a ≤ k by omega) w.2

/-- A byte after a write to it, and every other byte. -/
theorem Memory.byteAt_setByte {m : Memory} (w : m.wf = true) (a b : Nat) (v : Byte) :
    (m.setByte a v).byteAt b = if b = a then v else m.byteAt b := by
  induction m with
  | nil =>
    by_cases e : v = Memory.unlisted <;> by_cases h : b = a
    · simp [Memory.setByte, e, Memory.byteAt]
    · simp [Memory.setByte, e, Memory.byteAt]
    · simp [Memory.setByte, e, Memory.byteAt, h]
    · simp [Memory.setByte, e, Memory.byteAt, h, Ne.symm h]
  | cons c rest ih =>
    obtain ⟨k, x⟩ := c
    simp only [Memory.wf, Bool.and_eq_true, decide_eq_true_eq] at w
    obtain ⟨hx, hr⟩ := w
    unfold Memory.setByte
    split
    · rename_i hlt
      split
      · rename_i e
        by_cases h : b = a
        · subst h
          rw [if_pos rfl, e, Memory.byteAt, if_neg (by omega)]
          exact Memory.byteAt_wfAbove (by omega) hr
        · rw [if_neg h]
      · by_cases h : b = a
        · simp [Memory.byteAt, h]
        · rw [if_neg h, Memory.byteAt, if_neg (Ne.symm h)]
    · split
      · rename_i heq
        subst heq
        split
        · rename_i e
          by_cases h : b = a
          · subst h
            rw [if_pos rfl, e]
            exact Memory.byteAt_wfAbove (Nat.le_refl _) hr
          · rw [if_neg h, Memory.byteAt, if_neg (Ne.symm h)]
        · by_cases h : b = a
          · simp [Memory.byteAt, h]
          · simp [Memory.byteAt, h, Ne.symm h]
      · rename_i h1 h2
        have hk : k < a := by omega
        rw [Memory.byteAt, ih (Memory.wf_of_wfAbove hr), Memory.byteAt]
        by_cases hb : b = a
        · have : ¬ k = b := by omega
          simp [hb, hk.ne]
        · simp [hb]

/-- A byte outside the stored bytes keeps its value. -/
theorem Memory.byteAt_setBytes_outside {m : Memory} (w : m.wf = true) (a b : Nat) (bs : List Byte)
    (h : b < a ∨ a + bs.length ≤ b) : (m.setBytes a bs).byteAt b = m.byteAt b := by
  induction bs generalizing m a with
  | nil => rfl
  | cons v rest ih =>
    simp only [List.length_cons] at h
    rw [Memory.setBytes, ih (Memory.setByte_wf a v w) (a + 1) (by omega), Memory.byteAt_setByte w,
      if_neg (by omega)]

/-- A stored byte reads back. -/
theorem Memory.byteAt_setBytes_inside {m : Memory} (w : m.wf = true) (a i : Nat) (bs : List Byte)
    (h : i < bs.length) : (m.setBytes a bs).byteAt (a + i) = bs[i] := by
  induction bs generalizing m a i with
  | nil => simp at h
  | cons v rest ih =>
    cases i with
    | zero =>
      rw [Memory.setBytes, Memory.byteAt_setBytes_outside (Memory.setByte_wf a v w) _ _ _ (by omega),
        Memory.byteAt_setByte w]
      simp
    | succ i =>
      have := ih (Memory.setByte_wf a v w) (a + 1) i (by simpa using h)
      rw [Memory.setBytes, show a + (i + 1) = a + 1 + i by omega, this]
      simp

/-- The memory after reset is canonical. -/
theorem reset_memory_wf : State.reset.mem.wf = true := rfl

/-- A store keeps the canonical form. -/
theorem State.storeBytes_wf {s : State} (a : Nat) (bs : List Byte) (w : s.mem.wf = true) :
    (s.storeBytes a bs).mem.wf = true := Memory.setBytes_wf a bs w

end Sys2Proof.Machine
end

