-- ==== Sys2Proof/Laws/State.lean ====
section
/-!
SUPPORT. What each update of the state leaves in each field, and what the accessors read after it.
-/

set_option Elab.async false

namespace Sys2Proof.Machine

/-! ### `State.setGr` changes `grs` only -/

@[simp] theorem State.setGr_cfg (s : State) (r : Reg) (v : Word) : (s.setGr r v).cfg = s.cfg := by
  unfold State.setGr; split <;> rfl
@[simp] theorem State.setGr_shr (s : State) (r : Reg) (v : Word) : (s.setGr r v).shr = s.shr := by
  unfold State.setGr; split <;> rfl
@[simp] theorem State.setGr_srs (s : State) (r : Reg) (v : Word) : (s.setGr r v).srs = s.srs := by
  unfold State.setGr; split <;> rfl
@[simp] theorem State.setGr_psw (s : State) (r : Reg) (v : Word) : (s.setGr r v).psw = s.psw := by
  unfold State.setGr; split <;> rfl
@[simp] theorem State.setGr_iaoqFront (s : State) (r : Reg) (v : Word) : (s.setGr r v).iaoqFront = s.iaoqFront := by
  unfold State.setGr; split <;> rfl
@[simp] theorem State.setGr_iaoqBack (s : State) (r : Reg) (v : Word) : (s.setGr r v).iaoqBack = s.iaoqBack := by
  unfold State.setGr; split <;> rfl
@[simp] theorem State.setGr_iasqFront (s : State) (r : Reg) (v : Word) : (s.setGr r v).iasqFront = s.iasqFront := by
  unfold State.setGr; split <;> rfl
@[simp] theorem State.setGr_iasqBack (s : State) (r : Reg) (v : Word) : (s.setGr r v).iasqBack = s.iasqBack := by
  unfold State.setGr; split <;> rfl
@[simp] theorem State.setGr_rctr (s : State) (r : Reg) (v : Word) : (s.setGr r v).rctr = s.rctr := by
  unfold State.setGr; split <;> rfl
@[simp] theorem State.setGr_pid1 (s : State) (r : Reg) (v : Word) : (s.setGr r v).pid1 = s.pid1 := by
  unfold State.setGr; split <;> rfl
@[simp] theorem State.setGr_pid2 (s : State) (r : Reg) (v : Word) : (s.setGr r v).pid2 = s.pid2 := by
  unfold State.setGr; split <;> rfl
@[simp] theorem State.setGr_pid3 (s : State) (r : Reg) (v : Word) : (s.setGr r v).pid3 = s.pid3 := by
  unfold State.setGr; split <;> rfl
@[simp] theorem State.setGr_pid4 (s : State) (r : Reg) (v : Word) : (s.setGr r v).pid4 = s.pid4 := by
  unfold State.setGr; split <;> rfl
@[simp] theorem State.setGr_scr (s : State) (r : Reg) (v : Word) : (s.setGr r v).scr = s.scr := by
  unfold State.setGr; split <;> rfl
@[simp] theorem State.setGr_ccr (s : State) (r : Reg) (v : Word) : (s.setGr r v).ccr = s.ccr := by
  unfold State.setGr; split <;> rfl
@[simp] theorem State.setGr_sar (s : State) (r : Reg) (v : Word) : (s.setGr r v).sar = s.sar := by
  unfold State.setGr; split <;> rfl
@[simp] theorem State.setGr_iva (s : State) (r : Reg) (v : Word) : (s.setGr r v).iva = s.iva := by
  unfold State.setGr; split <;> rfl
@[simp] theorem State.setGr_eiem (s : State) (r : Reg) (v : Word) : (s.setGr r v).eiem = s.eiem := by
  unfold State.setGr; split <;> rfl
@[simp] theorem State.setGr_itmr (s : State) (r : Reg) (v : Word) : (s.setGr r v).itmr = s.itmr := by
  unfold State.setGr; split <;> rfl
@[simp] theorem State.setGr_itmrCmp (s : State) (r : Reg) (v : Word) : (s.setGr r v).itmrCmp = s.itmrCmp := by
  unfold State.setGr; split <;> rfl
@[simp] theorem State.setGr_iiasqFront (s : State) (r : Reg) (v : Word) : (s.setGr r v).iiasqFront = s.iiasqFront := by
  unfold State.setGr; split <;> rfl
@[simp] theorem State.setGr_iiasqBack (s : State) (r : Reg) (v : Word) : (s.setGr r v).iiasqBack = s.iiasqBack := by
  unfold State.setGr; split <;> rfl
@[simp] theorem State.setGr_iiaoqFront (s : State) (r : Reg) (v : Word) : (s.setGr r v).iiaoqFront = s.iiaoqFront := by
  unfold State.setGr; split <;> rfl
@[simp] theorem State.setGr_iiaoqBack (s : State) (r : Reg) (v : Word) : (s.setGr r v).iiaoqBack = s.iiaoqBack := by
  unfold State.setGr; split <;> rfl
@[simp] theorem State.setGr_iir (s : State) (r : Reg) (v : Word) : (s.setGr r v).iir = s.iir := by
  unfold State.setGr; split <;> rfl
@[simp] theorem State.setGr_isr (s : State) (r : Reg) (v : Word) : (s.setGr r v).isr = s.isr := by
  unfold State.setGr; split <;> rfl
@[simp] theorem State.setGr_ior (s : State) (r : Reg) (v : Word) : (s.setGr r v).ior = s.ior := by
  unfold State.setGr; split <;> rfl
@[simp] theorem State.setGr_ipsw (s : State) (r : Reg) (v : Word) : (s.setGr r v).ipsw = s.ipsw := by
  unfold State.setGr; split <;> rfl
@[simp] theorem State.setGr_eirr (s : State) (r : Reg) (v : Word) : (s.setGr r v).eirr = s.eirr := by
  unfold State.setGr; split <;> rfl
@[simp] theorem State.setGr_trs (s : State) (r : Reg) (v : Word) : (s.setGr r v).trs = s.trs := by
  unfold State.setGr; split <;> rfl
@[simp] theorem State.setGr_defaultEndian (s : State) (r : Reg) (v : Word) : (s.setGr r v).defaultEndian = s.defaultEndian := by
  unfold State.setGr; split <;> rfl
@[simp] theorem State.setGr_itlb (s : State) (r : Reg) (v : Word) : (s.setGr r v).itlb = s.itlb := by
  unfold State.setGr; split <;> rfl
@[simp] theorem State.setGr_dtlb (s : State) (r : Reg) (v : Word) : (s.setGr r v).dtlb = s.dtlb := by
  unfold State.setGr; split <;> rfl
@[simp] theorem State.setGr_pendHpmc (s : State) (r : Reg) (v : Word) : (s.setGr r v).pendHpmc = s.pendHpmc := by
  unfold State.setGr; split <;> rfl
@[simp] theorem State.setGr_pendPowerFail (s : State) (r : Reg) (v : Word) : (s.setGr r v).pendPowerFail = s.pendPowerFail := by
  unfold State.setGr; split <;> rfl
@[simp] theorem State.setGr_pendLpmc (s : State) (r : Reg) (v : Word) : (s.setGr r v).pendLpmc = s.pendLpmc := by
  unfold State.setGr; split <;> rfl
@[simp] theorem State.setGr_pendPerfmon (s : State) (r : Reg) (v : Word) : (s.setGr r v).pendPerfmon = s.pendPerfmon := by
  unfold State.setGr; split <;> rfl
@[simp] theorem State.setGr_fprs (s : State) (r : Reg) (v : Word) : (s.setGr r v).fprs = s.fprs := by
  unfold State.setGr; split <;> rfl
@[simp] theorem State.setGr_fpIdentifyValid (s : State) (r : Reg) (v : Word) : (s.setGr r v).fpIdentifyValid = s.fpIdentifyValid := by
  unfold State.setGr; split <;> rfl
@[simp] theorem State.setGr_fpZeroStored (s : State) (r : Reg) (v : Word) : (s.setGr r v).fpZeroStored = s.fpZeroStored := by
  unfold State.setGr; split <;> rfl
@[simp] theorem State.setGr_fpBracketed (s : State) (r : Reg) (v : Word) : (s.setGr r v).fpBracketed = s.fpBracketed := by
  unfold State.setGr; split <;> rfl
@[simp] theorem State.setGr_measurementEnabled (s : State) (r : Reg) (v : Word) : (s.setGr r v).measurementEnabled = s.measurementEnabled := by
  unfold State.setGr; split <;> rfl
@[simp] theorem State.setGr_dbaor (s : State) (r : Reg) (v : Word) : (s.setGr r v).dbaor = s.dbaor := by
  unfold State.setGr; split <;> rfl
@[simp] theorem State.setGr_dbamr (s : State) (r : Reg) (v : Word) : (s.setGr r v).dbamr = s.dbamr := by
  unfold State.setGr; split <;> rfl
@[simp] theorem State.setGr_ibaor (s : State) (r : Reg) (v : Word) : (s.setGr r v).ibaor = s.ibaor := by
  unfold State.setGr; split <;> rfl
@[simp] theorem State.setGr_ibamr (s : State) (r : Reg) (v : Word) : (s.setGr r v).ibamr = s.ibamr := by
  unfold State.setGr; split <;> rfl
@[simp] theorem State.setGr_cprs (s : State) (r : Reg) (v : Word) : (s.setGr r v).cprs = s.cprs := by
  unfold State.setGr; split <;> rfl
@[simp] theorem State.setGr_sfuStates (s : State) (r : Reg) (v : Word) : (s.setGr r v).sfuStates = s.sfuStates := by
  unfold State.setGr; split <;> rfl
@[simp] theorem State.setGr_mem (s : State) (r : Reg) (v : Word) : (s.setGr r v).mem = s.mem := by
  unfold State.setGr; split <;> rfl
@[simp] theorem State.setGr_iword (s : State) (r : Reg) (v : Word) : (s.setGr r v).iword = s.iword := by
  unfold State.setGr; split <;> rfl
@[simp] theorem State.setGr_draws (s : State) (r : Reg) (v : Word) : (s.setGr r v).draws = s.draws := by
  unfold State.setGr; split <;> rfl
@[simp] theorem State.setGr_inputs (s : State) (r : Reg) (v : Word) : (s.setGr r v).inputs = s.inputs := by
  unfold State.setGr; split <;> rfl
@[simp] theorem State.setGr_itmrPhase (s : State) (r : Reg) (v : Word) : (s.setGr r v).itmrPhase = s.itmrPhase := by
  unfold State.setGr; split <;> rfl

/-! ### `State.setSr` changes `srs` only -/

@[simp] theorem State.setSr_cfg (s : State) (r : BitVec 3) (v : Word) : (s.setSr r v).cfg = s.cfg := by
  unfold State.setSr; split <;> rfl
@[simp] theorem State.setSr_grs (s : State) (r : BitVec 3) (v : Word) : (s.setSr r v).grs = s.grs := by
  unfold State.setSr; split <;> rfl
@[simp] theorem State.setSr_shr (s : State) (r : BitVec 3) (v : Word) : (s.setSr r v).shr = s.shr := by
  unfold State.setSr; split <;> rfl
@[simp] theorem State.setSr_psw (s : State) (r : BitVec 3) (v : Word) : (s.setSr r v).psw = s.psw := by
  unfold State.setSr; split <;> rfl
@[simp] theorem State.setSr_iaoqFront (s : State) (r : BitVec 3) (v : Word) : (s.setSr r v).iaoqFront = s.iaoqFront := by
  unfold State.setSr; split <;> rfl
@[simp] theorem State.setSr_iaoqBack (s : State) (r : BitVec 3) (v : Word) : (s.setSr r v).iaoqBack = s.iaoqBack := by
  unfold State.setSr; split <;> rfl
@[simp] theorem State.setSr_iasqFront (s : State) (r : BitVec 3) (v : Word) : (s.setSr r v).iasqFront = s.iasqFront := by
  unfold State.setSr; split <;> rfl
@[simp] theorem State.setSr_iasqBack (s : State) (r : BitVec 3) (v : Word) : (s.setSr r v).iasqBack = s.iasqBack := by
  unfold State.setSr; split <;> rfl
@[simp] theorem State.setSr_rctr (s : State) (r : BitVec 3) (v : Word) : (s.setSr r v).rctr = s.rctr := by
  unfold State.setSr; split <;> rfl
@[simp] theorem State.setSr_pid1 (s : State) (r : BitVec 3) (v : Word) : (s.setSr r v).pid1 = s.pid1 := by
  unfold State.setSr; split <;> rfl
@[simp] theorem State.setSr_pid2 (s : State) (r : BitVec 3) (v : Word) : (s.setSr r v).pid2 = s.pid2 := by
  unfold State.setSr; split <;> rfl
@[simp] theorem State.setSr_pid3 (s : State) (r : BitVec 3) (v : Word) : (s.setSr r v).pid3 = s.pid3 := by
  unfold State.setSr; split <;> rfl
@[simp] theorem State.setSr_pid4 (s : State) (r : BitVec 3) (v : Word) : (s.setSr r v).pid4 = s.pid4 := by
  unfold State.setSr; split <;> rfl
@[simp] theorem State.setSr_scr (s : State) (r : BitVec 3) (v : Word) : (s.setSr r v).scr = s.scr := by
  unfold State.setSr; split <;> rfl
@[simp] theorem State.setSr_ccr (s : State) (r : BitVec 3) (v : Word) : (s.setSr r v).ccr = s.ccr := by
  unfold State.setSr; split <;> rfl
@[simp] theorem State.setSr_sar (s : State) (r : BitVec 3) (v : Word) : (s.setSr r v).sar = s.sar := by
  unfold State.setSr; split <;> rfl
@[simp] theorem State.setSr_iva (s : State) (r : BitVec 3) (v : Word) : (s.setSr r v).iva = s.iva := by
  unfold State.setSr; split <;> rfl
@[simp] theorem State.setSr_eiem (s : State) (r : BitVec 3) (v : Word) : (s.setSr r v).eiem = s.eiem := by
  unfold State.setSr; split <;> rfl
@[simp] theorem State.setSr_itmr (s : State) (r : BitVec 3) (v : Word) : (s.setSr r v).itmr = s.itmr := by
  unfold State.setSr; split <;> rfl
@[simp] theorem State.setSr_itmrCmp (s : State) (r : BitVec 3) (v : Word) : (s.setSr r v).itmrCmp = s.itmrCmp := by
  unfold State.setSr; split <;> rfl
@[simp] theorem State.setSr_iiasqFront (s : State) (r : BitVec 3) (v : Word) : (s.setSr r v).iiasqFront = s.iiasqFront := by
  unfold State.setSr; split <;> rfl
@[simp] theorem State.setSr_iiasqBack (s : State) (r : BitVec 3) (v : Word) : (s.setSr r v).iiasqBack = s.iiasqBack := by
  unfold State.setSr; split <;> rfl
@[simp] theorem State.setSr_iiaoqFront (s : State) (r : BitVec 3) (v : Word) : (s.setSr r v).iiaoqFront = s.iiaoqFront := by
  unfold State.setSr; split <;> rfl
@[simp] theorem State.setSr_iiaoqBack (s : State) (r : BitVec 3) (v : Word) : (s.setSr r v).iiaoqBack = s.iiaoqBack := by
  unfold State.setSr; split <;> rfl
@[simp] theorem State.setSr_iir (s : State) (r : BitVec 3) (v : Word) : (s.setSr r v).iir = s.iir := by
  unfold State.setSr; split <;> rfl
@[simp] theorem State.setSr_isr (s : State) (r : BitVec 3) (v : Word) : (s.setSr r v).isr = s.isr := by
  unfold State.setSr; split <;> rfl
@[simp] theorem State.setSr_ior (s : State) (r : BitVec 3) (v : Word) : (s.setSr r v).ior = s.ior := by
  unfold State.setSr; split <;> rfl
@[simp] theorem State.setSr_ipsw (s : State) (r : BitVec 3) (v : Word) : (s.setSr r v).ipsw = s.ipsw := by
  unfold State.setSr; split <;> rfl
@[simp] theorem State.setSr_eirr (s : State) (r : BitVec 3) (v : Word) : (s.setSr r v).eirr = s.eirr := by
  unfold State.setSr; split <;> rfl
@[simp] theorem State.setSr_trs (s : State) (r : BitVec 3) (v : Word) : (s.setSr r v).trs = s.trs := by
  unfold State.setSr; split <;> rfl
@[simp] theorem State.setSr_defaultEndian (s : State) (r : BitVec 3) (v : Word) : (s.setSr r v).defaultEndian = s.defaultEndian := by
  unfold State.setSr; split <;> rfl
@[simp] theorem State.setSr_itlb (s : State) (r : BitVec 3) (v : Word) : (s.setSr r v).itlb = s.itlb := by
  unfold State.setSr; split <;> rfl
@[simp] theorem State.setSr_dtlb (s : State) (r : BitVec 3) (v : Word) : (s.setSr r v).dtlb = s.dtlb := by
  unfold State.setSr; split <;> rfl
@[simp] theorem State.setSr_pendHpmc (s : State) (r : BitVec 3) (v : Word) : (s.setSr r v).pendHpmc = s.pendHpmc := by
  unfold State.setSr; split <;> rfl
@[simp] theorem State.setSr_pendPowerFail (s : State) (r : BitVec 3) (v : Word) : (s.setSr r v).pendPowerFail = s.pendPowerFail := by
  unfold State.setSr; split <;> rfl
@[simp] theorem State.setSr_pendLpmc (s : State) (r : BitVec 3) (v : Word) : (s.setSr r v).pendLpmc = s.pendLpmc := by
  unfold State.setSr; split <;> rfl
@[simp] theorem State.setSr_pendPerfmon (s : State) (r : BitVec 3) (v : Word) : (s.setSr r v).pendPerfmon = s.pendPerfmon := by
  unfold State.setSr; split <;> rfl
@[simp] theorem State.setSr_fprs (s : State) (r : BitVec 3) (v : Word) : (s.setSr r v).fprs = s.fprs := by
  unfold State.setSr; split <;> rfl
@[simp] theorem State.setSr_fpIdentifyValid (s : State) (r : BitVec 3) (v : Word) : (s.setSr r v).fpIdentifyValid = s.fpIdentifyValid := by
  unfold State.setSr; split <;> rfl
@[simp] theorem State.setSr_fpZeroStored (s : State) (r : BitVec 3) (v : Word) : (s.setSr r v).fpZeroStored = s.fpZeroStored := by
  unfold State.setSr; split <;> rfl
@[simp] theorem State.setSr_fpBracketed (s : State) (r : BitVec 3) (v : Word) : (s.setSr r v).fpBracketed = s.fpBracketed := by
  unfold State.setSr; split <;> rfl
@[simp] theorem State.setSr_measurementEnabled (s : State) (r : BitVec 3) (v : Word) : (s.setSr r v).measurementEnabled = s.measurementEnabled := by
  unfold State.setSr; split <;> rfl
@[simp] theorem State.setSr_dbaor (s : State) (r : BitVec 3) (v : Word) : (s.setSr r v).dbaor = s.dbaor := by
  unfold State.setSr; split <;> rfl
@[simp] theorem State.setSr_dbamr (s : State) (r : BitVec 3) (v : Word) : (s.setSr r v).dbamr = s.dbamr := by
  unfold State.setSr; split <;> rfl
@[simp] theorem State.setSr_ibaor (s : State) (r : BitVec 3) (v : Word) : (s.setSr r v).ibaor = s.ibaor := by
  unfold State.setSr; split <;> rfl
@[simp] theorem State.setSr_ibamr (s : State) (r : BitVec 3) (v : Word) : (s.setSr r v).ibamr = s.ibamr := by
  unfold State.setSr; split <;> rfl
@[simp] theorem State.setSr_cprs (s : State) (r : BitVec 3) (v : Word) : (s.setSr r v).cprs = s.cprs := by
  unfold State.setSr; split <;> rfl
@[simp] theorem State.setSr_sfuStates (s : State) (r : BitVec 3) (v : Word) : (s.setSr r v).sfuStates = s.sfuStates := by
  unfold State.setSr; split <;> rfl
@[simp] theorem State.setSr_mem (s : State) (r : BitVec 3) (v : Word) : (s.setSr r v).mem = s.mem := by
  unfold State.setSr; split <;> rfl
@[simp] theorem State.setSr_iword (s : State) (r : BitVec 3) (v : Word) : (s.setSr r v).iword = s.iword := by
  unfold State.setSr; split <;> rfl
@[simp] theorem State.setSr_draws (s : State) (r : BitVec 3) (v : Word) : (s.setSr r v).draws = s.draws := by
  unfold State.setSr; split <;> rfl
@[simp] theorem State.setSr_inputs (s : State) (r : BitVec 3) (v : Word) : (s.setSr r v).inputs = s.inputs := by
  unfold State.setSr; split <;> rfl
@[simp] theorem State.setSr_itmrPhase (s : State) (r : BitVec 3) (v : Word) : (s.setSr r v).itmrPhase = s.itmrPhase := by
  unfold State.setSr; split <;> rfl

/-! ### `State.setCB` changes `psw` only -/

@[simp] theorem State.setCB_cfg (s : State) (cb : BitVec 8) : (s.setCB cb).cfg = s.cfg := rfl
@[simp] theorem State.setCB_grs (s : State) (cb : BitVec 8) : (s.setCB cb).grs = s.grs := rfl
@[simp] theorem State.setCB_shr (s : State) (cb : BitVec 8) : (s.setCB cb).shr = s.shr := rfl
@[simp] theorem State.setCB_srs (s : State) (cb : BitVec 8) : (s.setCB cb).srs = s.srs := rfl
@[simp] theorem State.setCB_iaoqFront (s : State) (cb : BitVec 8) : (s.setCB cb).iaoqFront = s.iaoqFront := rfl
@[simp] theorem State.setCB_iaoqBack (s : State) (cb : BitVec 8) : (s.setCB cb).iaoqBack = s.iaoqBack := rfl
@[simp] theorem State.setCB_iasqFront (s : State) (cb : BitVec 8) : (s.setCB cb).iasqFront = s.iasqFront := rfl
@[simp] theorem State.setCB_iasqBack (s : State) (cb : BitVec 8) : (s.setCB cb).iasqBack = s.iasqBack := rfl
@[simp] theorem State.setCB_rctr (s : State) (cb : BitVec 8) : (s.setCB cb).rctr = s.rctr := rfl
@[simp] theorem State.setCB_pid1 (s : State) (cb : BitVec 8) : (s.setCB cb).pid1 = s.pid1 := rfl
@[simp] theorem State.setCB_pid2 (s : State) (cb : BitVec 8) : (s.setCB cb).pid2 = s.pid2 := rfl
@[simp] theorem State.setCB_pid3 (s : State) (cb : BitVec 8) : (s.setCB cb).pid3 = s.pid3 := rfl
@[simp] theorem State.setCB_pid4 (s : State) (cb : BitVec 8) : (s.setCB cb).pid4 = s.pid4 := rfl
@[simp] theorem State.setCB_scr (s : State) (cb : BitVec 8) : (s.setCB cb).scr = s.scr := rfl
@[simp] theorem State.setCB_ccr (s : State) (cb : BitVec 8) : (s.setCB cb).ccr = s.ccr := rfl
@[simp] theorem State.setCB_sar (s : State) (cb : BitVec 8) : (s.setCB cb).sar = s.sar := rfl
@[simp] theorem State.setCB_iva (s : State) (cb : BitVec 8) : (s.setCB cb).iva = s.iva := rfl
@[simp] theorem State.setCB_eiem (s : State) (cb : BitVec 8) : (s.setCB cb).eiem = s.eiem := rfl
@[simp] theorem State.setCB_itmr (s : State) (cb : BitVec 8) : (s.setCB cb).itmr = s.itmr := rfl
@[simp] theorem State.setCB_itmrCmp (s : State) (cb : BitVec 8) : (s.setCB cb).itmrCmp = s.itmrCmp := rfl
@[simp] theorem State.setCB_iiasqFront (s : State) (cb : BitVec 8) : (s.setCB cb).iiasqFront = s.iiasqFront := rfl
@[simp] theorem State.setCB_iiasqBack (s : State) (cb : BitVec 8) : (s.setCB cb).iiasqBack = s.iiasqBack := rfl
@[simp] theorem State.setCB_iiaoqFront (s : State) (cb : BitVec 8) : (s.setCB cb).iiaoqFront = s.iiaoqFront := rfl
@[simp] theorem State.setCB_iiaoqBack (s : State) (cb : BitVec 8) : (s.setCB cb).iiaoqBack = s.iiaoqBack := rfl
@[simp] theorem State.setCB_iir (s : State) (cb : BitVec 8) : (s.setCB cb).iir = s.iir := rfl
@[simp] theorem State.setCB_isr (s : State) (cb : BitVec 8) : (s.setCB cb).isr = s.isr := rfl
@[simp] theorem State.setCB_ior (s : State) (cb : BitVec 8) : (s.setCB cb).ior = s.ior := rfl
@[simp] theorem State.setCB_ipsw (s : State) (cb : BitVec 8) : (s.setCB cb).ipsw = s.ipsw := rfl
@[simp] theorem State.setCB_eirr (s : State) (cb : BitVec 8) : (s.setCB cb).eirr = s.eirr := rfl
@[simp] theorem State.setCB_trs (s : State) (cb : BitVec 8) : (s.setCB cb).trs = s.trs := rfl
@[simp] theorem State.setCB_defaultEndian (s : State) (cb : BitVec 8) : (s.setCB cb).defaultEndian = s.defaultEndian := rfl
@[simp] theorem State.setCB_itlb (s : State) (cb : BitVec 8) : (s.setCB cb).itlb = s.itlb := rfl
@[simp] theorem State.setCB_dtlb (s : State) (cb : BitVec 8) : (s.setCB cb).dtlb = s.dtlb := rfl
@[simp] theorem State.setCB_pendHpmc (s : State) (cb : BitVec 8) : (s.setCB cb).pendHpmc = s.pendHpmc := rfl
@[simp] theorem State.setCB_pendPowerFail (s : State) (cb : BitVec 8) : (s.setCB cb).pendPowerFail = s.pendPowerFail := rfl
@[simp] theorem State.setCB_pendLpmc (s : State) (cb : BitVec 8) : (s.setCB cb).pendLpmc = s.pendLpmc := rfl
@[simp] theorem State.setCB_pendPerfmon (s : State) (cb : BitVec 8) : (s.setCB cb).pendPerfmon = s.pendPerfmon := rfl
@[simp] theorem State.setCB_fprs (s : State) (cb : BitVec 8) : (s.setCB cb).fprs = s.fprs := rfl
@[simp] theorem State.setCB_fpIdentifyValid (s : State) (cb : BitVec 8) : (s.setCB cb).fpIdentifyValid = s.fpIdentifyValid := rfl
@[simp] theorem State.setCB_fpZeroStored (s : State) (cb : BitVec 8) : (s.setCB cb).fpZeroStored = s.fpZeroStored := rfl
@[simp] theorem State.setCB_fpBracketed (s : State) (cb : BitVec 8) : (s.setCB cb).fpBracketed = s.fpBracketed := rfl
@[simp] theorem State.setCB_measurementEnabled (s : State) (cb : BitVec 8) : (s.setCB cb).measurementEnabled = s.measurementEnabled := rfl
@[simp] theorem State.setCB_dbaor (s : State) (cb : BitVec 8) : (s.setCB cb).dbaor = s.dbaor := rfl
@[simp] theorem State.setCB_dbamr (s : State) (cb : BitVec 8) : (s.setCB cb).dbamr = s.dbamr := rfl
@[simp] theorem State.setCB_ibaor (s : State) (cb : BitVec 8) : (s.setCB cb).ibaor = s.ibaor := rfl
@[simp] theorem State.setCB_ibamr (s : State) (cb : BitVec 8) : (s.setCB cb).ibamr = s.ibamr := rfl
@[simp] theorem State.setCB_cprs (s : State) (cb : BitVec 8) : (s.setCB cb).cprs = s.cprs := rfl
@[simp] theorem State.setCB_sfuStates (s : State) (cb : BitVec 8) : (s.setCB cb).sfuStates = s.sfuStates := rfl
@[simp] theorem State.setCB_mem (s : State) (cb : BitVec 8) : (s.setCB cb).mem = s.mem := rfl
@[simp] theorem State.setCB_iword (s : State) (cb : BitVec 8) : (s.setCB cb).iword = s.iword := rfl
@[simp] theorem State.setCB_draws (s : State) (cb : BitVec 8) : (s.setCB cb).draws = s.draws := rfl
@[simp] theorem State.setCB_inputs (s : State) (cb : BitVec 8) : (s.setCB cb).inputs = s.inputs := rfl
@[simp] theorem State.setCB_itmrPhase (s : State) (cb : BitVec 8) : (s.setCB cb).itmrPhase = s.itmrPhase := rfl

/-! ### `State.setV` changes `psw` only -/

@[simp] theorem State.setV_cfg (s : State) (v : Bool) : (s.setV v).cfg = s.cfg := rfl
@[simp] theorem State.setV_grs (s : State) (v : Bool) : (s.setV v).grs = s.grs := rfl
@[simp] theorem State.setV_shr (s : State) (v : Bool) : (s.setV v).shr = s.shr := rfl
@[simp] theorem State.setV_srs (s : State) (v : Bool) : (s.setV v).srs = s.srs := rfl
@[simp] theorem State.setV_iaoqFront (s : State) (v : Bool) : (s.setV v).iaoqFront = s.iaoqFront := rfl
@[simp] theorem State.setV_iaoqBack (s : State) (v : Bool) : (s.setV v).iaoqBack = s.iaoqBack := rfl
@[simp] theorem State.setV_iasqFront (s : State) (v : Bool) : (s.setV v).iasqFront = s.iasqFront := rfl
@[simp] theorem State.setV_iasqBack (s : State) (v : Bool) : (s.setV v).iasqBack = s.iasqBack := rfl
@[simp] theorem State.setV_rctr (s : State) (v : Bool) : (s.setV v).rctr = s.rctr := rfl
@[simp] theorem State.setV_pid1 (s : State) (v : Bool) : (s.setV v).pid1 = s.pid1 := rfl
@[simp] theorem State.setV_pid2 (s : State) (v : Bool) : (s.setV v).pid2 = s.pid2 := rfl
@[simp] theorem State.setV_pid3 (s : State) (v : Bool) : (s.setV v).pid3 = s.pid3 := rfl
@[simp] theorem State.setV_pid4 (s : State) (v : Bool) : (s.setV v).pid4 = s.pid4 := rfl
@[simp] theorem State.setV_scr (s : State) (v : Bool) : (s.setV v).scr = s.scr := rfl
@[simp] theorem State.setV_ccr (s : State) (v : Bool) : (s.setV v).ccr = s.ccr := rfl
@[simp] theorem State.setV_sar (s : State) (v : Bool) : (s.setV v).sar = s.sar := rfl
@[simp] theorem State.setV_iva (s : State) (v : Bool) : (s.setV v).iva = s.iva := rfl
@[simp] theorem State.setV_eiem (s : State) (v : Bool) : (s.setV v).eiem = s.eiem := rfl
@[simp] theorem State.setV_itmr (s : State) (v : Bool) : (s.setV v).itmr = s.itmr := rfl
@[simp] theorem State.setV_itmrCmp (s : State) (v : Bool) : (s.setV v).itmrCmp = s.itmrCmp := rfl
@[simp] theorem State.setV_iiasqFront (s : State) (v : Bool) : (s.setV v).iiasqFront = s.iiasqFront := rfl
@[simp] theorem State.setV_iiasqBack (s : State) (v : Bool) : (s.setV v).iiasqBack = s.iiasqBack := rfl
@[simp] theorem State.setV_iiaoqFront (s : State) (v : Bool) : (s.setV v).iiaoqFront = s.iiaoqFront := rfl
@[simp] theorem State.setV_iiaoqBack (s : State) (v : Bool) : (s.setV v).iiaoqBack = s.iiaoqBack := rfl
@[simp] theorem State.setV_iir (s : State) (v : Bool) : (s.setV v).iir = s.iir := rfl
@[simp] theorem State.setV_isr (s : State) (v : Bool) : (s.setV v).isr = s.isr := rfl
@[simp] theorem State.setV_ior (s : State) (v : Bool) : (s.setV v).ior = s.ior := rfl
@[simp] theorem State.setV_ipsw (s : State) (v : Bool) : (s.setV v).ipsw = s.ipsw := rfl
@[simp] theorem State.setV_eirr (s : State) (v : Bool) : (s.setV v).eirr = s.eirr := rfl
@[simp] theorem State.setV_trs (s : State) (v : Bool) : (s.setV v).trs = s.trs := rfl
@[simp] theorem State.setV_defaultEndian (s : State) (v : Bool) : (s.setV v).defaultEndian = s.defaultEndian := rfl
@[simp] theorem State.setV_itlb (s : State) (v : Bool) : (s.setV v).itlb = s.itlb := rfl
@[simp] theorem State.setV_dtlb (s : State) (v : Bool) : (s.setV v).dtlb = s.dtlb := rfl
@[simp] theorem State.setV_pendHpmc (s : State) (v : Bool) : (s.setV v).pendHpmc = s.pendHpmc := rfl
@[simp] theorem State.setV_pendPowerFail (s : State) (v : Bool) : (s.setV v).pendPowerFail = s.pendPowerFail := rfl
@[simp] theorem State.setV_pendLpmc (s : State) (v : Bool) : (s.setV v).pendLpmc = s.pendLpmc := rfl
@[simp] theorem State.setV_pendPerfmon (s : State) (v : Bool) : (s.setV v).pendPerfmon = s.pendPerfmon := rfl
@[simp] theorem State.setV_fprs (s : State) (v : Bool) : (s.setV v).fprs = s.fprs := rfl
@[simp] theorem State.setV_fpIdentifyValid (s : State) (v : Bool) : (s.setV v).fpIdentifyValid = s.fpIdentifyValid := rfl
@[simp] theorem State.setV_fpZeroStored (s : State) (v : Bool) : (s.setV v).fpZeroStored = s.fpZeroStored := rfl
@[simp] theorem State.setV_fpBracketed (s : State) (v : Bool) : (s.setV v).fpBracketed = s.fpBracketed := rfl
@[simp] theorem State.setV_measurementEnabled (s : State) (v : Bool) : (s.setV v).measurementEnabled = s.measurementEnabled := rfl
@[simp] theorem State.setV_dbaor (s : State) (v : Bool) : (s.setV v).dbaor = s.dbaor := rfl
@[simp] theorem State.setV_dbamr (s : State) (v : Bool) : (s.setV v).dbamr = s.dbamr := rfl
@[simp] theorem State.setV_ibaor (s : State) (v : Bool) : (s.setV v).ibaor = s.ibaor := rfl
@[simp] theorem State.setV_ibamr (s : State) (v : Bool) : (s.setV v).ibamr = s.ibamr := rfl
@[simp] theorem State.setV_cprs (s : State) (v : Bool) : (s.setV v).cprs = s.cprs := rfl
@[simp] theorem State.setV_sfuStates (s : State) (v : Bool) : (s.setV v).sfuStates = s.sfuStates := rfl
@[simp] theorem State.setV_mem (s : State) (v : Bool) : (s.setV v).mem = s.mem := rfl
@[simp] theorem State.setV_iword (s : State) (v : Bool) : (s.setV v).iword = s.iword := rfl
@[simp] theorem State.setV_draws (s : State) (v : Bool) : (s.setV v).draws = s.draws := rfl
@[simp] theorem State.setV_inputs (s : State) (v : Bool) : (s.setV v).inputs = s.inputs := rfl
@[simp] theorem State.setV_itmrPhase (s : State) (v : Bool) : (s.setV v).itmrPhase = s.itmrPhase := rfl

/-! ### `State.storeBytes` changes `mem` only -/

@[simp] theorem State.storeBytes_cfg (s : State) (a : Nat) (bs : List Byte) : (s.storeBytes a bs).cfg = s.cfg := rfl
@[simp] theorem State.storeBytes_grs (s : State) (a : Nat) (bs : List Byte) : (s.storeBytes a bs).grs = s.grs := rfl
@[simp] theorem State.storeBytes_shr (s : State) (a : Nat) (bs : List Byte) : (s.storeBytes a bs).shr = s.shr := rfl
@[simp] theorem State.storeBytes_srs (s : State) (a : Nat) (bs : List Byte) : (s.storeBytes a bs).srs = s.srs := rfl
@[simp] theorem State.storeBytes_psw (s : State) (a : Nat) (bs : List Byte) : (s.storeBytes a bs).psw = s.psw := rfl
@[simp] theorem State.storeBytes_iaoqFront (s : State) (a : Nat) (bs : List Byte) : (s.storeBytes a bs).iaoqFront = s.iaoqFront := rfl
@[simp] theorem State.storeBytes_iaoqBack (s : State) (a : Nat) (bs : List Byte) : (s.storeBytes a bs).iaoqBack = s.iaoqBack := rfl
@[simp] theorem State.storeBytes_iasqFront (s : State) (a : Nat) (bs : List Byte) : (s.storeBytes a bs).iasqFront = s.iasqFront := rfl
@[simp] theorem State.storeBytes_iasqBack (s : State) (a : Nat) (bs : List Byte) : (s.storeBytes a bs).iasqBack = s.iasqBack := rfl
@[simp] theorem State.storeBytes_rctr (s : State) (a : Nat) (bs : List Byte) : (s.storeBytes a bs).rctr = s.rctr := rfl
@[simp] theorem State.storeBytes_pid1 (s : State) (a : Nat) (bs : List Byte) : (s.storeBytes a bs).pid1 = s.pid1 := rfl
@[simp] theorem State.storeBytes_pid2 (s : State) (a : Nat) (bs : List Byte) : (s.storeBytes a bs).pid2 = s.pid2 := rfl
@[simp] theorem State.storeBytes_pid3 (s : State) (a : Nat) (bs : List Byte) : (s.storeBytes a bs).pid3 = s.pid3 := rfl
@[simp] theorem State.storeBytes_pid4 (s : State) (a : Nat) (bs : List Byte) : (s.storeBytes a bs).pid4 = s.pid4 := rfl
@[simp] theorem State.storeBytes_scr (s : State) (a : Nat) (bs : List Byte) : (s.storeBytes a bs).scr = s.scr := rfl
@[simp] theorem State.storeBytes_ccr (s : State) (a : Nat) (bs : List Byte) : (s.storeBytes a bs).ccr = s.ccr := rfl
@[simp] theorem State.storeBytes_sar (s : State) (a : Nat) (bs : List Byte) : (s.storeBytes a bs).sar = s.sar := rfl
@[simp] theorem State.storeBytes_iva (s : State) (a : Nat) (bs : List Byte) : (s.storeBytes a bs).iva = s.iva := rfl
@[simp] theorem State.storeBytes_eiem (s : State) (a : Nat) (bs : List Byte) : (s.storeBytes a bs).eiem = s.eiem := rfl
@[simp] theorem State.storeBytes_itmr (s : State) (a : Nat) (bs : List Byte) : (s.storeBytes a bs).itmr = s.itmr := rfl
@[simp] theorem State.storeBytes_itmrCmp (s : State) (a : Nat) (bs : List Byte) : (s.storeBytes a bs).itmrCmp = s.itmrCmp := rfl
@[simp] theorem State.storeBytes_iiasqFront (s : State) (a : Nat) (bs : List Byte) : (s.storeBytes a bs).iiasqFront = s.iiasqFront := rfl
@[simp] theorem State.storeBytes_iiasqBack (s : State) (a : Nat) (bs : List Byte) : (s.storeBytes a bs).iiasqBack = s.iiasqBack := rfl
@[simp] theorem State.storeBytes_iiaoqFront (s : State) (a : Nat) (bs : List Byte) : (s.storeBytes a bs).iiaoqFront = s.iiaoqFront := rfl
@[simp] theorem State.storeBytes_iiaoqBack (s : State) (a : Nat) (bs : List Byte) : (s.storeBytes a bs).iiaoqBack = s.iiaoqBack := rfl
@[simp] theorem State.storeBytes_iir (s : State) (a : Nat) (bs : List Byte) : (s.storeBytes a bs).iir = s.iir := rfl
@[simp] theorem State.storeBytes_isr (s : State) (a : Nat) (bs : List Byte) : (s.storeBytes a bs).isr = s.isr := rfl
@[simp] theorem State.storeBytes_ior (s : State) (a : Nat) (bs : List Byte) : (s.storeBytes a bs).ior = s.ior := rfl
@[simp] theorem State.storeBytes_ipsw (s : State) (a : Nat) (bs : List Byte) : (s.storeBytes a bs).ipsw = s.ipsw := rfl
@[simp] theorem State.storeBytes_eirr (s : State) (a : Nat) (bs : List Byte) : (s.storeBytes a bs).eirr = s.eirr := rfl
@[simp] theorem State.storeBytes_trs (s : State) (a : Nat) (bs : List Byte) : (s.storeBytes a bs).trs = s.trs := rfl
@[simp] theorem State.storeBytes_defaultEndian (s : State) (a : Nat) (bs : List Byte) : (s.storeBytes a bs).defaultEndian = s.defaultEndian := rfl
@[simp] theorem State.storeBytes_itlb (s : State) (a : Nat) (bs : List Byte) : (s.storeBytes a bs).itlb = s.itlb := rfl
@[simp] theorem State.storeBytes_dtlb (s : State) (a : Nat) (bs : List Byte) : (s.storeBytes a bs).dtlb = s.dtlb := rfl
@[simp] theorem State.storeBytes_pendHpmc (s : State) (a : Nat) (bs : List Byte) : (s.storeBytes a bs).pendHpmc = s.pendHpmc := rfl
@[simp] theorem State.storeBytes_pendPowerFail (s : State) (a : Nat) (bs : List Byte) : (s.storeBytes a bs).pendPowerFail = s.pendPowerFail := rfl
@[simp] theorem State.storeBytes_pendLpmc (s : State) (a : Nat) (bs : List Byte) : (s.storeBytes a bs).pendLpmc = s.pendLpmc := rfl
@[simp] theorem State.storeBytes_pendPerfmon (s : State) (a : Nat) (bs : List Byte) : (s.storeBytes a bs).pendPerfmon = s.pendPerfmon := rfl
@[simp] theorem State.storeBytes_fprs (s : State) (a : Nat) (bs : List Byte) : (s.storeBytes a bs).fprs = s.fprs := rfl
@[simp] theorem State.storeBytes_fpIdentifyValid (s : State) (a : Nat) (bs : List Byte) : (s.storeBytes a bs).fpIdentifyValid = s.fpIdentifyValid := rfl
@[simp] theorem State.storeBytes_fpZeroStored (s : State) (a : Nat) (bs : List Byte) : (s.storeBytes a bs).fpZeroStored = s.fpZeroStored := rfl
@[simp] theorem State.storeBytes_fpBracketed (s : State) (a : Nat) (bs : List Byte) : (s.storeBytes a bs).fpBracketed = s.fpBracketed := rfl
@[simp] theorem State.storeBytes_measurementEnabled (s : State) (a : Nat) (bs : List Byte) : (s.storeBytes a bs).measurementEnabled = s.measurementEnabled := rfl
@[simp] theorem State.storeBytes_dbaor (s : State) (a : Nat) (bs : List Byte) : (s.storeBytes a bs).dbaor = s.dbaor := rfl
@[simp] theorem State.storeBytes_dbamr (s : State) (a : Nat) (bs : List Byte) : (s.storeBytes a bs).dbamr = s.dbamr := rfl
@[simp] theorem State.storeBytes_ibaor (s : State) (a : Nat) (bs : List Byte) : (s.storeBytes a bs).ibaor = s.ibaor := rfl
@[simp] theorem State.storeBytes_ibamr (s : State) (a : Nat) (bs : List Byte) : (s.storeBytes a bs).ibamr = s.ibamr := rfl
@[simp] theorem State.storeBytes_cprs (s : State) (a : Nat) (bs : List Byte) : (s.storeBytes a bs).cprs = s.cprs := rfl
@[simp] theorem State.storeBytes_sfuStates (s : State) (a : Nat) (bs : List Byte) : (s.storeBytes a bs).sfuStates = s.sfuStates := rfl
@[simp] theorem State.storeBytes_iword (s : State) (a : Nat) (bs : List Byte) : (s.storeBytes a bs).iword = s.iword := rfl
@[simp] theorem State.storeBytes_draws (s : State) (a : Nat) (bs : List Byte) : (s.storeBytes a bs).draws = s.draws := rfl
@[simp] theorem State.storeBytes_inputs (s : State) (a : Nat) (bs : List Byte) : (s.storeBytes a bs).inputs = s.inputs := rfl
@[simp] theorem State.storeBytes_itmrPhase (s : State) (a : Nat) (bs : List Byte) : (s.storeBytes a bs).itmrPhase = s.itmrPhase := rfl

/-! ### `State.setTlb` changes `itlb`, `dtlb` only -/

@[simp] theorem State.setTlb_cfg (s : State) (i : Bool) (l : List (Option TlbEntry)) : (s.setTlb i l).cfg = s.cfg := by
  unfold State.setTlb; split <;> rfl
@[simp] theorem State.setTlb_grs (s : State) (i : Bool) (l : List (Option TlbEntry)) : (s.setTlb i l).grs = s.grs := by
  unfold State.setTlb; split <;> rfl
@[simp] theorem State.setTlb_shr (s : State) (i : Bool) (l : List (Option TlbEntry)) : (s.setTlb i l).shr = s.shr := by
  unfold State.setTlb; split <;> rfl
@[simp] theorem State.setTlb_srs (s : State) (i : Bool) (l : List (Option TlbEntry)) : (s.setTlb i l).srs = s.srs := by
  unfold State.setTlb; split <;> rfl
@[simp] theorem State.setTlb_psw (s : State) (i : Bool) (l : List (Option TlbEntry)) : (s.setTlb i l).psw = s.psw := by
  unfold State.setTlb; split <;> rfl
@[simp] theorem State.setTlb_iaoqFront (s : State) (i : Bool) (l : List (Option TlbEntry)) : (s.setTlb i l).iaoqFront = s.iaoqFront := by
  unfold State.setTlb; split <;> rfl
@[simp] theorem State.setTlb_iaoqBack (s : State) (i : Bool) (l : List (Option TlbEntry)) : (s.setTlb i l).iaoqBack = s.iaoqBack := by
  unfold State.setTlb; split <;> rfl
@[simp] theorem State.setTlb_iasqFront (s : State) (i : Bool) (l : List (Option TlbEntry)) : (s.setTlb i l).iasqFront = s.iasqFront := by
  unfold State.setTlb; split <;> rfl
@[simp] theorem State.setTlb_iasqBack (s : State) (i : Bool) (l : List (Option TlbEntry)) : (s.setTlb i l).iasqBack = s.iasqBack := by
  unfold State.setTlb; split <;> rfl
@[simp] theorem State.setTlb_rctr (s : State) (i : Bool) (l : List (Option TlbEntry)) : (s.setTlb i l).rctr = s.rctr := by
  unfold State.setTlb; split <;> rfl
@[simp] theorem State.setTlb_pid1 (s : State) (i : Bool) (l : List (Option TlbEntry)) : (s.setTlb i l).pid1 = s.pid1 := by
  unfold State.setTlb; split <;> rfl
@[simp] theorem State.setTlb_pid2 (s : State) (i : Bool) (l : List (Option TlbEntry)) : (s.setTlb i l).pid2 = s.pid2 := by
  unfold State.setTlb; split <;> rfl
@[simp] theorem State.setTlb_pid3 (s : State) (i : Bool) (l : List (Option TlbEntry)) : (s.setTlb i l).pid3 = s.pid3 := by
  unfold State.setTlb; split <;> rfl
@[simp] theorem State.setTlb_pid4 (s : State) (i : Bool) (l : List (Option TlbEntry)) : (s.setTlb i l).pid4 = s.pid4 := by
  unfold State.setTlb; split <;> rfl
@[simp] theorem State.setTlb_scr (s : State) (i : Bool) (l : List (Option TlbEntry)) : (s.setTlb i l).scr = s.scr := by
  unfold State.setTlb; split <;> rfl
@[simp] theorem State.setTlb_ccr (s : State) (i : Bool) (l : List (Option TlbEntry)) : (s.setTlb i l).ccr = s.ccr := by
  unfold State.setTlb; split <;> rfl
@[simp] theorem State.setTlb_sar (s : State) (i : Bool) (l : List (Option TlbEntry)) : (s.setTlb i l).sar = s.sar := by
  unfold State.setTlb; split <;> rfl
@[simp] theorem State.setTlb_iva (s : State) (i : Bool) (l : List (Option TlbEntry)) : (s.setTlb i l).iva = s.iva := by
  unfold State.setTlb; split <;> rfl
@[simp] theorem State.setTlb_eiem (s : State) (i : Bool) (l : List (Option TlbEntry)) : (s.setTlb i l).eiem = s.eiem := by
  unfold State.setTlb; split <;> rfl
@[simp] theorem State.setTlb_itmr (s : State) (i : Bool) (l : List (Option TlbEntry)) : (s.setTlb i l).itmr = s.itmr := by
  unfold State.setTlb; split <;> rfl
@[simp] theorem State.setTlb_itmrCmp (s : State) (i : Bool) (l : List (Option TlbEntry)) : (s.setTlb i l).itmrCmp = s.itmrCmp := by
  unfold State.setTlb; split <;> rfl
@[simp] theorem State.setTlb_iiasqFront (s : State) (i : Bool) (l : List (Option TlbEntry)) : (s.setTlb i l).iiasqFront = s.iiasqFront := by
  unfold State.setTlb; split <;> rfl
@[simp] theorem State.setTlb_iiasqBack (s : State) (i : Bool) (l : List (Option TlbEntry)) : (s.setTlb i l).iiasqBack = s.iiasqBack := by
  unfold State.setTlb; split <;> rfl
@[simp] theorem State.setTlb_iiaoqFront (s : State) (i : Bool) (l : List (Option TlbEntry)) : (s.setTlb i l).iiaoqFront = s.iiaoqFront := by
  unfold State.setTlb; split <;> rfl
@[simp] theorem State.setTlb_iiaoqBack (s : State) (i : Bool) (l : List (Option TlbEntry)) : (s.setTlb i l).iiaoqBack = s.iiaoqBack := by
  unfold State.setTlb; split <;> rfl
@[simp] theorem State.setTlb_iir (s : State) (i : Bool) (l : List (Option TlbEntry)) : (s.setTlb i l).iir = s.iir := by
  unfold State.setTlb; split <;> rfl
@[simp] theorem State.setTlb_isr (s : State) (i : Bool) (l : List (Option TlbEntry)) : (s.setTlb i l).isr = s.isr := by
  unfold State.setTlb; split <;> rfl
@[simp] theorem State.setTlb_ior (s : State) (i : Bool) (l : List (Option TlbEntry)) : (s.setTlb i l).ior = s.ior := by
  unfold State.setTlb; split <;> rfl
@[simp] theorem State.setTlb_ipsw (s : State) (i : Bool) (l : List (Option TlbEntry)) : (s.setTlb i l).ipsw = s.ipsw := by
  unfold State.setTlb; split <;> rfl
@[simp] theorem State.setTlb_eirr (s : State) (i : Bool) (l : List (Option TlbEntry)) : (s.setTlb i l).eirr = s.eirr := by
  unfold State.setTlb; split <;> rfl
@[simp] theorem State.setTlb_trs (s : State) (i : Bool) (l : List (Option TlbEntry)) : (s.setTlb i l).trs = s.trs := by
  unfold State.setTlb; split <;> rfl
@[simp] theorem State.setTlb_defaultEndian (s : State) (i : Bool) (l : List (Option TlbEntry)) : (s.setTlb i l).defaultEndian = s.defaultEndian := by
  unfold State.setTlb; split <;> rfl
@[simp] theorem State.setTlb_pendHpmc (s : State) (i : Bool) (l : List (Option TlbEntry)) : (s.setTlb i l).pendHpmc = s.pendHpmc := by
  unfold State.setTlb; split <;> rfl
@[simp] theorem State.setTlb_pendPowerFail (s : State) (i : Bool) (l : List (Option TlbEntry)) : (s.setTlb i l).pendPowerFail = s.pendPowerFail := by
  unfold State.setTlb; split <;> rfl
@[simp] theorem State.setTlb_pendLpmc (s : State) (i : Bool) (l : List (Option TlbEntry)) : (s.setTlb i l).pendLpmc = s.pendLpmc := by
  unfold State.setTlb; split <;> rfl
@[simp] theorem State.setTlb_pendPerfmon (s : State) (i : Bool) (l : List (Option TlbEntry)) : (s.setTlb i l).pendPerfmon = s.pendPerfmon := by
  unfold State.setTlb; split <;> rfl
@[simp] theorem State.setTlb_fprs (s : State) (i : Bool) (l : List (Option TlbEntry)) : (s.setTlb i l).fprs = s.fprs := by
  unfold State.setTlb; split <;> rfl
@[simp] theorem State.setTlb_fpIdentifyValid (s : State) (i : Bool) (l : List (Option TlbEntry)) : (s.setTlb i l).fpIdentifyValid = s.fpIdentifyValid := by
  unfold State.setTlb; split <;> rfl
@[simp] theorem State.setTlb_fpZeroStored (s : State) (i : Bool) (l : List (Option TlbEntry)) : (s.setTlb i l).fpZeroStored = s.fpZeroStored := by
  unfold State.setTlb; split <;> rfl
@[simp] theorem State.setTlb_fpBracketed (s : State) (i : Bool) (l : List (Option TlbEntry)) : (s.setTlb i l).fpBracketed = s.fpBracketed := by
  unfold State.setTlb; split <;> rfl
@[simp] theorem State.setTlb_measurementEnabled (s : State) (i : Bool) (l : List (Option TlbEntry)) : (s.setTlb i l).measurementEnabled = s.measurementEnabled := by
  unfold State.setTlb; split <;> rfl
@[simp] theorem State.setTlb_dbaor (s : State) (i : Bool) (l : List (Option TlbEntry)) : (s.setTlb i l).dbaor = s.dbaor := by
  unfold State.setTlb; split <;> rfl
@[simp] theorem State.setTlb_dbamr (s : State) (i : Bool) (l : List (Option TlbEntry)) : (s.setTlb i l).dbamr = s.dbamr := by
  unfold State.setTlb; split <;> rfl
@[simp] theorem State.setTlb_ibaor (s : State) (i : Bool) (l : List (Option TlbEntry)) : (s.setTlb i l).ibaor = s.ibaor := by
  unfold State.setTlb; split <;> rfl
@[simp] theorem State.setTlb_ibamr (s : State) (i : Bool) (l : List (Option TlbEntry)) : (s.setTlb i l).ibamr = s.ibamr := by
  unfold State.setTlb; split <;> rfl
@[simp] theorem State.setTlb_cprs (s : State) (i : Bool) (l : List (Option TlbEntry)) : (s.setTlb i l).cprs = s.cprs := by
  unfold State.setTlb; split <;> rfl
@[simp] theorem State.setTlb_sfuStates (s : State) (i : Bool) (l : List (Option TlbEntry)) : (s.setTlb i l).sfuStates = s.sfuStates := by
  unfold State.setTlb; split <;> rfl
@[simp] theorem State.setTlb_mem (s : State) (i : Bool) (l : List (Option TlbEntry)) : (s.setTlb i l).mem = s.mem := by
  unfold State.setTlb; split <;> rfl
@[simp] theorem State.setTlb_iword (s : State) (i : Bool) (l : List (Option TlbEntry)) : (s.setTlb i l).iword = s.iword := by
  unfold State.setTlb; split <;> rfl
@[simp] theorem State.setTlb_draws (s : State) (i : Bool) (l : List (Option TlbEntry)) : (s.setTlb i l).draws = s.draws := by
  unfold State.setTlb; split <;> rfl
@[simp] theorem State.setTlb_inputs (s : State) (i : Bool) (l : List (Option TlbEntry)) : (s.setTlb i l).inputs = s.inputs := by
  unfold State.setTlb; split <;> rfl
@[simp] theorem State.setTlb_itmrPhase (s : State) (i : Bool) (l : List (Option TlbEntry)) : (s.setTlb i l).itmrPhase = s.itmrPhase := by
  unfold State.setTlb; split <;> rfl

/-! ### `State.count` changes `rctr` only -/

@[simp] theorem State.count_cfg (s : State) (s0 : State) : (s.count s0).cfg = s.cfg := by
  unfold State.count; split <;> rfl
@[simp] theorem State.count_grs (s : State) (s0 : State) : (s.count s0).grs = s.grs := by
  unfold State.count; split <;> rfl
@[simp] theorem State.count_shr (s : State) (s0 : State) : (s.count s0).shr = s.shr := by
  unfold State.count; split <;> rfl
@[simp] theorem State.count_srs (s : State) (s0 : State) : (s.count s0).srs = s.srs := by
  unfold State.count; split <;> rfl
@[simp] theorem State.count_psw (s : State) (s0 : State) : (s.count s0).psw = s.psw := by
  unfold State.count; split <;> rfl
@[simp] theorem State.count_iaoqFront (s : State) (s0 : State) : (s.count s0).iaoqFront = s.iaoqFront := by
  unfold State.count; split <;> rfl
@[simp] theorem State.count_iaoqBack (s : State) (s0 : State) : (s.count s0).iaoqBack = s.iaoqBack := by
  unfold State.count; split <;> rfl
@[simp] theorem State.count_iasqFront (s : State) (s0 : State) : (s.count s0).iasqFront = s.iasqFront := by
  unfold State.count; split <;> rfl
@[simp] theorem State.count_iasqBack (s : State) (s0 : State) : (s.count s0).iasqBack = s.iasqBack := by
  unfold State.count; split <;> rfl
@[simp] theorem State.count_pid1 (s : State) (s0 : State) : (s.count s0).pid1 = s.pid1 := by
  unfold State.count; split <;> rfl
@[simp] theorem State.count_pid2 (s : State) (s0 : State) : (s.count s0).pid2 = s.pid2 := by
  unfold State.count; split <;> rfl
@[simp] theorem State.count_pid3 (s : State) (s0 : State) : (s.count s0).pid3 = s.pid3 := by
  unfold State.count; split <;> rfl
@[simp] theorem State.count_pid4 (s : State) (s0 : State) : (s.count s0).pid4 = s.pid4 := by
  unfold State.count; split <;> rfl
@[simp] theorem State.count_scr (s : State) (s0 : State) : (s.count s0).scr = s.scr := by
  unfold State.count; split <;> rfl
@[simp] theorem State.count_ccr (s : State) (s0 : State) : (s.count s0).ccr = s.ccr := by
  unfold State.count; split <;> rfl
@[simp] theorem State.count_sar (s : State) (s0 : State) : (s.count s0).sar = s.sar := by
  unfold State.count; split <;> rfl
@[simp] theorem State.count_iva (s : State) (s0 : State) : (s.count s0).iva = s.iva := by
  unfold State.count; split <;> rfl
@[simp] theorem State.count_eiem (s : State) (s0 : State) : (s.count s0).eiem = s.eiem := by
  unfold State.count; split <;> rfl
@[simp] theorem State.count_itmr (s : State) (s0 : State) : (s.count s0).itmr = s.itmr := by
  unfold State.count; split <;> rfl
@[simp] theorem State.count_itmrCmp (s : State) (s0 : State) : (s.count s0).itmrCmp = s.itmrCmp := by
  unfold State.count; split <;> rfl
@[simp] theorem State.count_iiasqFront (s : State) (s0 : State) : (s.count s0).iiasqFront = s.iiasqFront := by
  unfold State.count; split <;> rfl
@[simp] theorem State.count_iiasqBack (s : State) (s0 : State) : (s.count s0).iiasqBack = s.iiasqBack := by
  unfold State.count; split <;> rfl
@[simp] theorem State.count_iiaoqFront (s : State) (s0 : State) : (s.count s0).iiaoqFront = s.iiaoqFront := by
  unfold State.count; split <;> rfl
@[simp] theorem State.count_iiaoqBack (s : State) (s0 : State) : (s.count s0).iiaoqBack = s.iiaoqBack := by
  unfold State.count; split <;> rfl
@[simp] theorem State.count_iir (s : State) (s0 : State) : (s.count s0).iir = s.iir := by
  unfold State.count; split <;> rfl
@[simp] theorem State.count_isr (s : State) (s0 : State) : (s.count s0).isr = s.isr := by
  unfold State.count; split <;> rfl
@[simp] theorem State.count_ior (s : State) (s0 : State) : (s.count s0).ior = s.ior := by
  unfold State.count; split <;> rfl
@[simp] theorem State.count_ipsw (s : State) (s0 : State) : (s.count s0).ipsw = s.ipsw := by
  unfold State.count; split <;> rfl
@[simp] theorem State.count_eirr (s : State) (s0 : State) : (s.count s0).eirr = s.eirr := by
  unfold State.count; split <;> rfl
@[simp] theorem State.count_trs (s : State) (s0 : State) : (s.count s0).trs = s.trs := by
  unfold State.count; split <;> rfl
@[simp] theorem State.count_defaultEndian (s : State) (s0 : State) : (s.count s0).defaultEndian = s.defaultEndian := by
  unfold State.count; split <;> rfl
@[simp] theorem State.count_itlb (s : State) (s0 : State) : (s.count s0).itlb = s.itlb := by
  unfold State.count; split <;> rfl
@[simp] theorem State.count_dtlb (s : State) (s0 : State) : (s.count s0).dtlb = s.dtlb := by
  unfold State.count; split <;> rfl
@[simp] theorem State.count_pendHpmc (s : State) (s0 : State) : (s.count s0).pendHpmc = s.pendHpmc := by
  unfold State.count; split <;> rfl
@[simp] theorem State.count_pendPowerFail (s : State) (s0 : State) : (s.count s0).pendPowerFail = s.pendPowerFail := by
  unfold State.count; split <;> rfl
@[simp] theorem State.count_pendLpmc (s : State) (s0 : State) : (s.count s0).pendLpmc = s.pendLpmc := by
  unfold State.count; split <;> rfl
@[simp] theorem State.count_pendPerfmon (s : State) (s0 : State) : (s.count s0).pendPerfmon = s.pendPerfmon := by
  unfold State.count; split <;> rfl
@[simp] theorem State.count_fprs (s : State) (s0 : State) : (s.count s0).fprs = s.fprs := by
  unfold State.count; split <;> rfl
@[simp] theorem State.count_fpIdentifyValid (s : State) (s0 : State) : (s.count s0).fpIdentifyValid = s.fpIdentifyValid := by
  unfold State.count; split <;> rfl
@[simp] theorem State.count_fpZeroStored (s : State) (s0 : State) : (s.count s0).fpZeroStored = s.fpZeroStored := by
  unfold State.count; split <;> rfl
@[simp] theorem State.count_fpBracketed (s : State) (s0 : State) : (s.count s0).fpBracketed = s.fpBracketed := by
  unfold State.count; split <;> rfl
@[simp] theorem State.count_measurementEnabled (s : State) (s0 : State) : (s.count s0).measurementEnabled = s.measurementEnabled := by
  unfold State.count; split <;> rfl
@[simp] theorem State.count_dbaor (s : State) (s0 : State) : (s.count s0).dbaor = s.dbaor := by
  unfold State.count; split <;> rfl
@[simp] theorem State.count_dbamr (s : State) (s0 : State) : (s.count s0).dbamr = s.dbamr := by
  unfold State.count; split <;> rfl
@[simp] theorem State.count_ibaor (s : State) (s0 : State) : (s.count s0).ibaor = s.ibaor := by
  unfold State.count; split <;> rfl
@[simp] theorem State.count_ibamr (s : State) (s0 : State) : (s.count s0).ibamr = s.ibamr := by
  unfold State.count; split <;> rfl
@[simp] theorem State.count_cprs (s : State) (s0 : State) : (s.count s0).cprs = s.cprs := by
  unfold State.count; split <;> rfl
@[simp] theorem State.count_sfuStates (s : State) (s0 : State) : (s.count s0).sfuStates = s.sfuStates := by
  unfold State.count; split <;> rfl
@[simp] theorem State.count_mem (s : State) (s0 : State) : (s.count s0).mem = s.mem := by
  unfold State.count; split <;> rfl
@[simp] theorem State.count_iword (s : State) (s0 : State) : (s.count s0).iword = s.iword := by
  unfold State.count; split <;> rfl
@[simp] theorem State.count_draws (s : State) (s0 : State) : (s.count s0).draws = s.draws := by
  unfold State.count; split <;> rfl
@[simp] theorem State.count_inputs (s : State) (s0 : State) : (s.count s0).inputs = s.inputs := by
  unfold State.count; split <;> rfl
@[simp] theorem State.count_itmrPhase (s : State) (s0 : State) : (s.count s0).itmrPhase = s.itmrPhase := by
  unfold State.count; split <;> rfl

/-! ### `State.advance` changes `psw`, `iaoqFront`, `iaoqBack`, `iasqFront`, `iasqBack` only -/

@[simp] theorem State.advance_cfg (s : State) (n : Bool) (t : Option Target) : (s.advance n t).cfg = s.cfg := rfl
@[simp] theorem State.advance_grs (s : State) (n : Bool) (t : Option Target) : (s.advance n t).grs = s.grs := rfl
@[simp] theorem State.advance_shr (s : State) (n : Bool) (t : Option Target) : (s.advance n t).shr = s.shr := rfl
@[simp] theorem State.advance_srs (s : State) (n : Bool) (t : Option Target) : (s.advance n t).srs = s.srs := rfl
@[simp] theorem State.advance_rctr (s : State) (n : Bool) (t : Option Target) : (s.advance n t).rctr = s.rctr := rfl
@[simp] theorem State.advance_pid1 (s : State) (n : Bool) (t : Option Target) : (s.advance n t).pid1 = s.pid1 := rfl
@[simp] theorem State.advance_pid2 (s : State) (n : Bool) (t : Option Target) : (s.advance n t).pid2 = s.pid2 := rfl
@[simp] theorem State.advance_pid3 (s : State) (n : Bool) (t : Option Target) : (s.advance n t).pid3 = s.pid3 := rfl
@[simp] theorem State.advance_pid4 (s : State) (n : Bool) (t : Option Target) : (s.advance n t).pid4 = s.pid4 := rfl
@[simp] theorem State.advance_scr (s : State) (n : Bool) (t : Option Target) : (s.advance n t).scr = s.scr := rfl
@[simp] theorem State.advance_ccr (s : State) (n : Bool) (t : Option Target) : (s.advance n t).ccr = s.ccr := rfl
@[simp] theorem State.advance_sar (s : State) (n : Bool) (t : Option Target) : (s.advance n t).sar = s.sar := rfl
@[simp] theorem State.advance_iva (s : State) (n : Bool) (t : Option Target) : (s.advance n t).iva = s.iva := rfl
@[simp] theorem State.advance_eiem (s : State) (n : Bool) (t : Option Target) : (s.advance n t).eiem = s.eiem := rfl
@[simp] theorem State.advance_itmr (s : State) (n : Bool) (t : Option Target) : (s.advance n t).itmr = s.itmr := rfl
@[simp] theorem State.advance_itmrCmp (s : State) (n : Bool) (t : Option Target) : (s.advance n t).itmrCmp = s.itmrCmp := rfl
@[simp] theorem State.advance_iiasqFront (s : State) (n : Bool) (t : Option Target) : (s.advance n t).iiasqFront = s.iiasqFront := rfl
@[simp] theorem State.advance_iiasqBack (s : State) (n : Bool) (t : Option Target) : (s.advance n t).iiasqBack = s.iiasqBack := rfl
@[simp] theorem State.advance_iiaoqFront (s : State) (n : Bool) (t : Option Target) : (s.advance n t).iiaoqFront = s.iiaoqFront := rfl
@[simp] theorem State.advance_iiaoqBack (s : State) (n : Bool) (t : Option Target) : (s.advance n t).iiaoqBack = s.iiaoqBack := rfl
@[simp] theorem State.advance_iir (s : State) (n : Bool) (t : Option Target) : (s.advance n t).iir = s.iir := rfl
@[simp] theorem State.advance_isr (s : State) (n : Bool) (t : Option Target) : (s.advance n t).isr = s.isr := rfl
@[simp] theorem State.advance_ior (s : State) (n : Bool) (t : Option Target) : (s.advance n t).ior = s.ior := rfl
@[simp] theorem State.advance_ipsw (s : State) (n : Bool) (t : Option Target) : (s.advance n t).ipsw = s.ipsw := rfl
@[simp] theorem State.advance_eirr (s : State) (n : Bool) (t : Option Target) : (s.advance n t).eirr = s.eirr := rfl
@[simp] theorem State.advance_trs (s : State) (n : Bool) (t : Option Target) : (s.advance n t).trs = s.trs := rfl
@[simp] theorem State.advance_defaultEndian (s : State) (n : Bool) (t : Option Target) : (s.advance n t).defaultEndian = s.defaultEndian := rfl
@[simp] theorem State.advance_itlb (s : State) (n : Bool) (t : Option Target) : (s.advance n t).itlb = s.itlb := rfl
@[simp] theorem State.advance_dtlb (s : State) (n : Bool) (t : Option Target) : (s.advance n t).dtlb = s.dtlb := rfl
@[simp] theorem State.advance_pendHpmc (s : State) (n : Bool) (t : Option Target) : (s.advance n t).pendHpmc = s.pendHpmc := rfl
@[simp] theorem State.advance_pendPowerFail (s : State) (n : Bool) (t : Option Target) : (s.advance n t).pendPowerFail = s.pendPowerFail := rfl
@[simp] theorem State.advance_pendLpmc (s : State) (n : Bool) (t : Option Target) : (s.advance n t).pendLpmc = s.pendLpmc := rfl
@[simp] theorem State.advance_pendPerfmon (s : State) (n : Bool) (t : Option Target) : (s.advance n t).pendPerfmon = s.pendPerfmon := rfl
@[simp] theorem State.advance_fprs (s : State) (n : Bool) (t : Option Target) : (s.advance n t).fprs = s.fprs := rfl
@[simp] theorem State.advance_fpIdentifyValid (s : State) (n : Bool) (t : Option Target) : (s.advance n t).fpIdentifyValid = s.fpIdentifyValid := rfl
@[simp] theorem State.advance_fpZeroStored (s : State) (n : Bool) (t : Option Target) : (s.advance n t).fpZeroStored = s.fpZeroStored := rfl
@[simp] theorem State.advance_fpBracketed (s : State) (n : Bool) (t : Option Target) : (s.advance n t).fpBracketed = s.fpBracketed := rfl
@[simp] theorem State.advance_measurementEnabled (s : State) (n : Bool) (t : Option Target) : (s.advance n t).measurementEnabled = s.measurementEnabled := rfl
@[simp] theorem State.advance_dbaor (s : State) (n : Bool) (t : Option Target) : (s.advance n t).dbaor = s.dbaor := rfl
@[simp] theorem State.advance_dbamr (s : State) (n : Bool) (t : Option Target) : (s.advance n t).dbamr = s.dbamr := rfl
@[simp] theorem State.advance_ibaor (s : State) (n : Bool) (t : Option Target) : (s.advance n t).ibaor = s.ibaor := rfl
@[simp] theorem State.advance_ibamr (s : State) (n : Bool) (t : Option Target) : (s.advance n t).ibamr = s.ibamr := rfl
@[simp] theorem State.advance_cprs (s : State) (n : Bool) (t : Option Target) : (s.advance n t).cprs = s.cprs := rfl
@[simp] theorem State.advance_sfuStates (s : State) (n : Bool) (t : Option Target) : (s.advance n t).sfuStates = s.sfuStates := rfl
@[simp] theorem State.advance_mem (s : State) (n : Bool) (t : Option Target) : (s.advance n t).mem = s.mem := rfl
@[simp] theorem State.advance_iword (s : State) (n : Bool) (t : Option Target) : (s.advance n t).iword = s.iword := rfl
@[simp] theorem State.advance_draws (s : State) (n : Bool) (t : Option Target) : (s.advance n t).draws = s.draws := rfl
@[simp] theorem State.advance_inputs (s : State) (n : Bool) (t : Option Target) : (s.advance n t).inputs = s.inputs := rfl
@[simp] theorem State.advance_itmrPhase (s : State) (n : Bool) (t : Option Target) : (s.advance n t).itmrPhase = s.itmrPhase := rfl

/-! ### `State.modifyBase` changes `grs` only -/

@[simp] theorem State.modifyBase_cfg (s : State) (b : Reg) (x : Option Word) : (s.modifyBase b x).cfg = s.cfg := by
  cases x <;> simp [State.modifyBase]
@[simp] theorem State.modifyBase_shr (s : State) (b : Reg) (x : Option Word) : (s.modifyBase b x).shr = s.shr := by
  cases x <;> simp [State.modifyBase]
@[simp] theorem State.modifyBase_srs (s : State) (b : Reg) (x : Option Word) : (s.modifyBase b x).srs = s.srs := by
  cases x <;> simp [State.modifyBase]
@[simp] theorem State.modifyBase_psw (s : State) (b : Reg) (x : Option Word) : (s.modifyBase b x).psw = s.psw := by
  cases x <;> simp [State.modifyBase]
@[simp] theorem State.modifyBase_iaoqFront (s : State) (b : Reg) (x : Option Word) : (s.modifyBase b x).iaoqFront = s.iaoqFront := by
  cases x <;> simp [State.modifyBase]
@[simp] theorem State.modifyBase_iaoqBack (s : State) (b : Reg) (x : Option Word) : (s.modifyBase b x).iaoqBack = s.iaoqBack := by
  cases x <;> simp [State.modifyBase]
@[simp] theorem State.modifyBase_iasqFront (s : State) (b : Reg) (x : Option Word) : (s.modifyBase b x).iasqFront = s.iasqFront := by
  cases x <;> simp [State.modifyBase]
@[simp] theorem State.modifyBase_iasqBack (s : State) (b : Reg) (x : Option Word) : (s.modifyBase b x).iasqBack = s.iasqBack := by
  cases x <;> simp [State.modifyBase]
@[simp] theorem State.modifyBase_rctr (s : State) (b : Reg) (x : Option Word) : (s.modifyBase b x).rctr = s.rctr := by
  cases x <;> simp [State.modifyBase]
@[simp] theorem State.modifyBase_pid1 (s : State) (b : Reg) (x : Option Word) : (s.modifyBase b x).pid1 = s.pid1 := by
  cases x <;> simp [State.modifyBase]
@[simp] theorem State.modifyBase_pid2 (s : State) (b : Reg) (x : Option Word) : (s.modifyBase b x).pid2 = s.pid2 := by
  cases x <;> simp [State.modifyBase]
@[simp] theorem State.modifyBase_pid3 (s : State) (b : Reg) (x : Option Word) : (s.modifyBase b x).pid3 = s.pid3 := by
  cases x <;> simp [State.modifyBase]
@[simp] theorem State.modifyBase_pid4 (s : State) (b : Reg) (x : Option Word) : (s.modifyBase b x).pid4 = s.pid4 := by
  cases x <;> simp [State.modifyBase]
@[simp] theorem State.modifyBase_scr (s : State) (b : Reg) (x : Option Word) : (s.modifyBase b x).scr = s.scr := by
  cases x <;> simp [State.modifyBase]
@[simp] theorem State.modifyBase_ccr (s : State) (b : Reg) (x : Option Word) : (s.modifyBase b x).ccr = s.ccr := by
  cases x <;> simp [State.modifyBase]
@[simp] theorem State.modifyBase_sar (s : State) (b : Reg) (x : Option Word) : (s.modifyBase b x).sar = s.sar := by
  cases x <;> simp [State.modifyBase]
@[simp] theorem State.modifyBase_iva (s : State) (b : Reg) (x : Option Word) : (s.modifyBase b x).iva = s.iva := by
  cases x <;> simp [State.modifyBase]
@[simp] theorem State.modifyBase_eiem (s : State) (b : Reg) (x : Option Word) : (s.modifyBase b x).eiem = s.eiem := by
  cases x <;> simp [State.modifyBase]
@[simp] theorem State.modifyBase_itmr (s : State) (b : Reg) (x : Option Word) : (s.modifyBase b x).itmr = s.itmr := by
  cases x <;> simp [State.modifyBase]
@[simp] theorem State.modifyBase_itmrCmp (s : State) (b : Reg) (x : Option Word) : (s.modifyBase b x).itmrCmp = s.itmrCmp := by
  cases x <;> simp [State.modifyBase]
@[simp] theorem State.modifyBase_iiasqFront (s : State) (b : Reg) (x : Option Word) : (s.modifyBase b x).iiasqFront = s.iiasqFront := by
  cases x <;> simp [State.modifyBase]
@[simp] theorem State.modifyBase_iiasqBack (s : State) (b : Reg) (x : Option Word) : (s.modifyBase b x).iiasqBack = s.iiasqBack := by
  cases x <;> simp [State.modifyBase]
@[simp] theorem State.modifyBase_iiaoqFront (s : State) (b : Reg) (x : Option Word) : (s.modifyBase b x).iiaoqFront = s.iiaoqFront := by
  cases x <;> simp [State.modifyBase]
@[simp] theorem State.modifyBase_iiaoqBack (s : State) (b : Reg) (x : Option Word) : (s.modifyBase b x).iiaoqBack = s.iiaoqBack := by
  cases x <;> simp [State.modifyBase]
@[simp] theorem State.modifyBase_iir (s : State) (b : Reg) (x : Option Word) : (s.modifyBase b x).iir = s.iir := by
  cases x <;> simp [State.modifyBase]
@[simp] theorem State.modifyBase_isr (s : State) (b : Reg) (x : Option Word) : (s.modifyBase b x).isr = s.isr := by
  cases x <;> simp [State.modifyBase]
@[simp] theorem State.modifyBase_ior (s : State) (b : Reg) (x : Option Word) : (s.modifyBase b x).ior = s.ior := by
  cases x <;> simp [State.modifyBase]
@[simp] theorem State.modifyBase_ipsw (s : State) (b : Reg) (x : Option Word) : (s.modifyBase b x).ipsw = s.ipsw := by
  cases x <;> simp [State.modifyBase]
@[simp] theorem State.modifyBase_eirr (s : State) (b : Reg) (x : Option Word) : (s.modifyBase b x).eirr = s.eirr := by
  cases x <;> simp [State.modifyBase]
@[simp] theorem State.modifyBase_trs (s : State) (b : Reg) (x : Option Word) : (s.modifyBase b x).trs = s.trs := by
  cases x <;> simp [State.modifyBase]
@[simp] theorem State.modifyBase_defaultEndian (s : State) (b : Reg) (x : Option Word) : (s.modifyBase b x).defaultEndian = s.defaultEndian := by
  cases x <;> simp [State.modifyBase]
@[simp] theorem State.modifyBase_itlb (s : State) (b : Reg) (x : Option Word) : (s.modifyBase b x).itlb = s.itlb := by
  cases x <;> simp [State.modifyBase]
@[simp] theorem State.modifyBase_dtlb (s : State) (b : Reg) (x : Option Word) : (s.modifyBase b x).dtlb = s.dtlb := by
  cases x <;> simp [State.modifyBase]
@[simp] theorem State.modifyBase_pendHpmc (s : State) (b : Reg) (x : Option Word) : (s.modifyBase b x).pendHpmc = s.pendHpmc := by
  cases x <;> simp [State.modifyBase]
@[simp] theorem State.modifyBase_pendPowerFail (s : State) (b : Reg) (x : Option Word) : (s.modifyBase b x).pendPowerFail = s.pendPowerFail := by
  cases x <;> simp [State.modifyBase]
@[simp] theorem State.modifyBase_pendLpmc (s : State) (b : Reg) (x : Option Word) : (s.modifyBase b x).pendLpmc = s.pendLpmc := by
  cases x <;> simp [State.modifyBase]
@[simp] theorem State.modifyBase_pendPerfmon (s : State) (b : Reg) (x : Option Word) : (s.modifyBase b x).pendPerfmon = s.pendPerfmon := by
  cases x <;> simp [State.modifyBase]
@[simp] theorem State.modifyBase_fprs (s : State) (b : Reg) (x : Option Word) : (s.modifyBase b x).fprs = s.fprs := by
  cases x <;> simp [State.modifyBase]
@[simp] theorem State.modifyBase_fpIdentifyValid (s : State) (b : Reg) (x : Option Word) : (s.modifyBase b x).fpIdentifyValid = s.fpIdentifyValid := by
  cases x <;> simp [State.modifyBase]
@[simp] theorem State.modifyBase_fpZeroStored (s : State) (b : Reg) (x : Option Word) : (s.modifyBase b x).fpZeroStored = s.fpZeroStored := by
  cases x <;> simp [State.modifyBase]
@[simp] theorem State.modifyBase_fpBracketed (s : State) (b : Reg) (x : Option Word) : (s.modifyBase b x).fpBracketed = s.fpBracketed := by
  cases x <;> simp [State.modifyBase]
@[simp] theorem State.modifyBase_measurementEnabled (s : State) (b : Reg) (x : Option Word) : (s.modifyBase b x).measurementEnabled = s.measurementEnabled := by
  cases x <;> simp [State.modifyBase]
@[simp] theorem State.modifyBase_dbaor (s : State) (b : Reg) (x : Option Word) : (s.modifyBase b x).dbaor = s.dbaor := by
  cases x <;> simp [State.modifyBase]
@[simp] theorem State.modifyBase_dbamr (s : State) (b : Reg) (x : Option Word) : (s.modifyBase b x).dbamr = s.dbamr := by
  cases x <;> simp [State.modifyBase]
@[simp] theorem State.modifyBase_ibaor (s : State) (b : Reg) (x : Option Word) : (s.modifyBase b x).ibaor = s.ibaor := by
  cases x <;> simp [State.modifyBase]
@[simp] theorem State.modifyBase_ibamr (s : State) (b : Reg) (x : Option Word) : (s.modifyBase b x).ibamr = s.ibamr := by
  cases x <;> simp [State.modifyBase]
@[simp] theorem State.modifyBase_cprs (s : State) (b : Reg) (x : Option Word) : (s.modifyBase b x).cprs = s.cprs := by
  cases x <;> simp [State.modifyBase]
@[simp] theorem State.modifyBase_sfuStates (s : State) (b : Reg) (x : Option Word) : (s.modifyBase b x).sfuStates = s.sfuStates := by
  cases x <;> simp [State.modifyBase]
@[simp] theorem State.modifyBase_mem (s : State) (b : Reg) (x : Option Word) : (s.modifyBase b x).mem = s.mem := by
  cases x <;> simp [State.modifyBase]
@[simp] theorem State.modifyBase_iword (s : State) (b : Reg) (x : Option Word) : (s.modifyBase b x).iword = s.iword := by
  cases x <;> simp [State.modifyBase]
@[simp] theorem State.modifyBase_draws (s : State) (b : Reg) (x : Option Word) : (s.modifyBase b x).draws = s.draws := by
  cases x <;> simp [State.modifyBase]
@[simp] theorem State.modifyBase_inputs (s : State) (b : Reg) (x : Option Word) : (s.modifyBase b x).inputs = s.inputs := by
  cases x <;> simp [State.modifyBase]
@[simp] theorem State.modifyBase_itmrPhase (s : State) (b : Reg) (x : Option Word) : (s.modifyBase b x).itmrPhase = s.itmrPhase := by
  cases x <;> simp [State.modifyBase]

/-! ### `State.setFpr` changes `fprs` only -/

@[simp] theorem State.setFpr_cfg (s : State) (n : Reg) (v : Dword) : (s.setFpr n v).cfg = s.cfg := rfl
@[simp] theorem State.setFpr_grs (s : State) (n : Reg) (v : Dword) : (s.setFpr n v).grs = s.grs := rfl
@[simp] theorem State.setFpr_shr (s : State) (n : Reg) (v : Dword) : (s.setFpr n v).shr = s.shr := rfl
@[simp] theorem State.setFpr_srs (s : State) (n : Reg) (v : Dword) : (s.setFpr n v).srs = s.srs := rfl
@[simp] theorem State.setFpr_psw (s : State) (n : Reg) (v : Dword) : (s.setFpr n v).psw = s.psw := rfl
@[simp] theorem State.setFpr_iaoqFront (s : State) (n : Reg) (v : Dword) : (s.setFpr n v).iaoqFront = s.iaoqFront := rfl
@[simp] theorem State.setFpr_iaoqBack (s : State) (n : Reg) (v : Dword) : (s.setFpr n v).iaoqBack = s.iaoqBack := rfl
@[simp] theorem State.setFpr_iasqFront (s : State) (n : Reg) (v : Dword) : (s.setFpr n v).iasqFront = s.iasqFront := rfl
@[simp] theorem State.setFpr_iasqBack (s : State) (n : Reg) (v : Dword) : (s.setFpr n v).iasqBack = s.iasqBack := rfl
@[simp] theorem State.setFpr_rctr (s : State) (n : Reg) (v : Dword) : (s.setFpr n v).rctr = s.rctr := rfl
@[simp] theorem State.setFpr_pid1 (s : State) (n : Reg) (v : Dword) : (s.setFpr n v).pid1 = s.pid1 := rfl
@[simp] theorem State.setFpr_pid2 (s : State) (n : Reg) (v : Dword) : (s.setFpr n v).pid2 = s.pid2 := rfl
@[simp] theorem State.setFpr_pid3 (s : State) (n : Reg) (v : Dword) : (s.setFpr n v).pid3 = s.pid3 := rfl
@[simp] theorem State.setFpr_pid4 (s : State) (n : Reg) (v : Dword) : (s.setFpr n v).pid4 = s.pid4 := rfl
@[simp] theorem State.setFpr_scr (s : State) (n : Reg) (v : Dword) : (s.setFpr n v).scr = s.scr := rfl
@[simp] theorem State.setFpr_ccr (s : State) (n : Reg) (v : Dword) : (s.setFpr n v).ccr = s.ccr := rfl
@[simp] theorem State.setFpr_sar (s : State) (n : Reg) (v : Dword) : (s.setFpr n v).sar = s.sar := rfl
@[simp] theorem State.setFpr_iva (s : State) (n : Reg) (v : Dword) : (s.setFpr n v).iva = s.iva := rfl
@[simp] theorem State.setFpr_eiem (s : State) (n : Reg) (v : Dword) : (s.setFpr n v).eiem = s.eiem := rfl
@[simp] theorem State.setFpr_itmr (s : State) (n : Reg) (v : Dword) : (s.setFpr n v).itmr = s.itmr := rfl
@[simp] theorem State.setFpr_itmrCmp (s : State) (n : Reg) (v : Dword) : (s.setFpr n v).itmrCmp = s.itmrCmp := rfl
@[simp] theorem State.setFpr_iiasqFront (s : State) (n : Reg) (v : Dword) : (s.setFpr n v).iiasqFront = s.iiasqFront := rfl
@[simp] theorem State.setFpr_iiasqBack (s : State) (n : Reg) (v : Dword) : (s.setFpr n v).iiasqBack = s.iiasqBack := rfl
@[simp] theorem State.setFpr_iiaoqFront (s : State) (n : Reg) (v : Dword) : (s.setFpr n v).iiaoqFront = s.iiaoqFront := rfl
@[simp] theorem State.setFpr_iiaoqBack (s : State) (n : Reg) (v : Dword) : (s.setFpr n v).iiaoqBack = s.iiaoqBack := rfl
@[simp] theorem State.setFpr_iir (s : State) (n : Reg) (v : Dword) : (s.setFpr n v).iir = s.iir := rfl
@[simp] theorem State.setFpr_isr (s : State) (n : Reg) (v : Dword) : (s.setFpr n v).isr = s.isr := rfl
@[simp] theorem State.setFpr_ior (s : State) (n : Reg) (v : Dword) : (s.setFpr n v).ior = s.ior := rfl
@[simp] theorem State.setFpr_ipsw (s : State) (n : Reg) (v : Dword) : (s.setFpr n v).ipsw = s.ipsw := rfl
@[simp] theorem State.setFpr_eirr (s : State) (n : Reg) (v : Dword) : (s.setFpr n v).eirr = s.eirr := rfl
@[simp] theorem State.setFpr_trs (s : State) (n : Reg) (v : Dword) : (s.setFpr n v).trs = s.trs := rfl
@[simp] theorem State.setFpr_defaultEndian (s : State) (n : Reg) (v : Dword) : (s.setFpr n v).defaultEndian = s.defaultEndian := rfl
@[simp] theorem State.setFpr_itlb (s : State) (n : Reg) (v : Dword) : (s.setFpr n v).itlb = s.itlb := rfl
@[simp] theorem State.setFpr_dtlb (s : State) (n : Reg) (v : Dword) : (s.setFpr n v).dtlb = s.dtlb := rfl
@[simp] theorem State.setFpr_pendHpmc (s : State) (n : Reg) (v : Dword) : (s.setFpr n v).pendHpmc = s.pendHpmc := rfl
@[simp] theorem State.setFpr_pendPowerFail (s : State) (n : Reg) (v : Dword) : (s.setFpr n v).pendPowerFail = s.pendPowerFail := rfl
@[simp] theorem State.setFpr_pendLpmc (s : State) (n : Reg) (v : Dword) : (s.setFpr n v).pendLpmc = s.pendLpmc := rfl
@[simp] theorem State.setFpr_pendPerfmon (s : State) (n : Reg) (v : Dword) : (s.setFpr n v).pendPerfmon = s.pendPerfmon := rfl
@[simp] theorem State.setFpr_fpIdentifyValid (s : State) (n : Reg) (v : Dword) : (s.setFpr n v).fpIdentifyValid = s.fpIdentifyValid := rfl
@[simp] theorem State.setFpr_fpZeroStored (s : State) (n : Reg) (v : Dword) : (s.setFpr n v).fpZeroStored = s.fpZeroStored := rfl
@[simp] theorem State.setFpr_fpBracketed (s : State) (n : Reg) (v : Dword) : (s.setFpr n v).fpBracketed = s.fpBracketed := rfl
@[simp] theorem State.setFpr_measurementEnabled (s : State) (n : Reg) (v : Dword) : (s.setFpr n v).measurementEnabled = s.measurementEnabled := rfl
@[simp] theorem State.setFpr_dbaor (s : State) (n : Reg) (v : Dword) : (s.setFpr n v).dbaor = s.dbaor := rfl
@[simp] theorem State.setFpr_dbamr (s : State) (n : Reg) (v : Dword) : (s.setFpr n v).dbamr = s.dbamr := rfl
@[simp] theorem State.setFpr_ibaor (s : State) (n : Reg) (v : Dword) : (s.setFpr n v).ibaor = s.ibaor := rfl
@[simp] theorem State.setFpr_ibamr (s : State) (n : Reg) (v : Dword) : (s.setFpr n v).ibamr = s.ibamr := rfl
@[simp] theorem State.setFpr_cprs (s : State) (n : Reg) (v : Dword) : (s.setFpr n v).cprs = s.cprs := rfl
@[simp] theorem State.setFpr_sfuStates (s : State) (n : Reg) (v : Dword) : (s.setFpr n v).sfuStates = s.sfuStates := rfl
@[simp] theorem State.setFpr_mem (s : State) (n : Reg) (v : Dword) : (s.setFpr n v).mem = s.mem := rfl
@[simp] theorem State.setFpr_iword (s : State) (n : Reg) (v : Dword) : (s.setFpr n v).iword = s.iword := rfl
@[simp] theorem State.setFpr_draws (s : State) (n : Reg) (v : Dword) : (s.setFpr n v).draws = s.draws := rfl
@[simp] theorem State.setFpr_inputs (s : State) (n : Reg) (v : Dword) : (s.setFpr n v).inputs = s.inputs := rfl
@[simp] theorem State.setFpr_itmrPhase (s : State) (n : Reg) (v : Dword) : (s.setFpr n v).itmrPhase = s.itmrPhase := rfl

/-! ### `State.setFpHalf` changes `fprs` only -/

@[simp] theorem State.setFpHalf_cfg (s : State) (n : Reg) (h : Bool) (v : Word) : (s.setFpHalf n h v).cfg = s.cfg := rfl
@[simp] theorem State.setFpHalf_grs (s : State) (n : Reg) (h : Bool) (v : Word) : (s.setFpHalf n h v).grs = s.grs := rfl
@[simp] theorem State.setFpHalf_shr (s : State) (n : Reg) (h : Bool) (v : Word) : (s.setFpHalf n h v).shr = s.shr := rfl
@[simp] theorem State.setFpHalf_srs (s : State) (n : Reg) (h : Bool) (v : Word) : (s.setFpHalf n h v).srs = s.srs := rfl
@[simp] theorem State.setFpHalf_psw (s : State) (n : Reg) (h : Bool) (v : Word) : (s.setFpHalf n h v).psw = s.psw := rfl
@[simp] theorem State.setFpHalf_iaoqFront (s : State) (n : Reg) (h : Bool) (v : Word) : (s.setFpHalf n h v).iaoqFront = s.iaoqFront := rfl
@[simp] theorem State.setFpHalf_iaoqBack (s : State) (n : Reg) (h : Bool) (v : Word) : (s.setFpHalf n h v).iaoqBack = s.iaoqBack := rfl
@[simp] theorem State.setFpHalf_iasqFront (s : State) (n : Reg) (h : Bool) (v : Word) : (s.setFpHalf n h v).iasqFront = s.iasqFront := rfl
@[simp] theorem State.setFpHalf_iasqBack (s : State) (n : Reg) (h : Bool) (v : Word) : (s.setFpHalf n h v).iasqBack = s.iasqBack := rfl
@[simp] theorem State.setFpHalf_rctr (s : State) (n : Reg) (h : Bool) (v : Word) : (s.setFpHalf n h v).rctr = s.rctr := rfl
@[simp] theorem State.setFpHalf_pid1 (s : State) (n : Reg) (h : Bool) (v : Word) : (s.setFpHalf n h v).pid1 = s.pid1 := rfl
@[simp] theorem State.setFpHalf_pid2 (s : State) (n : Reg) (h : Bool) (v : Word) : (s.setFpHalf n h v).pid2 = s.pid2 := rfl
@[simp] theorem State.setFpHalf_pid3 (s : State) (n : Reg) (h : Bool) (v : Word) : (s.setFpHalf n h v).pid3 = s.pid3 := rfl
@[simp] theorem State.setFpHalf_pid4 (s : State) (n : Reg) (h : Bool) (v : Word) : (s.setFpHalf n h v).pid4 = s.pid4 := rfl
@[simp] theorem State.setFpHalf_scr (s : State) (n : Reg) (h : Bool) (v : Word) : (s.setFpHalf n h v).scr = s.scr := rfl
@[simp] theorem State.setFpHalf_ccr (s : State) (n : Reg) (h : Bool) (v : Word) : (s.setFpHalf n h v).ccr = s.ccr := rfl
@[simp] theorem State.setFpHalf_sar (s : State) (n : Reg) (h : Bool) (v : Word) : (s.setFpHalf n h v).sar = s.sar := rfl
@[simp] theorem State.setFpHalf_iva (s : State) (n : Reg) (h : Bool) (v : Word) : (s.setFpHalf n h v).iva = s.iva := rfl
@[simp] theorem State.setFpHalf_eiem (s : State) (n : Reg) (h : Bool) (v : Word) : (s.setFpHalf n h v).eiem = s.eiem := rfl
@[simp] theorem State.setFpHalf_itmr (s : State) (n : Reg) (h : Bool) (v : Word) : (s.setFpHalf n h v).itmr = s.itmr := rfl
@[simp] theorem State.setFpHalf_itmrCmp (s : State) (n : Reg) (h : Bool) (v : Word) : (s.setFpHalf n h v).itmrCmp = s.itmrCmp := rfl
@[simp] theorem State.setFpHalf_iiasqFront (s : State) (n : Reg) (h : Bool) (v : Word) : (s.setFpHalf n h v).iiasqFront = s.iiasqFront := rfl
@[simp] theorem State.setFpHalf_iiasqBack (s : State) (n : Reg) (h : Bool) (v : Word) : (s.setFpHalf n h v).iiasqBack = s.iiasqBack := rfl
@[simp] theorem State.setFpHalf_iiaoqFront (s : State) (n : Reg) (h : Bool) (v : Word) : (s.setFpHalf n h v).iiaoqFront = s.iiaoqFront := rfl
@[simp] theorem State.setFpHalf_iiaoqBack (s : State) (n : Reg) (h : Bool) (v : Word) : (s.setFpHalf n h v).iiaoqBack = s.iiaoqBack := rfl
@[simp] theorem State.setFpHalf_iir (s : State) (n : Reg) (h : Bool) (v : Word) : (s.setFpHalf n h v).iir = s.iir := rfl
@[simp] theorem State.setFpHalf_isr (s : State) (n : Reg) (h : Bool) (v : Word) : (s.setFpHalf n h v).isr = s.isr := rfl
@[simp] theorem State.setFpHalf_ior (s : State) (n : Reg) (h : Bool) (v : Word) : (s.setFpHalf n h v).ior = s.ior := rfl
@[simp] theorem State.setFpHalf_ipsw (s : State) (n : Reg) (h : Bool) (v : Word) : (s.setFpHalf n h v).ipsw = s.ipsw := rfl
@[simp] theorem State.setFpHalf_eirr (s : State) (n : Reg) (h : Bool) (v : Word) : (s.setFpHalf n h v).eirr = s.eirr := rfl
@[simp] theorem State.setFpHalf_trs (s : State) (n : Reg) (h : Bool) (v : Word) : (s.setFpHalf n h v).trs = s.trs := rfl
@[simp] theorem State.setFpHalf_defaultEndian (s : State) (n : Reg) (h : Bool) (v : Word) : (s.setFpHalf n h v).defaultEndian = s.defaultEndian := rfl
@[simp] theorem State.setFpHalf_itlb (s : State) (n : Reg) (h : Bool) (v : Word) : (s.setFpHalf n h v).itlb = s.itlb := rfl
@[simp] theorem State.setFpHalf_dtlb (s : State) (n : Reg) (h : Bool) (v : Word) : (s.setFpHalf n h v).dtlb = s.dtlb := rfl
@[simp] theorem State.setFpHalf_pendHpmc (s : State) (n : Reg) (h : Bool) (v : Word) : (s.setFpHalf n h v).pendHpmc = s.pendHpmc := rfl
@[simp] theorem State.setFpHalf_pendPowerFail (s : State) (n : Reg) (h : Bool) (v : Word) : (s.setFpHalf n h v).pendPowerFail = s.pendPowerFail := rfl
@[simp] theorem State.setFpHalf_pendLpmc (s : State) (n : Reg) (h : Bool) (v : Word) : (s.setFpHalf n h v).pendLpmc = s.pendLpmc := rfl
@[simp] theorem State.setFpHalf_pendPerfmon (s : State) (n : Reg) (h : Bool) (v : Word) : (s.setFpHalf n h v).pendPerfmon = s.pendPerfmon := rfl
@[simp] theorem State.setFpHalf_fpIdentifyValid (s : State) (n : Reg) (h : Bool) (v : Word) : (s.setFpHalf n h v).fpIdentifyValid = s.fpIdentifyValid := rfl
@[simp] theorem State.setFpHalf_fpZeroStored (s : State) (n : Reg) (h : Bool) (v : Word) : (s.setFpHalf n h v).fpZeroStored = s.fpZeroStored := rfl
@[simp] theorem State.setFpHalf_fpBracketed (s : State) (n : Reg) (h : Bool) (v : Word) : (s.setFpHalf n h v).fpBracketed = s.fpBracketed := rfl
@[simp] theorem State.setFpHalf_measurementEnabled (s : State) (n : Reg) (h : Bool) (v : Word) : (s.setFpHalf n h v).measurementEnabled = s.measurementEnabled := rfl
@[simp] theorem State.setFpHalf_dbaor (s : State) (n : Reg) (h : Bool) (v : Word) : (s.setFpHalf n h v).dbaor = s.dbaor := rfl
@[simp] theorem State.setFpHalf_dbamr (s : State) (n : Reg) (h : Bool) (v : Word) : (s.setFpHalf n h v).dbamr = s.dbamr := rfl
@[simp] theorem State.setFpHalf_ibaor (s : State) (n : Reg) (h : Bool) (v : Word) : (s.setFpHalf n h v).ibaor = s.ibaor := rfl
@[simp] theorem State.setFpHalf_ibamr (s : State) (n : Reg) (h : Bool) (v : Word) : (s.setFpHalf n h v).ibamr = s.ibamr := rfl
@[simp] theorem State.setFpHalf_cprs (s : State) (n : Reg) (h : Bool) (v : Word) : (s.setFpHalf n h v).cprs = s.cprs := rfl
@[simp] theorem State.setFpHalf_sfuStates (s : State) (n : Reg) (h : Bool) (v : Word) : (s.setFpHalf n h v).sfuStates = s.sfuStates := rfl
@[simp] theorem State.setFpHalf_mem (s : State) (n : Reg) (h : Bool) (v : Word) : (s.setFpHalf n h v).mem = s.mem := rfl
@[simp] theorem State.setFpHalf_iword (s : State) (n : Reg) (h : Bool) (v : Word) : (s.setFpHalf n h v).iword = s.iword := rfl
@[simp] theorem State.setFpHalf_draws (s : State) (n : Reg) (h : Bool) (v : Word) : (s.setFpHalf n h v).draws = s.draws := rfl
@[simp] theorem State.setFpHalf_inputs (s : State) (n : Reg) (h : Bool) (v : Word) : (s.setFpHalf n h v).inputs = s.inputs := rfl
@[simp] theorem State.setFpHalf_itmrPhase (s : State) (n : Reg) (h : Bool) (v : Word) : (s.setFpHalf n h v).itmrPhase = s.itmrPhase := rfl

/-! ### `State.setFpsr` changes `fprs` only -/

@[simp] theorem State.setFpsr_cfg (s : State) (v : Word) : (s.setFpsr v).cfg = s.cfg := rfl
@[simp] theorem State.setFpsr_grs (s : State) (v : Word) : (s.setFpsr v).grs = s.grs := rfl
@[simp] theorem State.setFpsr_shr (s : State) (v : Word) : (s.setFpsr v).shr = s.shr := rfl
@[simp] theorem State.setFpsr_srs (s : State) (v : Word) : (s.setFpsr v).srs = s.srs := rfl
@[simp] theorem State.setFpsr_psw (s : State) (v : Word) : (s.setFpsr v).psw = s.psw := rfl
@[simp] theorem State.setFpsr_iaoqFront (s : State) (v : Word) : (s.setFpsr v).iaoqFront = s.iaoqFront := rfl
@[simp] theorem State.setFpsr_iaoqBack (s : State) (v : Word) : (s.setFpsr v).iaoqBack = s.iaoqBack := rfl
@[simp] theorem State.setFpsr_iasqFront (s : State) (v : Word) : (s.setFpsr v).iasqFront = s.iasqFront := rfl
@[simp] theorem State.setFpsr_iasqBack (s : State) (v : Word) : (s.setFpsr v).iasqBack = s.iasqBack := rfl
@[simp] theorem State.setFpsr_rctr (s : State) (v : Word) : (s.setFpsr v).rctr = s.rctr := rfl
@[simp] theorem State.setFpsr_pid1 (s : State) (v : Word) : (s.setFpsr v).pid1 = s.pid1 := rfl
@[simp] theorem State.setFpsr_pid2 (s : State) (v : Word) : (s.setFpsr v).pid2 = s.pid2 := rfl
@[simp] theorem State.setFpsr_pid3 (s : State) (v : Word) : (s.setFpsr v).pid3 = s.pid3 := rfl
@[simp] theorem State.setFpsr_pid4 (s : State) (v : Word) : (s.setFpsr v).pid4 = s.pid4 := rfl
@[simp] theorem State.setFpsr_scr (s : State) (v : Word) : (s.setFpsr v).scr = s.scr := rfl
@[simp] theorem State.setFpsr_ccr (s : State) (v : Word) : (s.setFpsr v).ccr = s.ccr := rfl
@[simp] theorem State.setFpsr_sar (s : State) (v : Word) : (s.setFpsr v).sar = s.sar := rfl
@[simp] theorem State.setFpsr_iva (s : State) (v : Word) : (s.setFpsr v).iva = s.iva := rfl
@[simp] theorem State.setFpsr_eiem (s : State) (v : Word) : (s.setFpsr v).eiem = s.eiem := rfl
@[simp] theorem State.setFpsr_itmr (s : State) (v : Word) : (s.setFpsr v).itmr = s.itmr := rfl
@[simp] theorem State.setFpsr_itmrCmp (s : State) (v : Word) : (s.setFpsr v).itmrCmp = s.itmrCmp := rfl
@[simp] theorem State.setFpsr_iiasqFront (s : State) (v : Word) : (s.setFpsr v).iiasqFront = s.iiasqFront := rfl
@[simp] theorem State.setFpsr_iiasqBack (s : State) (v : Word) : (s.setFpsr v).iiasqBack = s.iiasqBack := rfl
@[simp] theorem State.setFpsr_iiaoqFront (s : State) (v : Word) : (s.setFpsr v).iiaoqFront = s.iiaoqFront := rfl
@[simp] theorem State.setFpsr_iiaoqBack (s : State) (v : Word) : (s.setFpsr v).iiaoqBack = s.iiaoqBack := rfl
@[simp] theorem State.setFpsr_iir (s : State) (v : Word) : (s.setFpsr v).iir = s.iir := rfl
@[simp] theorem State.setFpsr_isr (s : State) (v : Word) : (s.setFpsr v).isr = s.isr := rfl
@[simp] theorem State.setFpsr_ior (s : State) (v : Word) : (s.setFpsr v).ior = s.ior := rfl
@[simp] theorem State.setFpsr_ipsw (s : State) (v : Word) : (s.setFpsr v).ipsw = s.ipsw := rfl
@[simp] theorem State.setFpsr_eirr (s : State) (v : Word) : (s.setFpsr v).eirr = s.eirr := rfl
@[simp] theorem State.setFpsr_trs (s : State) (v : Word) : (s.setFpsr v).trs = s.trs := rfl
@[simp] theorem State.setFpsr_defaultEndian (s : State) (v : Word) : (s.setFpsr v).defaultEndian = s.defaultEndian := rfl
@[simp] theorem State.setFpsr_itlb (s : State) (v : Word) : (s.setFpsr v).itlb = s.itlb := rfl
@[simp] theorem State.setFpsr_dtlb (s : State) (v : Word) : (s.setFpsr v).dtlb = s.dtlb := rfl
@[simp] theorem State.setFpsr_pendHpmc (s : State) (v : Word) : (s.setFpsr v).pendHpmc = s.pendHpmc := rfl
@[simp] theorem State.setFpsr_pendPowerFail (s : State) (v : Word) : (s.setFpsr v).pendPowerFail = s.pendPowerFail := rfl
@[simp] theorem State.setFpsr_pendLpmc (s : State) (v : Word) : (s.setFpsr v).pendLpmc = s.pendLpmc := rfl
@[simp] theorem State.setFpsr_pendPerfmon (s : State) (v : Word) : (s.setFpsr v).pendPerfmon = s.pendPerfmon := rfl
@[simp] theorem State.setFpsr_fpIdentifyValid (s : State) (v : Word) : (s.setFpsr v).fpIdentifyValid = s.fpIdentifyValid := rfl
@[simp] theorem State.setFpsr_fpZeroStored (s : State) (v : Word) : (s.setFpsr v).fpZeroStored = s.fpZeroStored := rfl
@[simp] theorem State.setFpsr_fpBracketed (s : State) (v : Word) : (s.setFpsr v).fpBracketed = s.fpBracketed := rfl
@[simp] theorem State.setFpsr_measurementEnabled (s : State) (v : Word) : (s.setFpsr v).measurementEnabled = s.measurementEnabled := rfl
@[simp] theorem State.setFpsr_dbaor (s : State) (v : Word) : (s.setFpsr v).dbaor = s.dbaor := rfl
@[simp] theorem State.setFpsr_dbamr (s : State) (v : Word) : (s.setFpsr v).dbamr = s.dbamr := rfl
@[simp] theorem State.setFpsr_ibaor (s : State) (v : Word) : (s.setFpsr v).ibaor = s.ibaor := rfl
@[simp] theorem State.setFpsr_ibamr (s : State) (v : Word) : (s.setFpsr v).ibamr = s.ibamr := rfl
@[simp] theorem State.setFpsr_cprs (s : State) (v : Word) : (s.setFpsr v).cprs = s.cprs := rfl
@[simp] theorem State.setFpsr_sfuStates (s : State) (v : Word) : (s.setFpsr v).sfuStates = s.sfuStates := rfl
@[simp] theorem State.setFpsr_mem (s : State) (v : Word) : (s.setFpsr v).mem = s.mem := rfl
@[simp] theorem State.setFpsr_iword (s : State) (v : Word) : (s.setFpsr v).iword = s.iword := rfl
@[simp] theorem State.setFpsr_draws (s : State) (v : Word) : (s.setFpsr v).draws = s.draws := rfl
@[simp] theorem State.setFpsr_inputs (s : State) (v : Word) : (s.setFpsr v).inputs = s.inputs := rfl
@[simp] theorem State.setFpsr_itmrPhase (s : State) (v : Word) : (s.setFpsr v).itmrPhase = s.itmrPhase := rfl

/-! ### What taking an interruption leaves alone -/

@[simp] theorem take_cfg (n : Nat) (p : IntParams) (s : State) : (take n p s).cfg = s.cfg := rfl
@[simp] theorem take_grs (n : Nat) (p : IntParams) (s : State) : (take n p s).grs = s.grs := rfl
@[simp] theorem take_srs (n : Nat) (p : IntParams) (s : State) : (take n p s).srs = s.srs := rfl
@[simp] theorem take_rctr (n : Nat) (p : IntParams) (s : State) : (take n p s).rctr = s.rctr := rfl
@[simp] theorem take_pid1 (n : Nat) (p : IntParams) (s : State) : (take n p s).pid1 = s.pid1 := rfl
@[simp] theorem take_pid2 (n : Nat) (p : IntParams) (s : State) : (take n p s).pid2 = s.pid2 := rfl
@[simp] theorem take_pid3 (n : Nat) (p : IntParams) (s : State) : (take n p s).pid3 = s.pid3 := rfl
@[simp] theorem take_pid4 (n : Nat) (p : IntParams) (s : State) : (take n p s).pid4 = s.pid4 := rfl
@[simp] theorem take_scr (n : Nat) (p : IntParams) (s : State) : (take n p s).scr = s.scr := rfl
@[simp] theorem take_ccr (n : Nat) (p : IntParams) (s : State) : (take n p s).ccr = s.ccr := rfl
@[simp] theorem take_sar (n : Nat) (p : IntParams) (s : State) : (take n p s).sar = s.sar := rfl
@[simp] theorem take_iva (n : Nat) (p : IntParams) (s : State) : (take n p s).iva = s.iva := rfl
@[simp] theorem take_eiem (n : Nat) (p : IntParams) (s : State) : (take n p s).eiem = s.eiem := rfl
@[simp] theorem take_itmr (n : Nat) (p : IntParams) (s : State) : (take n p s).itmr = s.itmr := rfl
@[simp] theorem take_itmrCmp (n : Nat) (p : IntParams) (s : State) : (take n p s).itmrCmp = s.itmrCmp := rfl
@[simp] theorem take_eirr (n : Nat) (p : IntParams) (s : State) : (take n p s).eirr = s.eirr := rfl
@[simp] theorem take_trs (n : Nat) (p : IntParams) (s : State) : (take n p s).trs = s.trs := rfl
@[simp] theorem take_defaultEndian (n : Nat) (p : IntParams) (s : State) : (take n p s).defaultEndian = s.defaultEndian := rfl
@[simp] theorem take_itlb (n : Nat) (p : IntParams) (s : State) : (take n p s).itlb = s.itlb := rfl
@[simp] theorem take_dtlb (n : Nat) (p : IntParams) (s : State) : (take n p s).dtlb = s.dtlb := rfl
@[simp] theorem take_pendHpmc (n : Nat) (p : IntParams) (s : State) : (take n p s).pendHpmc = s.pendHpmc := rfl
@[simp] theorem take_pendPowerFail (n : Nat) (p : IntParams) (s : State) : (take n p s).pendPowerFail = s.pendPowerFail := rfl
@[simp] theorem take_pendLpmc (n : Nat) (p : IntParams) (s : State) : (take n p s).pendLpmc = s.pendLpmc := rfl
@[simp] theorem take_pendPerfmon (n : Nat) (p : IntParams) (s : State) : (take n p s).pendPerfmon = s.pendPerfmon := rfl
@[simp] theorem take_fprs (n : Nat) (p : IntParams) (s : State) : (take n p s).fprs = s.fprs := rfl
@[simp] theorem take_fpIdentifyValid (n : Nat) (p : IntParams) (s : State) : (take n p s).fpIdentifyValid = s.fpIdentifyValid := rfl
@[simp] theorem take_fpZeroStored (n : Nat) (p : IntParams) (s : State) : (take n p s).fpZeroStored = s.fpZeroStored := rfl
@[simp] theorem take_fpBracketed (n : Nat) (p : IntParams) (s : State) : (take n p s).fpBracketed = s.fpBracketed := rfl
@[simp] theorem take_measurementEnabled (n : Nat) (p : IntParams) (s : State) : (take n p s).measurementEnabled = s.measurementEnabled := rfl
@[simp] theorem take_dbaor (n : Nat) (p : IntParams) (s : State) : (take n p s).dbaor = s.dbaor := rfl
@[simp] theorem take_dbamr (n : Nat) (p : IntParams) (s : State) : (take n p s).dbamr = s.dbamr := rfl
@[simp] theorem take_ibaor (n : Nat) (p : IntParams) (s : State) : (take n p s).ibaor = s.ibaor := rfl
@[simp] theorem take_ibamr (n : Nat) (p : IntParams) (s : State) : (take n p s).ibamr = s.ibamr := rfl
@[simp] theorem take_cprs (n : Nat) (p : IntParams) (s : State) : (take n p s).cprs = s.cprs := rfl
@[simp] theorem take_sfuStates (n : Nat) (p : IntParams) (s : State) : (take n p s).sfuStates = s.sfuStates := rfl
@[simp] theorem take_mem (n : Nat) (p : IntParams) (s : State) : (take n p s).mem = s.mem := rfl
@[simp] theorem take_iword (n : Nat) (p : IntParams) (s : State) : (take n p s).iword = s.iword := rfl
@[simp] theorem take_inputs (n : Nat) (p : IntParams) (s : State) : (take n p s).inputs = s.inputs := rfl
@[simp] theorem take_itmrPhase (n : Nat) (p : IntParams) (s : State) : (take n p s).itmrPhase = s.itmrPhase := rfl

/-! ### Register files -/

theorem readReg_writeReg {α : Type} (v : Vector α 32) (r q : Reg) (x : α) :
    readReg (writeReg v r x) q = if q = r then x else readReg v q := by
  unfold readReg writeReg
  rw [Vector.getElem_set]
  by_cases h : q = r
  · simp [h]
  · rw [if_neg h, if_neg (fun e => h (BitVec.toNat_inj.mp e).symm)]

theorem readReg8_writeReg8 {α : Type} (v : Vector α 8) (r q : BitVec 3) (x : α) :
    readReg8 (writeReg8 v r x) q = if q = r then x else readReg8 v q := by
  unfold readReg8 writeReg8
  rw [Vector.getElem_set]
  by_cases h : q = r
  · simp [h]
  · rw [if_neg h, if_neg (fun e => h (BitVec.toNat_inj.mp e).symm)]

/-- GR 0 reads as zero (R42). -/
@[simp] theorem State.gr_zero (s : State) : s.gr 0#5 = 0#32 := by simp [State.gr]

/-- A general register after a write. -/
theorem State.gr_setGr (s : State) (r q : Reg) (v : Word) :
    (s.setGr r v).gr q = if q = 0#5 then 0#32 else if q = r then v else s.gr q := by
  unfold State.setGr State.gr
  by_cases h : q = 0#5
  · simp [h]
  · by_cases hr : r = 0#5
    · simp [h, hr]
    · simp [h, hr, readReg_writeReg]

/-- The general registers after any update that leaves the file alone. -/
theorem State.gr_congr {s u : State} (h : u.grs = s.grs) (r : Reg) : u.gr r = s.gr r := by
  simp [State.gr, h]

@[simp] theorem State.gr_setSr (s : State) (r : BitVec 3) (v : Word) (q : Reg) :
    (s.setSr r v).gr q = s.gr q := State.gr_congr (by simp) q
@[simp] theorem State.gr_setCB (s : State) (cb : BitVec 8) (q : Reg) : (s.setCB cb).gr q = s.gr q := rfl
@[simp] theorem State.gr_setV (s : State) (v : Bool) (q : Reg) : (s.setV v).gr q = s.gr q := rfl
@[simp] theorem State.gr_storeBytes (s : State) (a : Nat) (bs : List Byte) (q : Reg) :
    (s.storeBytes a bs).gr q = s.gr q := rfl
@[simp] theorem State.gr_setTlb (s : State) (i : Bool) (l : List (Option TlbEntry)) (q : Reg) :
    (s.setTlb i l).gr q = s.gr q := State.gr_congr (by simp) q
@[simp] theorem State.gr_count (s s0 : State) (q : Reg) : (s.count s0).gr q = s.gr q :=
  State.gr_congr (by simp) q
@[simp] theorem State.gr_advance (s : State) (n : Bool) (t : Option Target) (q : Reg) :
    (s.advance n t).gr q = s.gr q := rfl
@[simp] theorem State.gr_setFpHalf (s : State) (n : Reg) (h : Bool) (v : Word) (q : Reg) :
    (s.setFpHalf n h v).gr q = s.gr q := rfl

/-- A general register after a base update. -/
theorem State.gr_modifyBase (s : State) (b q : Reg) (x : Option Word) :
    (s.modifyBase b x).gr q
      = match x with
        | some v => if q = 0#5 then 0#32 else if q = b then v else s.gr q
        | none => s.gr q := by
  cases x with
  | none => rfl
  | some v => exact State.gr_setGr s b q v

/-! ### Single bits -/

theorem mbit_setMbit (w : Word) (i j : Nat) (b : Bool) (hi : i < 32) (hj : j < 32) :
    mbit (setMbit w i b) j = if j = i then b else mbit w j := by
  unfold setMbit mbit
  have e : (31 - j < 31 - i) = (i < j) := by simp; omega
  have e' : (31 - j - (31 - i) = 0) ∨ (i < j) ∨ j < i := by omega
  by_cases h : j = i
  · subst h
    cases b
    · simp [BitVec.getLsbD_shiftLeft]
    · simp [BitVec.getLsbD_shiftLeft]; omega
  · have key : ((1#32) <<< (31 - i)).getLsbD (31 - j) = false := by
      rw [BitVec.getLsbD_shiftLeft]
      by_cases hlt : 31 - j < 31 - i
      · simp [hlt]
      · have : 31 - j - (31 - i) ≠ 0 := by omega
        simp [BitVec.getLsbD_one, this]
    cases b
    · simp only [if_neg h, Bool.false_eq_true, if_false, BitVec.getLsbD_and, BitVec.getLsbD_not, key]
      simp; intro; omega
    · simp [if_neg h, BitVec.getLsbD_or, key]

theorem mbit_setField (w : Word) (i n j : Nat) (v : BitVec n) (hin : i + n ≤ 32) (hj : j < 32) :
    mbit (setField w i n v) j
      = if i ≤ j ∧ j < i + n then v.getLsbD (i + n - 1 - j) else mbit w j := by
  unfold setField mbit
  rw [BitVec.getLsbD_or, BitVec.getLsbD_and, BitVec.getLsbD_not, BitVec.getLsbD_shiftLeft,
    BitVec.getLsbD_shiftLeft, BitVec.getLsbD_setWidth, BitVec.getLsbD_setWidth,
    BitVec.getLsbD_allOnes]
  by_cases h : i ≤ j ∧ j < i + n
  · have h1 : ¬ (31 - j < 32 - i - n) := by omega
    have h2 : 31 - j - (32 - i - n) = i + n - 1 - j := by omega
    have h3 : i + n - 1 - j < n := by omega
    have h5 : i + n - 1 - j < 32 := by omega
    simp [if_pos h, h1, h2, h3, h5]
    intro; omega
  · rw [if_neg h]
    by_cases h1 : 31 - j < 32 - i - n
    · simp [h1]; intro; omega
    · have h2 : ¬ (31 - j - (32 - i - n) < n) := by omega
      have h3 : v.getLsbD (31 - j - (32 - i - n)) = false := BitVec.getLsbD_of_ge _ _ (by omega)
      simp [h1, h2, h3]; intro; omega

/-- The PSW after a completed instruction, bit by bit (R79). -/
theorem mbit_donePsw (w : Word) (n t : Bool) (i : Nat) (hi : i < 32) :
    mbit (donePsw w n t) i
      = if i = 10 then n else if i = 12 then t else if i = 0 ∨ i = 1 ∨ i = 11 then false
        else mbit w i := by
  unfold donePsw
  rw [mbit_setMbit _ _ _ _ (by omega) hi, mbit_setMbit _ _ _ _ (by omega) hi]
  by_cases h10 : i = 10
  · simp [h10]
  · by_cases h12 : i = 12
    · simp [h12]
    · rw [if_neg h12, if_neg h10, if_neg h10, if_neg h12]
      unfold mbit
      rw [BitVec.getLsbD_and]
      have : i = 0 ∨ i = 1 ∨ i = 11 ∨ (2 ≤ i ∧ i ≤ 9) ∨ (13 ≤ i ∧ i ≤ 31) := by omega
      revert h10 h12
      interval_cases i <;> simp

end Sys2Proof.Machine
end

