-- ==== Sys2Proof/Laws/Ops.lean ====
section
/-!
SUPPORT. What each shared operation can do, said once: the completion of an instruction, the checks of a
reference, a translation, a trap.
-/

namespace Sys2Proof.Machine

/-! ### Completion -/

/-- With no trap of group 4 armed, none is taken. -/
theorem group4_calm {s0 s : State} (h : s0.calm) (lower taken : Bool) :
    group4 s0 s lower taken = s := by
  obtain ⟨hH, hL, hT⟩ := h
  simp [group4, hH, hL, hT]

/-- The fields that `SameBut` leaves open. -/
theorem SameBut.exists {base s : State} (h : SameBut base s) :
    ∃ g p a b c d r n, s = { base with
      grs := g, psw := p, iaoqFront := a, iaoqBack := b, iasqFront := c, iasqBack := d, rctr := r
      draws := n } := ⟨_, _, _, _, _, _, _, _, h⟩

theorem SameBut.mem {base w : State} (h : SameBut base w) : w.mem = base.mem := by
  obtain ⟨_, _, _, _, _, _, _, _, rfl⟩ := h.exists
  rfl

/-- What the completion of an instruction is: `s1` is `s` with the instruction's own effect. -/
theorem complete_completes {s base s1 : State} {regs : List (Reg × Word)} {nullify : Bool}
    {target : Option Target} {cb : BitVec 8} {v : Bool}
    (grs : GrsAre s s1 regs) (rest : SameBut base s1)
    (psw : ∀ i, i < 32 → mbit s1.psw i = if i = 14 then v
      else if 16 ≤ i ∧ i ≤ 23 then cb.getLsbD (23 - i) else mbit base.psw i)
    (rctr : s1.rctr = base.rctr) (hf : s1.iaoqBack = s.iaoqBack) (hs : s1.iasqBack = s.iasqBack) :
    ∃ w, Completes (.next (complete s s1 nullify target)) s base w regs nullify target cb v := by
  refine ⟨(s1.count s).advance nullify target, rfl, fun h => ?_, ?_, ?_, ?_, ?_, ?_, ?_, ?_, ?_⟩
  · exact congrArg _ (group4_calm h _ _)
  · intro r
    have := grs r
    simpa using this
  · intro i hi
    show mbit (donePsw (s1.count s).psw _ _) i = _
    rw [mbit_donePsw _ _ _ _ hi, State.count_psw, psw i hi]
    split_ifs <;> first | rfl | omega
  · simpa [State.advance] using hf
  · cases target <;> simp [State.advance, hf]
  · simpa [State.advance] using hs
  · cases target <;> simp [State.advance, hs]
  · simp [State.count]; split_ifs <;> simp [rctr]
  · obtain ⟨g, p, a, b, c, d, r, n, rfl⟩ := rest.exists
    unfold State.count
    split <;> rfl

/-- The flags as they are. -/
theorem psw_same (s : State) (i : Nat) (hi : i < 32) :
    mbit s.psw i = if i = 14 then s.pswV
      else if 16 ≤ i ∧ i ≤ 23 then s.pswCB.getLsbD (23 - i) else mbit s.psw i := by
  split_ifs with h1 h2
  · subst h1; rfl
  · unfold State.pswCB field mbit
    rw [BitVec.getLsbD_extractLsb']
    have h5 : 23 - i < 8 := by omega
    have h4 : 32 - 16 - 8 + (23 - i) = 31 - i := by omega
    simp [h5, h4]
  · rfl

/-- The flags with C/B replaced. -/
theorem psw_setCB (s : State) (cb : BitVec 8) (i : Nat) (hi : i < 32) :
    mbit (s.setCB cb).psw i = if i = 14 then s.pswV
      else if 16 ≤ i ∧ i ≤ 23 then cb.getLsbD (23 - i) else mbit s.psw i := by
  show mbit (setField s.psw 16 8 cb) i = _
  rw [mbit_setField _ _ _ _ _ (by omega) hi]
  by_cases h1 : i = 14
  · subst h1; rfl
  · by_cases h2 : 16 ≤ i ∧ i ≤ 23
    · rw [if_pos (by omega), if_neg h1, if_pos h2, show 16 + 8 - 1 - i = 23 - i by omega]
    · rw [if_neg (by omega), if_neg h1, if_neg h2]

theorem grsAre_refl (s : State) : GrsAre s s [] := by
  intro r
  by_cases h : r = 0#5 <;> simp [h]

theorem grsAre_setGr {s : State} (t : Reg) (v : Word) : GrsAre s (s.setGr t v) [(t, v)] := by
  intro r
  rw [State.gr_setGr]
  by_cases h : r = t
  · simp [List.lookup, h]
  · have e : (r == t) = false := by simpa using h
    simp [List.lookup, h, e]

theorem grsAre_congr {s u w : State} {l : List (Reg × Word)} (h : w.grs = u.grs) (g : GrsAre s u l) :
    GrsAre s w l := fun r => by rw [State.gr_congr h]; exact g r

theorem sameBut_refl (s : State) : SameBut s s := rfl

theorem sameBut_setGr {base s : State} (t : Reg) (v : Word) (h : SameBut base s) :
    SameBut base (s.setGr t v) := by
  obtain ⟨_, _, _, _, _, _, _, _, rfl⟩ := h.exists
  unfold State.setGr
  split <;> rfl

theorem sameBut_setCB {base s : State} (cb : BitVec 8) (h : SameBut base s) :
    SameBut base (s.setCB cb) := by
  obtain ⟨_, _, _, _, _, _, _, _, rfl⟩ := h.exists
  rfl

theorem sameBut_modifyBase {base s : State} (b : Reg) (x : Option Word) (h : SameBut base s) :
    SameBut base (s.modifyBase b x) := by
  cases x with
  | none => exact h
  | some v => exact sameBut_setGr b v h

theorem sameBut_draws {base s : State} (n : Nat) (h : SameBut base s) :
    SameBut base { s with draws := n } := by
  obtain ⟨_, _, _, _, _, _, _, _, rfl⟩ := h.exists
  rfl

/-- A base update, then a target: the target wins (R410). -/
theorem grsAre_modify_set {s u : State} (g : u.grs = s.grs) (b t : Reg) (x : Option Word) (v : Word) :
    GrsAre s ((u.modifyBase b x).setGr t v) ((t, v) :: (x.map fun y => (b, y)).toList) := by
  intro r
  rw [State.gr_setGr, State.gr_modifyBase, State.gr_congr g]
  by_cases h : r = t
  · simp [List.lookup, h]
  · have e : (r == t) = false := by simpa using h
    cases x with
    | none => simp [List.lookup, h, e]
    | some y =>
      by_cases hb : r = b
      · subst hb
        simp only [List.lookup, Option.map_some, Option.toList_some, e, beq_self_eq_true, if_neg h]
        by_cases h0 : r = 0#5 <;> simp [h0]
      · have e' : (r == b) = false := by simpa using hb
        simp only [List.lookup, Option.map_some, Option.toList_some, e, e', if_neg h, if_neg hb]
        by_cases h0 : r = 0#5 <;> simp [h0]

/-- A base update alone. -/
theorem grsAre_modify {s u : State} (g : u.grs = s.grs) (b : Reg) (x : Option Word) :
    GrsAre s (u.modifyBase b x) (x.map fun y => (b, y)).toList := by
  intro r
  rw [State.gr_modifyBase, State.gr_congr g]
  cases x with
  | none =>
    by_cases h0 : r = 0#5 <;> simp [h0]
  | some y =>
    by_cases hb : r = b
    · simp [hb]
    · have e' : (r == b) = false := by simpa using hb
      simp [List.lookup, hb, e']

/-- The completion of an instruction that leaves the flags alone. -/
theorem complete_plain {s base s1 : State} {regs : List (Reg × Word)} {nullify : Bool}
    {target : Option Target} (grs : GrsAre s s1 regs) (rest : SameBut base s1)
    (psw : s1.psw = s.psw) (pswB : base.psw = s.psw) (rctr : s1.rctr = base.rctr)
    (hf : s1.iaoqBack = s.iaoqBack) (hs : s1.iasqBack = s.iasqBack) :
    ∃ w, Completes (.next (complete s s1 nullify target)) s base w regs nullify target s.pswCB s.pswV :=
  complete_completes grs rest (by rw [psw, pswB]; exact psw_same s) rctr hf hs

/-- The completion of an instruction that writes a sum. -/
theorem finishSum_sumIn (s : State) (t : Reg) (x : Sum) (cond : Bool) :
    SumIn (finishSum s t x cond) s t x cond :=
  complete_completes (grsAre_congr rfl (grsAre_setGr t x.res))
    (sameBut_setCB _ (sameBut_setGr _ _ (sameBut_refl s)))
    (by have := psw_setCB (s.setGr t x.res) x.cb; simpa [State.pswV] using this) (by simp) (by simp) (by simp)

/-- The completion of an instruction that writes a word. -/
theorem finishWord_wordIn {s u : State} (t : Reg) (v : Word) (cond : Bool)
    (h : u = { s with draws := u.draws }) : WordIn (finishWord s u t v cond) s t v cond := by
  refine complete_plain ?_ (sameBut_setGr _ _ ?_) ?_ rfl ?_ ?_ ?_
  · intro r
    rw [State.gr_setGr, h]
    exact (State.gr_setGr s t r v).symm.trans (grsAre_setGr t v r)
  all_goals rw [h]
  · rfl
  all_goals simp

/-! ### Translation and the checks of a reference -/

/-- What a translation can change: the TLBs, the translation relied upon and the counter of free values. -/
def SameButTlb (s s' : State) : Prop :=
  s' = { s with itlb := s'.itlb, dtlb := s'.dtlb, relied := s'.relied, draws := s'.draws }

theorem sameButTlb_refl (s : State) : SameButTlb s s := rfl

theorem SameButTlb.exists {s s' : State} (h : SameButTlb s s') :
    ∃ i d r n, s' = { s with itlb := i, dtlb := d, relied := r, draws := n } := ⟨_, _, _, _, h⟩

/-- The fields of a state after a translation that the completion of an instruction needs. -/
theorem SameButTlb.fields {s s' : State} (h : SameButTlb s s') :
    s'.grs = s.grs ∧ s'.psw = s.psw ∧ s'.iaoqBack = s.iaoqBack ∧ s'.iasqBack = s.iasqBack ∧
      s'.mem = s.mem := by
  obtain ⟨i, d, r, n, rfl⟩ := h.exists
  exact ⟨rfl, rfl, rfl, rfl, rfl⟩

theorem SameButTlb.trans {s t u : State} (h : SameButTlb s t) (k : SameButTlb t u) : SameButTlb s u := by
  obtain ⟨_, _, _, _, rfl⟩ := h.exists
  obtain ⟨_, _, _, _, rfl⟩ := k.exists
  rfl

theorem unrely_frame (s : State) : SameButTlb s s.unrely := rfl

/-- A data reference keeps the translation relied upon, or ends the reliance (R201). -/
theorem keepRelied_frame (s : State) (space offset : Word) : SameButTlb s (s.keepRelied space offset) := by
  unfold State.keepRelied
  split
  · split
    · rfl
    · exact unrely_frame s
  · rfl

/-- An insertion never evicts the translation relied upon (R201, D6 (a)). -/
theorem tlbAlloc_spares {s : State} {instr : Bool} {i : Nat} (h : s.tlbAlloc instr = some i) :
    s.heldSlot instr ((s.tlb instr).getD i none) = false := by
  have found {p : Option TlbEntry → Bool} (hi : (s.tlb instr).findIdx? p = some i) :
      p ((s.tlb instr).getD i none) = true := by
    obtain ⟨lt, hp, -⟩ := List.findIdx?_eq_some_iff_getElem.1 hi
    simpa [List.getD, lt] using hp
  unfold State.tlbAlloc at h
  dsimp only at h
  split at h
  · cases h
    rename_i hi
    unfold State.heldSlot
    rw [Option.isNone_iff_eq_none.1 (found hi)]
    cases s.relied <;> rfl
  · split at h
    · cases h
      rename_i hi
      have := found hi
      unfold State.heldSlot
      split <;> simp_all
    · have := List.mem_of_getElem? h
      simpa using (List.mem_filter.1 this).2

theorem tlbInsert_frame (s : State) (instr : Bool) (e : TlbEntry) :
    SameButTlb s (s.tlbInsert instr e) := by
  unfold SameButTlb State.tlbInsert State.setTlb
  split <;> rfl

/-- A translation answers the state unchanged, or with the hardware handler's entry inserted (R183). -/
theorem translate_frame {s s' : State} {instr : Bool} {space offset : Word} {e : TlbEntry}
    (h : s.translate instr space offset = some (e, s')) : SameButTlb s s' := by
  unfold State.translate at h
  split at h
  · cases h; rfl
  · split at h
    · split at h
      · cases h; exact tlbInsert_frame s instr _
      · cases h
    · cases h

/-- What a translation leaves, whether or not the instruction is then interrupted. -/
theorem walked_frame (s : State) (instr : Bool) (space offset : Word) :
    SameButTlb s (s.walked instr space offset) := by
  unfold State.walked
  split
  · rename_i h
    exact translate_frame h
  · exact sameButTlb_refl s

/-- The state in which a data reference is interrupted. -/
theorem referenceWalked_frame (s : State) (n : Nat) (ref : DataRef) (space offset : Word) :
    SameButTlb s (s.referenceWalked n ref space offset) := by
  have h := (keepRelied_frame s space offset).trans (walked_frame _ false space offset)
  unfold State.referenceWalked
  split
  · dsimp only
    split
    · exact h.trans rfl
    · exact h
  · exact sameButTlb_refl s

/-- The state in which a fetch is interrupted. -/
theorem fetchWalked_frame (s : State) : SameButTlb s s.fetchWalked := by
  unfold State.fetchWalked
  split
  · exact (unrely_frame s).trans (walked_frame _ true _ _)
  · exact sameButTlb_refl s

theorem reach_ok {s s' t : State} {ref : DataRef} {u : Option Bool} {a : Word} {n : Nat}
    (h : reach s ref u a s' = .ok (t, n)) : t = s' ∧ n = a.toNat := by
  unfold reach at h
  split_ifs at h
  cases h
  exact ⟨rfl, rfl⟩

theorem unalignedCase_ok {s : State} {ref : DataRef} {o : Word} {k : Word → Check (State × Nat)}
    {t : State × Nat} (h : unalignedCase s ref o k = .ok t) : ∃ a, k a = .ok t := by
  unfold unalignedCase at h
  split at h
  · cases h
  · cases h
  · exact ⟨_, h⟩

theorem absoluteCheck_ok {s s' : State} {ref : DataRef} {o : Word} {n : Nat}
    (h : absoluteCheck s ref o = .ok (s', n)) : s' = s := by
  have go : ∀ a, (match s.dataBreakpoint ref.kind o with
      | .undefined => Check.refused .debugMask
      | .hit => .trap 31
      | .none => reach s ref none a s) = .ok (s', n) → s' = s := by
    intro a h
    split at h
    · cases h
    · cases h
    · exact (reach_ok h).1
  unfold absoluteCheck at h
  dsimp only at h
  split at h
  · obtain ⟨a, h⟩ := unalignedCase_ok h
    exact go a h
  · exact go o h

theorem virtualCheck_ok {s s' : State} {ref : DataRef} {space o : Word} {n : Nat}
    (h : virtualCheck s ref space o = .ok (s', n)) : SameButTlb s s' := by
  unfold virtualCheck at h
  split at h
  · cases h
  · rename_i e t ht
    have tf := (keepRelied_frame s space o).trans (translate_frame ht)
    have go : ∀ off, (if ref.kind ≠ .load ∧ e.b ∧ !s.pswX then Check.trap 19
        else if ref.kind ≠ .load ∧ !e.d then .trap 20
        else if e.t then .trap 21
        else reach s ref (if s.cfg.hasTlbU then some e.u else none) (absoluteOf e off) t)
        = .ok (s', n) → SameButTlb s s' := by
      intro off h
      split_ifs at h
      all_goals first | cases h | (rw [(reach_ok h).1]; exact tf)
    dsimp only at h
    split at h
    · cases h
    · split at h
      · cases h
      · split at h
        · split at h
          · obtain ⟨a, h⟩ := unalignedCase_ok h
            exact go a h
          · cases h
        · exact go _ h

/-- The checks of a reference that succeed change nothing but the TLBs. -/
theorem dataCheck_frame {s s' : State} {ref : DataRef} {space o : Word} {n : Nat}
    (h : s.dataCheck ref space o = .ok (s', n)) : SameButTlb s s' := by
  unfold State.dataCheck at h
  split at h
  · exact virtualCheck_ok h
  · rw [absoluteCheck_ok h]
    exact sameButTlb_refl s

/-- A reference that passes its checks goes on. -/
theorem access_ok {s s' : State} {ref : DataRef} {space o r : Word} {n : Nat}
    (h : s.dataCheck ref space o = .ok (s', n)) (k : State → Nat → Out) :
    s.accessAs ref space o r k = k s' n := by
  unfold State.accessAs
  rw [h]

/-- A reference that is interrupted takes its interruption. -/
theorem access_trap {s : State} {ref : DataRef} {space o r : Word} {n : Nat}
    (h : s.dataCheck ref space o = .trap n) (k : State → Nat → Out) :
    TrapsRef (s.accessAs ref space o r k) s n ref space o r := by
  unfold TrapsRef State.accessAs
  rw [h]
  rfl

/-- A load whose reference passes its checks. -/
theorem load_loads {s s' : State} {ref : DataRef} {ea : Ea} {b t : Reg} {a : Nat}
    {value : State → Nat → Word} (h : s.dataCheck ref ea.space ea.offset = .ok (s', a)) :
    Loads (load s ref ea b t value) s s' b t ea.base (value s' a) := by
  obtain ⟨hg, hp, hf, hs, hm⟩ := (dataCheck_frame h).fields
  unfold load State.access
  rw [access_ok h]
  obtain ⟨w, hw⟩ := complete_plain (s := s) (base := s') (nullify := false) (target := none)
    (grsAre_modify_set hg b t ea.base (value s' a))
    (sameBut_setGr t _ (sameBut_modifyBase b ea.base (sameBut_refl s'))) (by simp [hp]) hp (by simp)
    (by simp [hf]) (by simp [hs])
  refine ⟨w, hw, fun k => ?_⟩
  rw [show w.mem = s'.mem from hw.rest.mem, hm]

/-- A store of bytes, then a base update. -/
theorem done_stores {s s' : State} {b : Reg} {base : Option Word} {a : Nat} {bytes : List Byte}
    (m : s.mem.wf = true) (f : SameButTlb s s') :
    Stores (done s ((s'.storeBytes a bytes).modifyBase b base)) s s' b base a bytes := by
  obtain ⟨hg, hp, hf, hs, hm⟩ := f.fields
  obtain ⟨w, hw⟩ := complete_plain (s := s) (base := s'.storeBytes a bytes) (nullify := false)
    (target := none) (grsAre_modify (by simpa using hg) b base)
    (sameBut_modifyBase b base (sameBut_refl _)) (by simp [hp]) (by simp [hp]) (by simp) (by simp [hf])
    (by simp [hs])
  have hw' : w.mem = s'.mem.setBytes a bytes := hw.rest.mem
  have hw'' : w.mem = s.mem.setBytes a bytes := by rw [hw', hm]
  refine ⟨w, ?_, ?_, ?_⟩
  · rw [hw']; exact hw
  · intro i hi
    rw [hw'', Memory.byteAt_setBytes_inside m a i bytes hi]
  · intro k hk
    rw [hw'', Memory.byteAt_setBytes_outside m a k bytes hk]

/-- A store whose reference passes its checks. -/
theorem store_stores {s s' : State} {ref : DataRef} {ea : Ea} {b : Reg} {a : Nat} {bytes : List Byte}
    (m : s.mem.wf = true) (h : s.dataCheck ref ea.space ea.offset = .ok (s', a)) :
    Stores (store s ref ea b bytes) s s' b ea.base a bytes := by
  unfold store State.access
  rw [access_ok h]
  exact done_stores m (dataCheck_frame h)

/-! ### The interval timer and the identify format -/

/-- What ticks of the interval timer write. -/
theorem ticks_frame (n : Nat) : ∀ s : State,
    s.ticks n = { s with itmr := (s.ticks n).itmr, eirr := (s.ticks n).eirr } := by
  induction n with
  | zero => intro s; rfl
  | succ n ih => intro s; unfold State.ticks; rw [ih]; rfl

/-- What the interval timer writes in one step. -/
theorem runTimer_frame (s : State) :
    s.runTimer = { s with
      itmr := s.runTimer.itmr, eirr := s.runTimer.eirr, itmrPhase := s.runTimer.itmrPhase } := by
  unfold State.runTimer
  dsimp only
  rw [ticks_frame]

/-- What the end of the identify format writes. -/
theorem endIdentify_frame (s : State) :
    s.endIdentify = { s with
      fprs := s.endIdentify.fprs, fpIdentifyValid := false, fpZeroStored := false
      draws := s.endIdentify.draws } := by
  unfold State.endIdentify
  split <;> rfl

end Sys2Proof.Machine
end

