-- ==== Sys2Proof/Tests/Slice0.lean ====
section
/-!
SUPPORT. Tests of the model against the spec's own vectors (spec/96_decode_vectors.md,
spec/95_test_vectors.md part B) and, after them, for each statement of
Sys2Proof/Certificates/Slice0/Obligations.lean that has hypotheses, a state and operands that meet them.
-/

set_option Elab.async false
set_option linter.all false

namespace Sys2Proof.Tests

open Sys2Proof Sys2Proof.Machine

/-! ### Decoding: words of spec/96_decode_vectors.md -/

def decodes (l : List (Word × Instr)) : Bool :=
  l.all fun p => decode p.1 == some p.2 && p.2.wf

theorem test_decode_memory_reference_1 : decodes
    [(0x49DBB6D6, .ldw 14 27 2 14038),
     (0x4BB85CEA, .ldw 29 24 1 7402),
     (0x47720BD1, .ldh 27 18 0 3025),
     (0x4730684F, .ldh 25 16 1 10319),
     (0x43251C94, .ldb 25 5 0 7316),
     (0x41242279, .ldb 9 4 0 8825),
     (0x4F9682AE, .ldwm 28 22 2 686),
     (0x4E7F7DBE, .ldwm 19 31 1 15806),
     (0x6A97A99A, .stw 20 23 2 10650),
     (0x68B3353A, .stw 5 19 0 13626),
     (0x64410C2C, .sth 2 1 0 3116),
     (0x678781EC, .sth 28 7 2 492),
     (0x61CA65D2, .stb 14 10 1 9682),
     (0x63468EF4, .stb 26 6 2 3828),
     (0x6D2F2A65, .stwm 9 15 0 10853),
     (0x6C4E91CD, .stwm 2 14 2 4557),
     (0x0FF1EC96, .ldwx 31 17 3 1 3 0 22),
     (0x0D0AC880, .ldwx 8 10 3 0 2 0 0),
     (0x0E580069, .ldhx 18 24 0 0 0 1 9),
     (0x0D82CC60, .ldhx 12 2 3 0 3 1 0)] = true := by
  decide +kernel

theorem test_decode_memory_reference_2 : decodes
    [(0x0CDDC41F, .ldbx 6 29 3 0 1 0 31),
     (0x0ECC4826, .ldbx 22 12 1 0 2 1 6),
     (0x0EA845C0, .ldcwx 21 8 1 0 1 0 0),
     (0x0FCDE1C7, .ldcwx 30 13 3 1 0 0 7),
     (0x0C6005AF, .ldwax 3 0 0 1 1 15),
     (0x0CB52190, .ldwax 5 21 1 0 0 16),
     (0x0FF7D4AC, .ldws 31 23 3 0 1 1 12),
     (0x0C6C7088, .ldws 3 12 1 1 0 0 8),
     (0x0FFFF47C, .ldhs 31 31 3 1 1 1 28),
     (0x0C061C73, .ldhs 0 6 0 0 3 1 19),
     (0x0E43300E, .ldbs 18 3 0 1 0 0 14),
     (0x0D00F429, .ldbs 8 0 3 1 1 1 9),
     (0x0C4219E7, .ldcws 2 2 0 0 2 1 7),
     (0x0C1359C4, .ldcws 0 19 1 0 2 0 4),
     (0x0E4F399B, .ldwas 18 15 1 2 0 27),
     (0x0D85319D, .ldwas 12 5 1 0 0 29),
     (0x0F533297, .stws 26 19 0 1 0 0 23),
     (0x0E9E9AAC, .stws 20 30 2 0 2 1 12),
     (0x0DF31303, .stbys 15 19 0 0 0 0 3),
     (0x0C30D336, .stbys 1 16 3 0 0 1 22)] = true := by
  decide +kernel

theorem test_decode_memory_reference_3 : decodes
    [(0x0D0DFA49, .sths 8 13 3 1 2 0 9),
     (0x0E05FE44, .sths 16 5 3 1 3 0 4),
     (0x0DF1BA22, .stbs 15 17 2 1 2 1 2),
     (0x0D06F220, .stbs 8 6 3 1 0 1 0),
     (0x0D0D1381, .stwas 8 13 0 0 0 1),
     (0x0CA91BBF, .stwas 5 9 0 2 1 31)] = true := by
  decide +kernel

theorem test_decode_immediate : decodes
    [(0x344B08DB, .ldo 2 11 2267),
     (0x378E3EC0, .ldo 28 14 16064),
     (0x22B773F5, .ldil 21 1537013),
     (0x22D0B3B9, .ldil 22 1094585),
     (0x2BC47DB9, .addil 30 294329),
     (0x2A411F61, .addil 18 73569)] = true := by
  decide +kernel

theorem test_decode_branch_1 : decodes
    [(0xE80F1D21, .bl 0 15 1864 0 1),
     (0xE93E0111, .bl 9 30 68 0 1),
     (0xE84F2226, .gate 2 15 137 1 0),
     (0xE9443FF8, .gate 10 4 2046 0 0),
     (0xEA2B4002, .blr 17 11 1),
     (0xE83C4002, .blr 1 28 1),
     (0xEAF6C000, .bv 23 22 0),
     (0xEB3EC002, .bv 25 30 1),
     (0xE162AF26, .be 11 2 5 969 1 0),
     (0xE37B7E36, .be 27 27 3 1933 1 0),
     (0xE5F213FE, .ble 15 18 0 1279 1 0),
     (0xE5921378, .ble 12 18 0 1246 0 0),
     (0xCA83E83A, .movb 20 3 7 526 1 0),
     (0xCAEA7DE7, .movb 23 10 3 1913 1 1),
     (0x81CE7AD2, .combt 14 14 3 1716 1 0),
     (0x821880F5, .combt 16 24 4 61 0 1),
     (0x89E03EA2, .combf 15 0 1 1960 1 0),
     (0x89F8951E, .combf 15 24 4 1351 1 0),
     (0xA38049A1, .addbt 28 0 2 616 0 1),
     (0xA266856F, .addbt 19 6 4 347 1 1)] = true := by
  decide +kernel

theorem test_decode_branch_2 : decodes
    [(0xAABD6FF2, .addbf 21 29 3 1020 1 0),
     (0xA94CA805, .addbf 10 12 5 513 0 1),
     (0xCF39DD41, .movib 25 25 6 1872 0 1),
     (0xCCCC32AA, .movib 6 12 1 1194 1 0),
     (0x84846B3B, .comibt 4 4 3 718 1 1),
     (0x8761A20F, .comibt 27 1 5 131 1 1),
     (0x8F450E68, .comibf 26 5 0 922 0 0),
     (0x8FA6CD3D, .comibf 29 6 6 847 0 1),
     (0xA5F556EB, .addibt 15 21 2 1466 1 1),
     (0xA7F36A41, .addibt 31 19 3 656 0 1),
     (0xAD1B8153, .addibf 8 27 4 84 1 1),
     (0xAD1249E3, .addibf 8 18 2 632 1 1),
     (0xC000A458, .bvb 0 5 278 0 0),
     (0xC0C6189E, .bvb 6 0 1575 1 0),
     (0xC704C183, .bb 24 4 6 96 1 1),
     (0xC46E142B, .bb 3 14 0 1290 1 1)] = true := by
  decide +kernel

theorem test_decode_arithmetic_1 : decodes
    [(0x0B2BE615, .add 25 11 7 0 21),
     (0x08C6C608, .add 6 6 6 0 8),
     (0x0AC0CA11, .addl 22 0 6 0 17),
     (0x0AC12A08, .addl 22 1 1 0 8),
     (0x0971BE10, .addo 11 17 5 1 16),
     (0x0A13FE05, .addo 16 19 7 1 5),
     (0x0B79B707, .addc 27 25 5 1 7),
     (0x084DF717, .addc 2 13 7 1 23),
     (0x088E6F14, .addco 4 14 3 0 20),
     (0x0B9D0F11, .addco 28 29 0 0 17),
     (0x0A9C965A, .sh1add 20 28 4 1 26),
     (0x0BCA6654, .sh1add 30 10 3 0 20),
     (0x08C3BA5A, .sh1addl 6 3 5 1 26),
     (0x0B34FA43, .sh1addl 25 20 7 1 3),
     (0x08FC7E42, .sh1addo 7 28 3 1 2),
     (0x0BE99E59, .sh1addo 31 9 4 1 25),
     (0x0948F69B, .sh2add 10 8 7 1 27),
     (0x080B8681, .sh2add 0 11 4 0 1),
     (0x09517A88, .sh2addl 10 17 3 1 8),
     (0x09FD0A99, .sh2addl 15 29 0 0 25)] = true := by
  decide +kernel

theorem test_decode_arithmetic_2 : decodes
    [(0x084DCE85, .sh2addo 2 13 6 0 5),
     (0x0A2ABE9D, .sh2addo 17 10 5 1 29),
     (0x09E4F6DC, .sh3add 15 4 7 1 28),
     (0x0AF0D6D6, .sh3add 23 16 6 1 22),
     (0x0BDC7ADE, .sh3addl 30 28 3 1 30),
     (0x0AC2CACE, .sh3addl 22 2 6 0 14),
     (0x0A29DED1, .sh3addo 17 9 6 1 17),
     (0x0A859EDA, .sh3addo 20 5 4 1 26),
     (0x0A28540C, .sub 17 8 2 1 12),
     (0x0BDBD413, .sub 30 27 6 1 19),
     (0x093B3C11, .subo 9 27 1 1 17),
     (0x0A088C06, .subo 16 8 4 0 6),
     (0x0A238513, .subb 17 3 4 0 19),
     (0x09809501, .subb 12 0 4 1 1),
     (0x0BAC9D1F, .subbo 29 12 4 1 31),
     (0x0A436D16, .subbo 18 3 3 0 22),
     (0x085D84CD, .subt 2 29 4 0 13),
     (0x0BBED4CC, .subt 29 30 6 1 12),
     (0x08EF6CCA, .subto 7 15 3 0 10),
     (0x09BCDCDC, .subto 13 28 6 1 28)] = true := by
  decide +kernel

theorem test_decode_arithmetic_3 : decodes
    [(0x09F04446, .ds 15 16 2 0 6),
     (0x09B31448, .ds 13 19 0 1 8),
     (0x0AD8E881, .comclr 22 24 7 0 1),
     (0x08C42895, .comclr 6 4 1 0 21),
     (0x09574253, .or 10 23 2 0 19),
     (0x09E37252, .or 15 3 3 1 18),
     (0x0B708296, .xor 27 16 4 0 22),
     (0x08D6928D, .xor 6 22 4 1 13),
     (0x09947210, .and 12 20 3 1 16),
     (0x0A65821B, .and 19 5 4 0 27),
     (0x0A343006, .andcm 17 20 1 1 6),
     (0x0B71901B, .andcm 27 17 4 1 27),
     (0x08FDB399, .uxor 7 29 5 1 25),
     (0x097C2393, .uxor 11 28 1 0 19),
     (0x0B9D2998, .uaddcm 28 29 1 0 24),
     (0x0BE6E984, .uaddcm 31 6 7 0 4),
     (0x08E4A9C8, .uaddcmt 7 4 5 0 8),
     (0x098379DE, .uaddcmt 12 3 3 1 30),
     (0x0A20DB84, .dcor 17 6 1 4),
     (0x08C07B95, .dcor 6 3 1 21)] = true := by
  decide +kernel

theorem test_decode_arithmetic_4 : decodes
    [(0x08000BD2, .idcor 0 0 0 18),
     (0x0AA05BDA, .idcor 21 2 1 26),
     (0xB563B513, .addi 11 3 5 1 1299),
     (0xB70A957C, .addi 24 10 4 1 1404),
     (0xB4D908D9, .addio 6 25 0 0 217),
     (0xB401DCE8, .addio 0 1 6 1 1256),
     (0xB3926184, .addit 28 18 3 0 388),
     (0xB0A326B8, .addit 5 3 1 0 1720),
     (0xB3E9F8C3, .addito 31 9 7 1 195),
     (0xB2413D72, .addito 18 1 1 1 1394),
     (0x94580320, .subi 2 24 0 0 800),
     (0x95CD8370, .subi 14 13 4 0 880),
     (0x966B1D9B, .subio 19 11 0 1 1435),
     (0x943B2B43, .subio 1 27 1 0 835),
     (0x9177475F, .comiclr 11 23 2 0 1887),
     (0x90D32419, .comiclr 6 19 1 0 1049)] = true := by
  decide +kernel

theorem test_decode_shift_1 : decodes
    [(0xD00AE002, .vshd 0 10 7 2),
     (0xD33AA01C, .vshd 25 26 5 28),
     (0xD3B4E992, .shd 29 20 7 12 18),
     (0xD2668A5F, .shd 19 6 4 18 31),
     (0xD3385008, .vextru 25 24 2 8),
     (0xD3A3B017, .vextru 29 3 5 23),
     (0xD0BAF40C, .vextrs 5 26 7 12),
     (0xD09C541C, .vextrs 4 28 2 28),
     (0xD2CBD9B8, .extru 22 11 6 13 24),
     (0xD0AC3AE5, .extru 5 12 1 23 5),
     (0xD32A5DE3, .extrs 25 10 2 15 3),
     (0xD01C5FF4, .extrs 0 28 2 31 20),
     (0xD6612008, .zvdep 19 1 1 8),
     (0xD7DEA009, .zvdep 30 30 5 9),
     (0xD4D56412, .vdep 6 21 3 18),
     (0xD4B1040C, .vdep 5 17 0 12),
     (0xD7EFA8D6, .zdep 31 15 5 6 22),
     (0xD4786BF2, .zdep 3 24 3 31 18),
     (0xD4730EE7, .dep 3 19 0 23 7),
     (0xD50E6E01, .dep 8 14 3 16 1)] = true := by
  decide +kernel

theorem test_decode_shift_2 : decodes
    [(0xD4D47000, .zvdepi 6 20 3 0),
     (0xD4685008, .zvdepi 3 8 2 8),
     (0xD5519410, .vdepi 10 17 4 16),
     (0xD5BE9412, .vdepi 13 30 4 18),
     (0xD7E3B9D9, .zdepi 31 3 5 14 25),
     (0xD6829A75, .zdepi 20 2 4 19 21),
     (0xD7C17FBE, .depi 30 1 3 29 30),
     (0xD4AC7FE5, .depi 5 12 3 31 5)] = true := by
  decide +kernel

theorem test_decode_system_1 : decodes
    [(0x01FB6011, .breakTrap 4059 17),
     (0x0271C013, .breakTrap 5006 19),
     (0x00000400, .sync),
     (0x01E80400, .sync),
     (0x00100400, .syncdma),
     (0x01FD0400, .syncdma),
     (0x00000C00, .rfi),
     (0x0299AC00, .rfi),
     (0x00000CA0, .rfir),
     (0x03B32CA0, .rfir),
     (0x00240D70, .ssm 36 16),
     (0x03B30D73, .ssm 51 19),
     (0x002E0E70, .rsm 46 16),
     (0x03A40E6F, .rsm 36 15),
     (0x00081860, .mtsm 8),
     (0x00111860, .mtsm 17),
     (0x012090B6, .ldsid 9 2 22),
     (0x02F650A0, .ldsid 23 1 0),
     (0x00183820, .mtsp 24 1),
     (0x02121820, .mtsp 18 0)] = true := by
  decide +kernel

theorem test_decode_system_2 : decodes
    [(0x000024AD, .mfsp 1 13),
     (0x03C0C4B5, .mfsp 6 21),
     (0x003C1840, .mtctl 1 28),
     (0x01575840, .mtctl 10 23),
     (0x002008B2, .mfctl 1 18),
     (0x03E0E8B7, .mfctl 31 23),
     (0x0542D040, .idtlba 10 2 3),
     (0x07875040, .idtlba 28 7 1),
     (0x05E8D000, .idtlbp 15 8 3),
     (0x07071000, .idtlbp 24 7 0),
     (0x047DD220, .pdtlb 3 29 3 1),
     (0x07AE122A, .pdtlb 29 14 0 1),
     (0x07479260, .pdtlbe 26 7 2 1),
     (0x0461925F, .pdtlbe 3 1 2 0),
     (0x0466D280, .fdc 3 6 3 0),
     (0x05701281, .fdc 11 16 0 0),
     (0x05C492C0, .fdce 14 4 2 0),
     (0x05D352F6, .fdce 14 19 1 1),
     (0x06AD53A0, .pdc 21 13 1 1),
     (0x06F0D3A0, .pdc 23 16 3 1)] = true := by
  decide +kernel

theorem test_decode_system_3 : decodes
    [(0x07C99184, .prober 30 9 2 4),
     (0x04EF1190, .prober 7 15 0 16),
     (0x0539B193, .proberi 9 25 2 19),
     (0x076B7188, .proberi 27 11 1 8),
     (0x06B791D6, .probew 21 23 2 22),
     (0x064691C8, .probew 18 6 2 8),
     (0x04E6F1C7, .probewi 7 6 3 7),
     (0x061FB1DD, .probewi 16 31 2 29),
     (0x07951361, .lpa 28 21 0 1 1),
     (0x04085340, .lpa 0 8 1 0 0),
     (0x04231311, .lci 1 3 0 17),
     (0x0502D302, .lci 8 2 3 2),
     (0x06A58040, .iitlba 21 5 4),
     (0x04F4E040, .iitlba 7 20 7),
     (0x05EF4000, .iitlbp 15 15 2),
     (0x04CA4000, .iitlbp 6 10 2),
     (0x06E4C220, .pitlb 23 4 6 1),
     (0x0459021F, .pitlb 2 25 0 0),
     (0x0753C260, .pitlbe 26 19 6 1),
     (0x07066259, .pitlbe 24 6 3 0)] = true := by
  decide +kernel

theorem test_decode_system_4 : decodes
    [(0x050CC280, .fic 8 12 6 0),
     (0x0564A2B2, .fic 11 4 5 1),
     (0x066A42E0, .fice 19 10 2 1),
     (0x0717C2EC, .fice 24 23 6 1),
     (0x15B5EA8D, .diag 28699277),
     (0x169D7F6D, .diag 43876205)] = true := by
  decide +kernel

theorem test_decode_assist_1 : decodes
    [(0x1252801C, .spop0 19024 0 0 28),
     (0x114BE822, .spop0 10621 0 1 2),
     (0x1241C31A, .spop1 18488 4 0 26),
     (0x12BDC2DA, .spop1 22456 3 0 26),
     (0x10026C9D, .spop2 0 77 2 0 29),
     (0x12B35429, .spop2 21 618 0 1 9),
     (0x12F8B69C, .spop3 23 24 22 2 0 28),
     (0x10875F6A, .spop3 4 7 11 5 1 10),
     (0x31C3913D, .copr 57800 4 1 29),
     (0x339C0DFD, .copr 118278 7 1 29),
     (0x25D0E4C7, .cldwx 14 16 3 1 1 3 0 7),
     (0x259EED02, .cldwx 12 30 3 1 3 4 0 2),
     (0x2F4B08EC, .clddx 26 11 0 0 2 3 1 12),
     (0x2F26A591, .clddx 25 6 2 1 1 6 0 17),
     (0x272D2AB1, .cstwx 25 13 0 1 2 2 1 17),
     (0x24148374, .cstwx 0 20 2 0 0 5 1 20),
     (0x2CF60FEA, .cstdx 7 22 0 0 3 7 1 10),
     (0x2F0E47AA, .cstdx 24 14 1 0 1 6 1 10),
     (0x248F7D56, .cldws 4 15 1 1 3 5 0 22),
     (0x267D1DB5, .cldws 19 29 0 0 3 6 1 21)] = true := by
  decide +kernel

theorem test_decode_assist_2 : decodes
    [(0x2FD198A0, .cldds 30 17 2 0 2 2 1 0),
     (0x2F2375C7, .cldds 25 3 1 1 1 7 0 7),
     (0x258D97E1, .cstws 12 13 2 0 1 7 1 1),
     (0x25E99758, .cstws 15 9 2 0 1 5 0 24),
     (0x2FB9124B, .cstds 29 25 0 0 0 1 0 11),
     (0x2CD23AF0, .cstds 6 18 0 1 2 3 1 16)] = true := by
  decide +kernel

theorem test_decode_float_1 : decodes
    [(0x25C5C438, .fldwx 14 5 3 0 1 0 1 24),
     (0x27A9AC6F, .fldwx 29 9 2 1 3 1 1 15),
     (0x250FCE55, .fstwx 8 15 3 0 3 1 0 21),
     (0x2638C64C, .fstwx 17 24 3 0 1 1 0 12),
     (0x2CDE2C1F, .flddx 6 30 0 1 3 0 31),
     (0x2E19A43F, .flddx 16 25 2 1 1 1 31),
     (0x2EBD222F, .fstdx 21 29 0 1 0 1 15),
     (0x2F8B622D, .fstdx 28 11 1 1 0 1 13),
     (0x27655C08, .fldws 27 5 1 0 3 0 0 8),
     (0x27BBF07F, .fldws 29 27 3 1 0 1 1 31),
     (0x25109265, .fstws 8 16 2 0 0 1 1 5),
     (0x2406FE24, .fstws 0 6 3 1 3 0 1 4),
     (0x2D68B81C, .fldds 11 8 2 1 2 0 28),
     (0x2DF65C32, .fldds 15 22 1 0 3 1 18),
     (0x2F705E0D, .fstds 27 16 1 0 3 0 13),
     (0x2CDD9E2E, .fstds 6 29 2 0 3 1 14),
     (0x30000000, .copr00),
     (0x3020500D, .fcpy 1 2 13),
     (0x32004805, .fcpy 16 1 5),
     (0x3B405809, .fcpy0E 26 3 0 0 9)] = true := by
  decide +kernel

theorem test_decode_float_2 : decodes
    [(0x3980409F, .fcpy0E 12 0 1 0 31),
     (0x32A07002, .fabs 21 2 2),
     (0x31606015, .fabs 11 0 21),
     (0x3860704E, .fabs0E 3 2 0 1 14),
     (0x3AE078C3, .fabs0E 23 3 1 1 3),
     (0x31C0801B, .fsqrt 14 0 27),
     (0x31809016, .fsqrt 12 2 22),
     (0x38E0888E, .fsqrt0E 7 1 1 0 14),
     (0x3B0080DB, .fsqrt0E 24 0 1 1 27),
     (0x32E0A01C, .frnd 23 0 28),
     (0x3260A009, .frnd 19 0 9),
     (0x3980B8C9, .frnd0E 12 3 1 1 9),
     (0x3BC0A891, .frnd0E 30 1 1 0 17),
     (0x30402206, .fcnvff 2 1 0 6),
     (0x3180420A, .fcnvff 12 2 0 10),
     (0x3BC03254, .fcnvff0E 30 1 2 0 1 20),
     (0x39403A03, .fcnvff0E 10 1 3 0 0 3),
     (0x32608215, .fcnvxf 19 0 0 21),
     (0x3280C205, .fcnvxf 20 2 0 5),
     (0x39809A56, .fcnvxf0E 12 0 3 0 1 22)] = true := by
  decide +kernel

theorem test_decode_float_3 : decodes
    [(0x3840821F, .fcnvxf0E 2 0 0 0 0 31),
     (0x31A13A02, .fcnvfx 13 1 3 2),
     (0x31417A0D, .fcnvfx 10 3 3 13),
     (0x3A011244, .fcnvfx0E 16 0 2 0 1 4),
     (0x3B414A1D, .fcnvfx0E 26 2 1 0 0 29),
     (0x3261920C, .fcnvfxt 19 0 2 12),
     (0x3261CA1F, .fcnvfxt 19 2 1 31),
     (0x3B2192D0, .fcnvfxt0E 25 0 2 1 1 16),
     (0x3801AA09, .fcnvfxt0E 0 1 1 0 0 9),
     (0x31C3140C, .fcmp 14 3 2 12),
     (0x30D00C19, .fcmp 6 16 1 25),
     (0x3B431C08, .fcmp0E 26 3 1 1 0 8),
     (0x3B111487, .fcmp0E 24 17 1 0 1 7),
     (0x30002433, .ftest 19),
     (0x30002430, .ftest 16),
     (0x30921606, .fadd 4 18 2 6),
     (0x33FD161F, .fadd 31 29 2 31),
     (0x3ADA16C0, .fadd0E 22 26 1 0 1 1 0),
     (0x3A950E07, .fadd0E 20 21 0 1 0 0 7),
     (0x324D360A, .fsub 18 13 2 10)] = true := by
  decide +kernel

theorem test_decode_float_4 : decodes
    [(0x31423E1B, .fsub 10 2 3 27),
     (0x390E3657, .fsub0E 8 14 1 0 0 1 23),
     (0x38873ED1, .fsub0E 4 7 1 1 1 1 17),
     (0x323D4E05, .fmpy 17 29 1 5),
     (0x33B75E1C, .fmpy 29 23 3 28),
     (0x395346C0, .fmpy0E 10 19 0 0 1 1 0),
     (0x39355652, .fmpy0E 9 21 1 0 0 1 18),
     (0x33456613, .fdiv 26 5 0 19),
     (0x3239660E, .fdiv 17 25 0 14),
     (0x39857EDF, .fdiv0E 12 5 1 1 1 1 31),
     (0x3AA46ED7, .fdiv0E 21 4 0 1 1 1 23),
     (0x39935799, .xmpyu 12 19 1 1 25),
     (0x3B00470D, .xmpyu 24 0 0 0 13),
     (0x18248312, .fmpyadd 1 4 16 12 0 18),
     (0x19855408, .fmpyadd 12 5 10 16 0 8),
     (0x9A5D5079, .fmpysub 18 29 10 1 1 25),
     (0x9837AE4C, .fmpysub 1 23 21 25 0 12)] = true := by
  decide +kernel

theorem test_decode_perfmon_debug_1 : decodes
    [(0x30000280, .pmdis),
     (0x335F8287, .pmdis),
     (0x30000680, .pmenb),
     (0x319F869E, .pmenb),
     (0x10000243, .debugid 3),
     (0x1000024F, .debugid 15),
     (0x11A0225C, .mfdbao 13 28),
     (0x1276A25D, .mfdbao 19 29),
     (0x12402A58, .mfdbam 18 24),
     (0x11B4EA58, .mfdbam 13 24),
     (0x11E0325C, .mfibao 15 28),
     (0x13F6F24E, .mfibao 31 14),
     (0x13803A5B, .mfibam 28 27),
     (0x12DAFA4D, .mfibam 22 13),
     (0x11A02443, .mtdbao 13 3),
     (0x125E6443, .mtdbao 18 3),
     (0x13C02C50, .mtdbam 30 16),
     (0x114B2C50, .mtdbam 10 16),
     (0x11A0344D, .mtibao 13 13),
     (0x1398F440, .mtibao 28 0)] = true := by
  decide +kernel

theorem test_decode_perfmon_debug_2 : decodes
    [(0x13A03C41, .mtibam 29 1),
     (0x113FFC57, .mtibam 9 23)] = true := by
  decide +kernel

/-- Words of no row (the end of spec/96_decode_vectors.md), and the bit 26 that PMDIS has no use for
(spec/95_test_vectors.md V49) decodes to the general row. -/
theorem test_decode_no_row :
    ([0x3C000000, 0xFC000000, 0x1C000000, 0x08000FC0, 0x08000260, 0x00001FE0, 0x04001FC0, 0xE800E000,
      0xD0000400, 0xD0000C00] : List Word).all (fun w => decode w == none) = true := by
  decide +kernel

theorem test_decode_table_word :
    decodeTableWord 32 0x08410603 = some (.add 2 1 0 0 3) ∧ decodeTableWord 32 0 = some (.breakTrap 0 0) := by
  decide +kernel

/-! ### Well-formedness: a general row does not stand for a more specific row's words (R348 to R354) -/

theorem test_wf_float_identify : (Instr.copr 0 0 0 0).wf = false := by decide
theorem test_wf_float_class0 : (Instr.copr 0x00020 0 0 3).wf = false := by decide
theorem test_wf_float_class1 : (Instr.copr 0x00001 0 0 3).wf = false := by decide
theorem test_wf_float_compare : (Instr.copr 0x00002 0 0 3).wf = false := by decide
theorem test_wf_float_test : (Instr.copr 0x00012 0 1 0).wf = false := by decide
theorem test_wf_float_class3 : (Instr.copr 0x00003 0 0 3).wf = false := by decide
theorem test_wf_perfmon : (Instr.copr 0x00001 2 0 0).wf = false := by decide
theorem test_wf_debug1 : (Instr.spop1 0 1 0 6).wf = false ∧ (Instr.spop1 0x0004 1 0 6).wf = false := by decide
theorem test_wf_debug2 : (Instr.spop2 2 0x004 1 0 0).wf = false := by decide
theorem test_wf_float_word_loads : ([0, 1] : List (BitVec 3)).all (fun u =>
    !(Instr.cldwx 1 2 0 0 0 u 0 3).wf && !(Instr.cstwx 1 2 0 0 0 u 0 3).wf &&
    !(Instr.cldws 1 2 0 0 0 u 0 3).wf && !(Instr.cstws 1 2 0 0 0 u 0 3).wf) = true := by decide
theorem test_wf_float_dword_loads :
    (Instr.clddx 1 2 0 0 0 0 0 3).wf = false ∧ (Instr.cstdx 1 2 0 0 0 0 0 3).wf = false ∧
    (Instr.cldds 1 2 0 0 0 0 0 3).wf = false ∧ (Instr.cstds 1 2 0 0 0 0 0 3).wf = false := by decide

/-! ### One step of each instruction -/

/-- The bytes at 0x2000 in the tables of spec/95_test_vectors.md. -/
def image : Memory :=
  [(0x2000, 0x11), (0x2001, 0x22), (0x2002, 0x33), (0x2003, 0x44), (0x2004, 0x55), (0x2005, 0x66),
   (0x2006, 0x77), (0x2007, 0x88), (0x2008, 0x99), (0x2009, 0xAA), (0x200A, 0xBB), (0x200B, 0xCC),
   (0x200C, 0xDD), (0x200D, 0xEE), (0x200E, 0xFF)]

/-- The common start state of spec/95_test_vectors.md, with general registers. -/
def start (regs : List (Nat × Nat)) : State :=
  regs.foldl (fun s p => s.setGr (BitVec.ofNat 5 p.1) (BitVec.ofNat 32 p.2))
    { State.reset with
      psw := 8, iva := 0x10000, iaoqFront := 0x1000, iaoqBack := 0x1004, mem := image }

/-- The state after one step that runs the word. -/
def after (w : Nat) (s : State) : Option State :=
  match step (s.withFetchWord 32 w) with
  | .next t => some t
  | _ => none

/-- A general register, the PSW and the offset queue after the step. -/
def seen (r : Reg) (w : Nat) (s : State) : Option (Word × Word × Word × Word) :=
  (after w s).map fun t => (t.gr r, t.psw, t.iaoqFront, t.iaoqBack)

/-- GR 4 and the words at 0x2000, 0x2004 and 0x2008 after the step. -/
def stored (w : Nat) (s : State) : Option (Word × Word × Word × Word) :=
  (after w s).map fun t =>
    (t.gr 4, t.mem.word false 0x2000, t.mem.word false 0x2004, t.mem.word false 0x2008)

/-- The instruction takes interruption `n`: the handler's address. -/
def traps (n w : Nat) (s : State) : Bool :=
  match after w s with
  | some t => t.iaoqFront == 0x10000#32 + BitVec.ofNat 32 (32 * n)
  | none => false

/-! Rows of spec/95_test_vectors.md, tables V40 to V45 and V60. -/

theorem test_ldw :
    seen 6 0x48860008 (start [(4, 0x2000)]) = some (0x55667788, 0x8, 0x1004, 0x1008) := by
  decide +kernel

theorem test_ldh :
    seen 6 0x4486000C (start [(4, 0x2000), (6, 0xFFFFFFFF)]) = some (0x7788, 0x8, 0x1004, 0x1008) := by
  decide +kernel

theorem test_ldb :
    seen 6 0x40860016 (start [(4, 0x2000), (6, 0xFFFFFFFF)]) = some (0xCC, 0x8, 0x1004, 0x1008) := by
  decide +kernel

theorem test_stw :
    stored 0x68860010 (start [(4, 0x2000), (6, 0xCAFEF00D)]) = some (0x2000, 0x11223344, 0x55667788, 0xCAFEF00D) := by
  decide +kernel

theorem test_sth :
    stored 0x64860004 (start [(4, 0x2000), (6, 0xCAFEF00D)]) = some (0x2000, 0x1122F00D, 0x55667788, 0x99AABBCC) := by
  decide +kernel

theorem test_stb :
    stored 0x60860006 (start [(4, 0x2000), (6, 0xCAFEF00D)]) = some (0x2000, 0x1122330D, 0x55667788, 0x99AABBCC) := by
  decide +kernel

theorem test_ldwm :
    seen 6 0x4C860010 (start [(4, 0x2000)]) = some (0x11223344, 0x8, 0x1004, 0x1008) := by
  decide +kernel

theorem test_stwm :
    stored 0x6C863FF9 (start [(4, 0x2008), (6, 0xCAFEF00D)]) = some (0x2004, 0x11223344, 0xCAFEF00D, 0x99AABBCC) := by
  decide +kernel

theorem test_ldwx :
    seen 6 0x0C8500A6 (start [(4, 0x2000), (5, 0xC)]) = some (0x11223344, 0x8, 0x1004, 0x1008) := by
  decide +kernel

theorem test_ldhx :
    seen 6 0x0C852046 (start [(4, 0x2000), (5, 0x5)]) = some (0xBBCC, 0x8, 0x1004, 0x1008) := by
  decide +kernel

theorem test_ldbx :
    seen 6 0x0C852006 (start [(4, 0x2000), (5, 0x5)]) = some (0x66, 0x8, 0x1004, 0x1008) := by
  decide +kernel

theorem test_ldws :
    seen 6 0x0C8810A6 (start [(4, 0x2000)]) = some (0x11223344, 0x8, 0x1004, 0x1008) := by
  decide +kernel

theorem test_ldhs :
    seen 6 0x0C841066 (start [(4, 0x200A)]) = some (0xBBCC, 0x8, 0x1004, 0x1008) := by
  decide +kernel

theorem test_ldbs :
    seen 6 0x0C821026 (start [(4, 0x200E)]) = some (0xFF, 0x8, 0x1004, 0x1008) := by
  decide +kernel

theorem test_ldcws :
    stored 0x0C8011C6 (start [(4, 0x2000)]) = some (0x2000, 0x0, 0x55667788, 0x99AABBCC) := by
  decide +kernel

theorem test_ldcwx :
    stored 0x0C8521C6 (start [(4, 0x1FF0), (5, 0x2)]) = some (0x1FF0, 0x0, 0x55667788, 0x99AABBCC) := by
  decide +kernel

theorem test_ldwas :
    seen 6 0x0C881186 (start [(4, 0x2000)]) = some (0x55667788, 0x8, 0x1004, 0x1008) := by
  decide +kernel

theorem test_ldwax :
    seen 6 0x0C852186 (start [(4, 0x2000), (5, 0x1)]) = some (0x55667788, 0x8, 0x1004, 0x1008) := by
  decide +kernel

theorem test_stws :
    stored 0x0C8612A8 (start [(4, 0x2000), (6, 0xCAFEF00D)]) = some (0x2004, 0xCAFEF00D, 0x55667788, 0x99AABBCC) := by
  decide +kernel

theorem test_stbs :
    stored 0x0C861222 (start [(4, 0x2005), (6, 0xCAFEF00D)]) = some (0x2006, 0x11223344, 0x550D7788, 0x99AABBCC) := by
  decide +kernel

theorem test_stwas :
    stored 0x0C861380 (start [(4, 0x2000), (6, 0xCAFEF00D)]) = some (0x2000, 0xCAFEF00D, 0x55667788, 0x99AABBCC) := by
  decide +kernel

theorem test_stbys :
    stored 0x0C861328 (start [(4, 0x2001), (6, 0xA1B2C3D4)]) = some (0x2004, 0x11B2C3D4, 0x55667788, 0x99AABBCC) := by
  decide +kernel

theorem test_ldo :
    seen 6 0x34A60002 { start [(5, 0x1)] with psw := 0x9#32, eirr := 0x80000000#32, eiem := 0x80000000#32 } = some (0x0, 0x0, 0x10080, 0x10084) := by
  decide +kernel

theorem test_ldil :
    seen 6 0x20CDFBD5 (start []) = some (0xDEADB800, 0x8, 0x1004, 0x1008) := by
  decide +kernel

theorem test_addil :
    seen 1 0x2B691000 (start [(1, 0x77), (27, 0x40000000)]) = some (0x40012800, 0x8, 0x1004, 0x1008) := by
  decide +kernel

theorem test_bl :
    seen 2 0xE85F1FEF (start []) = some (0x1008, 0x280008, 0x1004, 0xFFC) := by
  decide +kernel

theorem test_gate :
    seen 2 0xE8402020 { start [(2, 0x12345678)] with iaoqFront := 0x1003#32, iaoqBack := 0x1007#32 } = some (0x1234567B, 0x80008, 0x1007, 0x1018) := by
  decide +kernel

theorem test_blr :
    seen 2 0xE8404002 (start []) = some (0x1008, 0x280008, 0x1004, 0x1008) := by
  decide +kernel

theorem test_bv :
    seen 6 0xE880C002 { start [(4, 0x4002)] with iaoqFront := 0x1001#32, iaoqBack := 0x1005#32 } = some (0x0, 0x280008, 0x1005, 0x4002) := by
  decide +kernel

theorem test_combt :
    seen 6 0x80C54022 (start [(5, 0xFFFFFFFF), (6, 0x1)]) = some (0x1, 0x280008, 0x1004, 0x1018) := by
  decide +kernel

theorem test_combf :
    seen 6 0x88C56020 (start [(5, 0x7FFFFFFF), (6, 0x80000000)]) = some (0x80000000, 0x80008, 0x1004, 0x1018) := by
  decide +kernel

theorem test_comibt :
    seen 6 0x84C12020 (start [(6, 0xFFFFFFF0)]) = some (0xFFFFFFF0, 0x80008, 0x1004, 0x1018) := by
  decide +kernel

theorem test_comibf :
    seen 6 0x8CDEA020 (start [(6, 0xE)]) = some (0xE, 0x80008, 0x1004, 0x1018) := by
  decide +kernel

theorem test_addbt :
    seen 6 0xA0C53FF5 { start [(5, 0xFFFFFFFF), (6, 0x1)] with psw := 0x5A08#32 } = some (0x0, 0x85A08, 0x1004, 0x1000) := by
  decide +kernel

theorem test_addbf :
    seen 6 0xA8C5C012 (start [(5, 0x7FFFFFFF), (6, 0x1)]) = some (0x80000000, 0x8, 0x1004, 0x1008) := by
  decide +kernel

theorem test_addibt :
    seen 6 0xA4DF5FF7 (start []) = some (0xFFFFFFFF, 0x80008, 0x1004, 0x1000) := by
  decide +kernel

theorem test_addibf :
    seen 6 0xACC22010 (start [(6, 0xFFFFFFFF)]) = some (0x0, 0x8, 0x1004, 0x1008) := by
  decide +kernel

theorem test_movb :
    seen 6 0xC8C57FF7 (start [(5, 0x2)]) = some (0x2, 0x200008, 0x1004, 0x1008) := by
  decide +kernel

theorem test_movib :
    seen 6 0xCCCCE010 (start []) = some (0x6, 0x80008, 0x1004, 0x1010) := by
  decide +kernel

theorem test_bb :
    seen 6 0xC6054012 (start [(5, 0x8000)]) = some (0x0, 0x280008, 0x1004, 0x1010) := by
  decide +kernel

theorem test_bvb :
    seen 6 0xC0054010 { start [(5, 0x100)] with sar := 23#5 } = some (0x0, 0x80008, 0x1004, 0x1010) := by
  decide +kernel

theorem test_add :
    seen 6 0x08858606 (start [(5, 0xFFFFFFFF)]) = some (0xFFFFFFFF, 0x200008, 0x1004, 0x1008) := by
  decide +kernel

theorem test_addl :
    seen 6 0x08859A06 (start [(4, 0x1), (5, 0xFFFFFFFF)]) = some (0x0, 0x200008, 0x1004, 0x1008) := by
  decide +kernel

theorem test_addo :
    seen 6 0x08850E06 { start [(4, 0x1), (5, 0x7FFFFFFF), (6, 0x66)] with psw := 0x1208#32 } = some (0x66, 0x0, 0x10180, 0x10184) := by
  decide +kernel

theorem test_addc :
    seen 6 0x08850706 { start [(5, 0xFFFFFFFF)] with psw := 0x8008#32 } = some (0x0, 0xFF08, 0x1004, 0x1008) := by
  decide +kernel

theorem test_addco :
    seen 6 0x08850F06 { start [(5, 0x7FFFFFFF), (6, 0x66)] with psw := 0x8008#32 } = some (0x66, 0x0, 0x10180, 0x10184) := by
  decide +kernel

theorem test_sh1add :
    seen 6 0x08852646 (start [(4, 0xFFFFFFFA), (5, 0x3), (6, 0x66)]) = some (0x0, 0x20FF08, 0x1004, 0x1008) := by
  decide +kernel

theorem test_sh2add :
    seen 6 0x08850686 (start [(4, 0x1000), (5, 0x3)]) = some (0x100C, 0x8, 0x1004, 0x1008) := by
  decide +kernel

theorem test_sh3add :
    seen 6 0x088506C6 (start [(4, 0x8), (5, 0x1FFFFFFF)]) = some (0x0, 0xFF08, 0x1004, 0x1008) := by
  decide +kernel

theorem test_sh3addl :
    seen 6 0x08850AC6 { start [(4, 0xFFFFFFF8), (5, 0x20000001)] with psw := 0x3308#32 } = some (0x0, 0x3308, 0x1004, 0x1008) := by
  decide +kernel

theorem test_sh1addo :
    seen 6 0x08850E46 (start [(5, 0x40000000), (6, 0x66)]) = some (0x66, 0x0, 0x10180, 0x10184) := by
  decide +kernel

theorem test_sh2addo :
    seen 6 0x08850E86 (start [(5, 0xDFFFFFFF), (6, 0x66)]) = some (0x66, 0x0, 0x10180, 0x10184) := by
  decide +kernel

theorem test_sub :
    seen 6 0x08858406 (start [(4, 0x6), (5, 0x5)]) = some (0xFFFFFFFF, 0x200008, 0x1004, 0x1008) := by
  decide +kernel

theorem test_subo :
    seen 6 0x08850C06 (start [(4, 0x1), (5, 0x80000000), (6, 0x66)]) = some (0x66, 0x0, 0x10180, 0x10184) := by
  decide +kernel

theorem test_subb :
    seen 6 0x08850506 { start [] with psw := 0x8008#32 } = some (0x0, 0xFF08, 0x1004, 0x1008) := by
  decide +kernel

theorem test_subbo :
    seen 6 0x08850D06 (start [(5, 0x80000000), (6, 0x66)]) = some (0x66, 0x0, 0x10180, 0x10184) := by
  decide +kernel

theorem test_subt :
    seen 6 0x088524C6 { start [(4, 0x9), (5, 0x9), (6, 0x66)] with psw := 0x1208#32 } = some (0x66, 0x0, 0x101A0, 0x101A4) := by
  decide +kernel

theorem test_subto :
    seen 6 0x08853CC6 (start [(4, 0x1), (5, 0x80000000), (6, 0x66)]) = some (0x66, 0x0, 0x10180, 0x10184) := by
  decide +kernel

theorem test_ds :
    seen 6 0x08850446 { start [(4, 0x7), (5, 0x3)] with psw := 0x8008#32 } = some (0xE, 0x8, 0x1004, 0x1008) := by
  decide +kernel

theorem test_comclr :
    seen 6 0x08852886 { start [(4, 0x4), (5, 0x4), (6, 0x66)] with psw := 0x1208#32 } = some (0x0, 0x201208, 0x1004, 0x1008) := by
  decide +kernel

theorem test_or :
    seen 6 0x08000260 (start []) = some (0x0, 0x0, 0x10100, 0x10104) := by
  decide +kernel

theorem test_xor :
    seen 6 0x0885E286 (start [(4, 0xFE), (5, 0xFF)]) = some (0x1, 0x200008, 0x1004, 0x1008) := by
  decide +kernel

theorem test_and :
    seen 6 0x08854206 (start [(4, 0xC0000000), (5, 0x80000001)]) = some (0x80000000, 0x200008, 0x1004, 0x1008) := by
  decide +kernel

theorem test_andcm :
    seen 6 0x08856006 (start [(4, 0xFFFFFFFF), (5, 0xF0F0F0F)]) = some (0x0, 0x200008, 0x1004, 0x1008) := by
  decide +kernel

theorem test_uxor :
    seen 6 0x08854386 (start [(4, 0x61624364), (5, 0x41424344)]) = some (0x20200020, 0x200008, 0x1004, 0x1008) := by
  decide +kernel

theorem test_uaddcm :
    seen 6 0x0885C986 (start [(4, 0xFF), (5, 0x100)]) = some (0x0, 0x200008, 0x1004, 0x1008) := by
  decide +kernel

theorem test_uaddcmt :
    seen 6 0x088589C6 (start [(4, 0x99999999), (5, 0xA), (6, 0x66)]) = some (0x66, 0x0, 0x101A0, 0x101A4) := by
  decide +kernel

theorem test_dcor :
    seen 6 0x08A00B86 (start [(5, 0x6666D678)]) = some (0x7012, 0x8, 0x1004, 0x1008) := by
  decide +kernel

theorem test_idcor :
    seen 6 0x08A08BC6 { start [(5, 0xA)] with psw := 0x108#32 } = some (0x10, 0x200108, 0x1004, 0x1008) := by
  decide +kernel

theorem test_addi :
    seen 6 0xB4A627FF (start [(5, 0x1)]) = some (0x0, 0x20FF08, 0x1004, 0x1008) := by
  decide +kernel

theorem test_addio :
    seen 6 0xB4A60802 (start [(5, 0x7FFFFFFF), (6, 0x66)]) = some (0x66, 0x0, 0x10180, 0x10184) := by
  decide +kernel

theorem test_addit :
    seen 6 0xB0A627F3 (start [(5, 0x7), (6, 0x66)]) = some (0x66, 0x0, 0x101A0, 0x101A4) := by
  decide +kernel

theorem test_addito :
    seen 6 0xB0A64802 (start [(5, 0x7FFFFFFF), (6, 0x66)]) = some (0x66, 0x0, 0x10180, 0x10184) := by
  decide +kernel

theorem test_subi :
    seen 6 0x94A68000 (start [(5, 0x1)]) = some (0xFFFFFFFF, 0x200008, 0x1004, 0x1008) := by
  decide +kernel

theorem test_subio :
    seen 6 0x94A60801 (start [(5, 0x7FFFFFFF), (6, 0x66)]) = some (0x66, 0x0, 0x10180, 0x10184) := by
  decide +kernel

theorem test_comiclr :
    seen 6 0x90A6200A { start [(5, 0x5), (6, 0x66)] with psw := 0x1208#32 } = some (0x0, 0x201208, 0x1004, 0x1008) := by
  decide +kernel

theorem test_vshd :
    seen 6 0xD0850006 { start [(4, 0x9ABCDEF0), (5, 0x12345678)] with sar := 27#5 } = some (0x468ACF13, 0x8, 0x1004, 0x1008) := by
  decide +kernel

theorem test_shd :
    seen 6 0xD0852806 (start [(4, 0x40000000)]) = some (0x0, 0x200008, 0x1004, 0x1008) := by
  decide +kernel

theorem test_extru :
    seen 6 0xD0A6781F (start [(5, 0x80000000)]) = some (0x1, 0x200008, 0x1004, 0x1008) := by
  decide +kernel

theorem test_extrs :
    seen 6 0xD0A65DF0 (start [(5, 0x8000FFFF)]) = some (0xFFFF8000, 0x200008, 0x1004, 0x1008) := by
  decide +kernel

theorem test_vextru :
    seen 6 0xD0A61018 { start [(5, 0x12345678)] with sar := 15#5 } = some (0x34, 0x8, 0x1004, 0x1008) := by
  decide +kernel

theorem test_vextrs :
    seen 6 0xD0A61418 { start [(5, 0xF2345678)] with sar := 3#5 } = some (0xFFFFFFFF, 0x8, 0x1004, 0x1008) := by
  decide +kernel

theorem test_dep :
    seen 6 0xD4C02C00 (start [(6, 0x11111111)]) = some (0x0, 0x200008, 0x1004, 0x1008) := by
  decide +kernel

theorem test_zdep :
    seen 6 0xD4C50A18 (start [(5, 0xABCDEF12), (6, 0x11111111)]) = some (0x120000, 0x8, 0x1004, 0x1008) := by
  decide +kernel

theorem test_depi :
    seen 6 0xD4DF1F1C (start [(6, 0x11111111)]) = some (0x1F111111, 0x8, 0x1004, 0x1008) := by
  decide +kernel

theorem test_zdepi :
    seen 6 0xD4C11800 (start [(6, 0x11111111)]) = some (0xFFFFFFF0, 0x8, 0x1004, 0x1008) := by
  decide +kernel

theorem test_vdep :
    seen 6 0xD4C50418 { start [(5, 0xABCDEF12), (6, 0x11111111)] with sar := 19#5 } = some (0x11112111, 0x8, 0x1004, 0x1008) := by
  decide +kernel

theorem test_zvdep :
    seen 6 0xD4C50000 { start [(5, 0xABCDEF12), (6, 0x11111111)] with sar := 23#5 } = some (0xCDEF1200, 0x8, 0x1004, 0x1008) := by
  decide +kernel

theorem test_vdepi :
    seen 6 0xD4DF141C { start [] with sar := 31#5 } = some (0xF, 0x8, 0x1004, 0x1008) := by
  decide +kernel

theorem test_zvdepi :
    seen 6 0xD4D2101C { start [(6, 0xFFFFFFFF)] with sar := 7#5 } = some (0x9000000, 0x8, 0x1004, 0x1008) := by
  decide +kernel

theorem test_break :
    seen 6 0x03578003 (start [(1, 0x111), (8, 0x888)]) = some (0x0, 0x0, 0x10120, 0x10124) := by
  decide +kernel

theorem test_mtsp :
    (after 0x0005D820 { start [(5, 0xABCD)] with iaoqFront := 0x1003#32, iaoqBack := 0x1007#32 }).map (fun t => t.sr 3) = some 0xABCD := by
  decide +kernel

theorem test_mfsp :
    seen 6 0x0000A4A6 { start [] with iaoqFront := 0x1003#32, iaoqBack := 0x1007#32, srs := #v[0x0#32, 0x0#32, 0x0#32, 0x0#32, 0x0#32, 0x0#32, 0x4321#32, 0x0#32] } = some (0x4321, 0x8, 0x1007, 0x100B) := by
  decide +kernel

theorem test_ldsid :
    seen 6 0x00A010A6 { start [(5, 0x80000000)] with iaoqFront := 0x1003#32, iaoqBack := 0x1007#32, srs := #v[0x0#32, 0x0#32, 0x0#32, 0x0#32, 0x4#32, 0x5#32, 0x6#32, 0x7#32] } = some (0x6, 0x8, 0x1007, 0x100B) := by
  decide +kernel

theorem test_mtctl :
    (after 0x01651840 { start [(5, 0xFFFFFFE7)] with iaoqFront := 0x1003#32, iaoqBack := 0x1007#32 }).map (fun t => t.cr 11) = some 0x7 := by
  decide +kernel

theorem test_mfctl :
    seen 6 0x024008A6 { start [] with psw := 0x0#32, iiaoqFront := 0x5000#32, iiaoqBack := 0x5004#32 } = some (0x5000, 0x0, 0x1004, 0x1008) := by
  decide +kernel

theorem test_mfctl_2 :
    seen 6 0x020008A6 { start [] with itmr := 0x12345678, iaoqFront := 0x1003, iaoqBack := 0x1007 } =
      some (0x12345678, 8, 0x1007, 0x100B) := by
  decide +kernel

theorem test_rfi :
    seen 6 0x00000C00 { start [] with psw := 0x0#32, ipsw := 0x4000F#32, iiaoqFront := 0x7003#32, iiaoqBack := 0x8003#32 } = some (0x0, 0x4000F, 0x7003, 0x8003) := by
  decide +kernel

theorem test_rfir :
    seen 25 0x00000CA0 { start [] with psw := 0x0#32, ipsw := 0x200008#32, iiaoqFront := 0x7000#32, iiaoqBack := 0x7004#32, shr := #v[0x1#32, 0x8#32, 0x9#32, 0x10#32, 0x11#32, 0x18#32, 0x19#32] } = some (0x19, 0x200008, 0x7000, 0x7004) := by
  decide +kernel

theorem test_sync :
    seen 6 0x00000400 (start []) = some (0x0, 0x8, 0x1004, 0x1008) := by
  decide +kernel

theorem test_syncdma :
    seen 6 0x00100400 (start []) = some (0x0, 0x8, 0x1004, 0x1008) := by
  decide +kernel

theorem test_diag :
    seen 6 0x14000123 (start []) = some (0x0, 0x8, 0x1004, 0x1008) := by
  decide +kernel

/-! Worked out from the rules, or rows of the tables V42, V45 to V49. -/

theorem test_sh1addl :
    seen 6 0x08850A46 (start [(4, 0x10), (5, 3)]) = some (0x16, 8, 0x1004, 0x1008) := by
  decide +kernel

theorem test_sh2addl :
    seen 6 0x08850A86 (start [(4, 0x10), (5, 3)]) = some (0x1C, 8, 0x1004, 0x1008) := by
  decide +kernel

theorem test_sh3addo :
    seen 6 0x08850EC6 (start [(5, 0x10000000), (6, 0x66)]) = some (0x66, 0, 0x10180, 0x10184) := by
  decide +kernel

theorem test_sths :
    stored 0x0C861244 (start [(4, 0x2000), (6, 0xCAFEF00D)]) = some (0x2000, 0x1122F00D, 0x55667788, 0x99AABBCC) := by
  decide +kernel

theorem test_be :
    seen 0 0xE0806020 (start [(4, 0x4000)]) = some (0, 0x80008, 0x1004, 0x4010) := by
  decide +kernel

theorem test_ble :
    seen 31 0xE4806020 (start [(4, 0x4001)]) = some (0x1008, 0x80008, 0x1004, 0x4011) := by
  decide +kernel

theorem test_ssm :
    seen 6 0x00010D66 (start []) = some (8, 9, 0x1004, 0x1008) := by
  decide +kernel

theorem test_rsm :
    seen 6 0x000F0E66 { start [] with psw := 0xB } = some (0xB, 0, 0x1004, 0x1008) := by
  decide +kernel

theorem test_rsm_2 :
    seen 6 0x000F0E66 { start [] with psw := 0x4F } = some (0x4F, 0x40, 0x1004, 0x1008) := by
  decide +kernel

theorem test_mtsm :
    seen 6 0x00051860 { start [(5, 0xFFFFFF03)] with psw := 0xFF08 } = some (0, 0xFF03, 0x1004, 0x1008) := by
  decide +kernel

/-- A data TLB whose first slot maps page 2 of space 0 to page 5. -/
def page (rights : BitVec 7) (e d b t : Bool) (id : BitVec 18) : TlbEntry :=
  ⟨0, 2, 5, rights, id, e, false, t, d, b⟩

/-- The start state with virtual data and instruction addresses and one page in each TLB. -/
def paged (regs : List (Nat × Nat)) (p : TlbEntry) : State :=
  { start regs with dtlb := some p :: List.replicate 63 none, itlb := some p :: List.replicate 63 none }

/-- Read and write at every privilege level (R209). -/
def open7 : BitVec 7 := 0x1F

theorem test_prober :
    seen 6 0x04851186 (paged [(4, 0x2000)] (page 0x1F true true false false 0)) = some (1, 8, 0x1004, 0x1008) := by
  decide +kernel

theorem test_proberi :
    seen 6 0x04833186 (paged [(4, 0x2000)] (page 0x00 true true false false 0)) = some (0, 8, 0x1004, 0x1008) := by
  decide +kernel

theorem test_probew :
    seen 6 0x048511C6 (paged [(4, 0x2000)] (page 0x0C true true false false 0)) = some (0, 8, 0x1004, 0x1008) := by
  decide +kernel

theorem test_probewi :
    seen 6 0x048331C6 (paged [(4, 0x2000)] (page 0x1F true true false false 0)) = some (1, 8, 0x1004, 0x1008) := by
  decide +kernel

theorem test_lpa :
    seen 6 0x04851346 (paged [(4, 0x2000), (5, 0x34)] (page 0x1F true true false false 0)) = some (0x5034, 8, 0x1004, 0x1008) := by
  decide +kernel

theorem test_lci :
    traps 8 0x04851306 (start []) = true := by
  decide +kernel

theorem test_idtlba :
    (after 0x04851040 (paged [(4, 0x2000), (5, 0xE0)] (page 0x1F true true false false 0))).map (fun t => (tlbValid t.cfg t.dtlb 0 2).map fun e => (e.ppn, e.accessRights, e.d)) = some none := by
  decide +kernel

theorem test_idtlbp :
    (after 0x04851000 (paged [(4, 0x2000), (5, 0x11F00000)] (page 0 false false false false 0))).map (fun t => (tlbValid t.cfg t.dtlb 0 2).map fun e => (e.ppn, e.accessRights, e.d)) = some (some (5, 0x1F, true)) := by
  decide +kernel

theorem test_iitlba :
    (after 0x04850040 (paged [(4, 0x2000), (5, 0xE0)] (page 0x1F true true false false 0))).map (fun t => (tlbValid t.cfg t.itlb 0 2).map fun e => (e.ppn, e.accessRights, e.d)) = some none := by
  decide +kernel

theorem test_iitlbp :
    (after 0x04850000 (paged [(4, 0x2000), (5, 0x02000000)] (page 0 false false false false 0))).map (fun t => (tlbValid t.cfg t.itlb 0 2).map fun e => (e.ppn, e.accessRights, e.d)) = some (some (5, 0x20, false)) := by
  decide +kernel

theorem test_pdtlb :
    (after 0x04851220 (paged [(4, 0x2000), (5, 8)] (page 0x1F true true false false 0))).map (fun t => (tlbValid t.cfg t.dtlb 0 2).map fun e => (e.ppn, e.accessRights, e.d)) = some none := by
  decide +kernel

theorem test_pitlb :
    (after 0x04850220 (paged [(4, 0x2000), (5, 8)] (page 0x1F true true false false 0))).map (fun t => (tlbValid t.cfg t.itlb 0 2).map fun e => (e.ppn, e.accessRights, e.d)) = some none := by
  decide +kernel

theorem test_pdtlbe :
    seen 4 0x04851260 (start [(4, 0x2000), (5, 8)]) = some (0x2008, 8, 0x1004, 0x1008) := by
  decide +kernel

theorem test_pitlbe :
    seen 4 0x04850260 (start [(4, 0x2000), (5, 8)]) = some (0x2008, 8, 0x1004, 0x1008) := by
  decide +kernel

theorem test_pdc :
    seen 4 0x048513A0 (start [(4, 0x2000), (5, 8)]) = some (0x2008, 8, 0x1004, 0x1008) := by
  decide +kernel

theorem test_fdc :
    seen 4 0x048512A0 (start [(4, 0x2000), (5, 8)]) = some (0x2008, 8, 0x1004, 0x1008) := by
  decide +kernel

theorem test_fdce :
    seen 4 0x048512E0 (start [(4, 0x2000), (5, 8)]) = some (0x2008, 8, 0x1004, 0x1008) := by
  decide +kernel

theorem test_fic :
    seen 4 0x048502A0 (start [(4, 0x2000), (5, 8)]) = some (0x2008, 8, 0x1004, 0x1008) := by
  decide +kernel

theorem test_fice :
    seen 4 0x048502E0 (start [(4, 0x2000), (5, 8)]) = some (0x2008, 8, 0x1004, 0x1008) := by
  decide +kernel

/-! Assist units. -/

theorem test_spop0 :
    traps 22 0x100000C0 (start []) = true := by
  decide +kernel

theorem test_spop1 :
    traps 22 0x100002C6 (start []) = true := by
  decide +kernel

theorem test_spop2 :
    traps 22 0x10A004C0 (start []) = true := by
  decide +kernel

theorem test_spop3 :
    traps 22 0x108506C0 (start []) = true := by
  decide +kernel

theorem test_copr :
    traps 22 0x30000100 { start [] with ccr := 0xC0 } = true := by
  decide +kernel

theorem test_coprocessor_references_disabled :
    ([0x24800100, 0x2C800100, 0x24800300, 0x2C800300, 0x24801100, 0x2C801100, 0x24801300, 0x2C801300] : List Nat).all (fun w => traps 22 w (start [(4, 0x2000)])) = true := by
  decide +kernel

/-! Floating point. -/

/-- The start state with the coprocessor enabled, FPRs 4 and 5, and GR 4 = 0x2000, GR 5 = 1. -/
def fpStart (status : Word) (a b : Dword) : State :=
  { start [(4, 0x2000), (5, 1)] with
    ccr := 0xC0
    fprs := (((Vector.replicate 32 0).set 0 (status ++ 0#32 : BitVec 64)).set 4 a).set 5 b }

/-- FPR 6 and the Status Register after the step. -/
def fpSeen (w : Nat) (s : State) : Option (Dword × Word) :=
  (after w s).map fun t => (readReg t.fprs 6, t.fpsr)

theorem test_fadd :
    fpSeen 0x30850606 (fpStart 0x400 0x3F80000000000000 0x3380000000000000) = some (0x3F80000100000000, 0x08000400) := by
  decide +kernel

theorem test_fadd_2 :
    fpSeen 0x30850606 (fpStart 4 0x7F7FFFFF00000000 0x7F7FFFFF00000000) = some (0x1FFFFFFF00000000, 0x44) := by
  decide +kernel

theorem test_fsub :
    fpSeen 0x30852606 (fpStart 0 0x0080000000000000 0x0080000100000000) = some (0x8000000100000000, 0) := by
  decide +kernel

theorem test_fmpy :
    fpSeen 0x30854606 (fpStart 0 0x0080000100000000 0x3F00000000000000) = some (0x0040000000000000, 0x18000000) := by
  decide +kernel

theorem test_fdiv :
    fpSeen 0x30856606 (fpStart 0 0x3F80000000000000 0x4040000000000000) = some (0x3EAAAAAB00000000, 0x8000000) := by
  decide +kernel

theorem test_fcpy :
    fpSeen 0x30804006 (fpStart 0 0xFFA0000000000000 0) = some (0xFFA0000000000000, 0) := by
  decide +kernel

theorem test_fabs :
    fpSeen 0x30806806 (fpStart 0 0x8000000000000000 0) = some (0, 0) := by
  decide +kernel

theorem test_fsqrt :
    fpSeen 0x30808006 (fpStart 0x400 0x4000000000000000 0) = some (0x3FB504F400000000, 0x08000400) := by
  decide +kernel

theorem test_frnd :
    fpSeen 0x3080A006 (fpStart 0x600 0xBF00000000000000 0) = some (0xBF80000000000000, 0x08000600) := by
  decide +kernel

theorem test_fcnvff :
    fpSeen 0x30800A06 (fpStart 0 0x3690000000000000 0) = some (0, 0x18000000) := by
  decide +kernel

theorem test_fcnvxf :
    fpSeen 0x3080A206 (fpStart 0 0x8000000000000000 0) = some (0xC1E0000000000000, 0) := by
  decide +kernel

theorem test_fcnvfx :
    fpSeen 0x30810206 (fpStart 0x600 0xC020000000000000 0) = some (0xFFFFFFFD00000000, 0x08000600) := by
  decide +kernel

theorem test_fcnvfxt :
    fpSeen 0x30818206 (fpStart 0x400 0xC060000000000000 0) = some (0xFFFFFFFD00000000, 0x08000400) := by
  decide +kernel

theorem test_fcmp :
    fpSeen 0x30850409 (fpStart 0 0x3F80000000000000 0x4000000000000000) = some (0, 0x04000000) := by
  decide +kernel

theorem test_fcmp_2 :
    fpSeen 0x30850405 (fpStart 0 0x7FA0000000000000 0x3F80000000000000) = some (0, 0x80000000) := by
  decide +kernel

/-! Opcode 0E: the right halves. -/

theorem test_fadd0e :
    fpSeen 0x388516C6 (fpStart 0 0x3F800000 0x3F800000) = some (0x40000000, 0) := by
  decide +kernel

theorem test_fsub0e :
    fpSeen 0x388536C6 (fpStart 0 0x40400000 0x3F800000) = some (0x40000000, 0) := by
  decide +kernel

theorem test_fmpy0e :
    fpSeen 0x388556C6 (fpStart 0 0x40000000 0x40400000) = some (0x40C00000, 0) := by
  decide +kernel

theorem test_fdiv0e :
    fpSeen 0x388576C6 (fpStart 0 0x40C00000 0x40000000) = some (0x40400000, 0) := by
  decide +kernel

theorem test_fcmp0e :
    fpSeen 0x38851489 (fpStart 0 0x3F800000 0x40000000) = some (0, 0x04000000) := by
  decide +kernel

theorem test_fcpy0e :
    fpSeen 0x388040C6 (fpStart 0 0xFFA00000 0) = some (0xFFA00000, 0) := by
  decide +kernel

theorem test_fabs0e :
    fpSeen 0x388060C6 (fpStart 0 0xFFA00000 0) = some (0x7FA00000, 0) := by
  decide +kernel

theorem test_fsqrt0e :
    fpSeen 0x388080C6 (fpStart 0 0x40800000 0) = some (0x40000000, 0) := by
  decide +kernel

theorem test_frnd0e :
    fpSeen 0x3880A0C6 (fpStart 0 0x3FC00000 0) = some (0x40000000, 0x8000000) := by
  decide +kernel

theorem test_fcnvff0e :
    fpSeen 0x38802286 (fpStart 0 0x3FC00000 0) = some (0x3FF8000000000000, 0) := by
  decide +kernel

theorem test_fcnvxf0e :
    fpSeen 0x388082C6 (fpStart 0 0xFFFFFFFF 0) = some (0xBF800000, 0) := by
  decide +kernel

theorem test_fcnvfx0e :
    fpSeen 0x388102C6 (fpStart 0 0x40600000 0) = some (4, 0x8000000) := by
  decide +kernel

theorem test_fcnvfxt0e :
    fpSeen 0x388182C6 (fpStart 0 0x40600000 0) = some (3, 0x8000000) := by
  decide +kernel

theorem test_xmpyu :
    fpSeen 0x38855706 (fpStart 0 0xFFFFFFFF00000001 0x00000001FFFFFFFF) = some (0xFFFFFFFE00000001, 0) := by
  decide +kernel

theorem test_ftest :
    seen 0 0x30002420 (fpStart 0x04000000 0 0) = some (0, 0x200008, 0x1004, 0x1008) := by
  decide +kernel

theorem test_copr00 :
    (after 0x30000000 (fpStart 0 0 0)).map (fun t => t.fpIdentifyValid) = some true := by
  decide +kernel

theorem test_fmpyadd :
    (after 0x188541C6 { fpStart 0 0x4000000000000000 0x4008000000000000 with
      fprs := ((fpStart 0 0x4000000000000000 0x4008000000000000).fprs.set 7 0x3FF0000000000000).set 8
        0x3FF0000000000000 }).map (fun t => (readReg t.fprs 6, readReg t.fprs 8)) =
      some (0x4018000000000000, 0x4000000000000000) := by
  decide +kernel

theorem test_fmpysub :
    (after 0x988541C6 { fpStart 0 0x4000000000000000 0x4008000000000000 with
      fprs := ((fpStart 0 0x4000000000000000 0x4008000000000000).fprs.set 7 0x3FF0000000000000).set 8
        0x3FF0000000000000 }).map (fun t => (readReg t.fprs 6, readReg t.fprs 8)) =
      some (0x4018000000000000, 0) := by
  decide +kernel

theorem test_fldwx :
    (after 0x24852046 (fpStart 0 0 0)).map (fun t => readReg t.fprs 6) = some 0x0000000055667788 := by
  decide +kernel

theorem test_fldws :
    (after 0x24881006 (fpStart 0 0 0)).map (fun t => readReg t.fprs 6) = some 0x5566778800000000 := by
  decide +kernel

theorem test_flddx :
    (after 0x2C852006 (fpStart 0 0 0)).map (fun t => readReg t.fprs 6) = some 0x99AABBCCDDEEFF00 := by
  decide +kernel

theorem test_fldds :
    (after 0x2C801006 (fpStart 0 0 0)).map (fun t => readReg t.fprs 6) = some 0x1122334455667788 := by
  decide +kernel

theorem test_fstwx :
    stored 0x24852264 (fpStart 0 0xA1A2A3A4B1B2B3B4 0) = some (0x2004, 0xB1B2B3B4, 0x55667788, 0x99AABBCC) := by
  decide +kernel

theorem test_fstws :
    stored 0x24881204 (fpStart 0 0xA1A2A3A4B1B2B3B4 0) = some (0x2000, 0x11223344, 0xA1A2A3A4, 0x99AABBCC) := by
  decide +kernel

theorem test_fstdx :
    stored 0x2C800204 (fpStart 0 0xA1A2A3A4B1B2B3B4 0) = some (0x2000, 0xA1A2A3A4, 0xB1B2B3B4, 0x99AABBCC) := by
  decide +kernel

theorem test_fstds :
    stored 0x2C801224 (fpStart 0 0xA1A2A3A4B1B2B3B4 0) = some (0x2000, 0xA1A2A3A4, 0xB1B2B3B4, 0x99AABBCC) := by
  decide +kernel

/-! The performance monitor and the debug unit (table V49). -/

theorem test_pmenb :
    (after 0x30000680 { start [] with ccr := 0x20 }).map (fun t => t.measurementEnabled) = some true := by
  decide +kernel

theorem test_pmdis :
    (after 0x30000280 { start [] with ccr := 0x20, measurementEnabled := true }).map
      (fun t => t.measurementEnabled) = some false := by
  decide +kernel

/-- The start state of a Level 0 machine with the debug unit enabled. -/
def debugging (regs : List (Nat × Nat)) : State :=
  { start regs with
    scr := 0x40
    cfg := { Config.reference with
      level := .l0, hasDebugSfu := true, dbgIreg := 1, dbgDreg := 1, dbgMask := 12, dbgModel := 1 }
    dbaor := Vector.replicate 32 0x11, dbamr := Vector.replicate 32 0x22
    ibaor := Vector.replicate 32 0x33, ibamr := Vector.replicate 32 0x44 }

theorem test_debugid :
    seen 6 0x10000246 (debugging []) = some (0x0400042C, 8, 0x1004, 0x1008) := by
  decide +kernel

theorem test_mfdbao :
    seen 6 0x10002246 (debugging []) = some (0x11, 8, 0x1004, 0x1008) := by
  decide +kernel

theorem test_mfdbam :
    seen 6 0x10002A46 (debugging []) = some (0x22, 8, 0x1004, 0x1008) := by
  decide +kernel

theorem test_mfibao :
    seen 6 0x10003246 (debugging []) = some (0x33, 8, 0x1004, 0x1008) := by
  decide +kernel

theorem test_mfibam :
    seen 6 0x10003A46 (debugging []) = some (0x44, 8, 0x1004, 0x1008) := by
  decide +kernel

theorem test_mtdbao :
    (after 0x10402440 (debugging [(2, 0x80)])).map (fun t => readReg t.dbaor 0) = some 0x80 := by
  decide +kernel

theorem test_mtdbam :
    (after 0x10402C40 (debugging [(2, 0x80)])).map (fun t => readReg t.dbamr 0) = some 0x80 := by
  decide +kernel

theorem test_mtibao :
    (after 0x10403440 (debugging [(2, 0x80)])).map (fun t => readReg t.ibaor 0) = some 0x80 := by
  decide +kernel

theorem test_mtibam :
    (after 0x10403C40 (debugging [(2, 0x80)])).map (fun t => readReg t.ibamr 0) = some 0x80 := by
  decide +kernel

/-! ### The boundary (tables V60 and V70) -/

/-- A match of the interval timer is taken as interruption 4 by the step after it (V70). -/
theorem test_timer_match :
    let s := { start [] with psw := 9, eiem := 0x80000000, itmr := 0xFFFF, itmrCmp := 0x10000 }
    (after 0x08000240 s).map (fun t => (t.eirr, t.itmr, t.iaoqFront)) = some (0x80000000, 0x10000, 0x1004) ∧
    traps 4 0x08000240 { s with eirr := 0x80000000 } = true := by
  decide +kernel

/-- The Recovery Counter: counted by an executed instruction, interruption 3 when bit 0 is 1 (V60). -/
theorem test_recovery_counter :
    (after 0x34A60002 { start [] with psw := 0x18, rctr := 5 }).map (fun t => t.rctr) = some 4 ∧
    traps 3 0x34A60002 { start [] with psw := 0x18, rctr := 0xFFFFFFFF } = true := by
  decide +kernel

/-- A nullified instruction has no effect and clears N (V60). -/
theorem test_nullified :
    seen 6 0x08850E06 { start [(4, 1), (5, 0x7FFFFFFF)] with psw := 0x200008 } =
      some (0, 8, 0x1004, 0x1008) := by
  decide +kernel

/-- An undefined major opcode is an illegal instruction (V60). -/
theorem test_undefined_word : traps 8 0xFC000000 (start []) = true := by
  decide +kernel

/-- The first step from reset runs what empty memory holds: BREAK 0,0. -/
theorem test_first_step : (match step State.reset with
    | .next t => t.iaoqFront == 0x120 && t.ipsw == 0
    | _ => false) = true := by
  decide +kernel

/-! ### Witnesses: a state and operands that meet the hypotheses of each statement -/

def isNext (o : Out) : Bool :=
  match o with
  | .next _ => true
  | _ => false

/-- The state fetches the word. -/
def fetches (s : State) (w : Word) : Bool :=
  match s.fetch with
  | .ok (_, v) => v == w
  | _ => false

/-- The reference passes its checks and reaches the address. -/
def reaches (s : State) (ref : DataRef) (ea : Ea) (a : Nat) : Bool :=
  match s.dataCheck ref ea.space ea.offset with
  | .ok (_, b) => a == b
  | _ => false

/-- The fetch is interrupted. -/
def fetchTraps (s : State) (n : Nat) : Bool :=
  match s.fetch with
  | .trap m => m == n
  | _ => false

/-- The reference is interrupted. -/
def interrupted (s : State) (ref : DataRef) (ea : Ea) (n : Nat) : Bool :=
  match s.dataCheck ref ea.space ea.offset with
  | .trap m => m == n
  | _ => false

/-- An implementation whose unaligned absolute references take interruption 28 (D18). -/
def unalignedTraps (s : State) : State := { s with cfg := { s.cfg with unalignedAbs := .trap28 } }

/-- The entry that translates an address. -/
def entry (s : State) (instr : Bool) (space offset : Word) : Option TlbEntry :=
  (s.translate instr space offset).map fun p => p.1

/-- The start state with another PSW. -/
def withPsw (psw : Word) : State := { start [(4, 0x2000), (5, 8), (6, 0xCAFEF00D)] with psw := psw }

/-- Virtual data addresses, one page; PSW P as given. -/
def virtual (p : TlbEntry) (psw : Word) : State :=
  { paged [(4, 0x2000), (5, 8), (6, 0xCAFEF00D)] p with psw := psw }

theorem witness_EncodeThenDecode :
    (Instr.add 4 5 0 0 6).wf = true ∧ (Instr.copr 0 0 1 0).wf = true ∧
    (Instr.copr 0x1FFFF 7 1 31).wf = true ∧ (Instr.spop1 0 1 1 6).wf = true ∧
    (Instr.cldds 1 2 0 0 0 1 0 3).wf = true := by
  decide

theorem witness_DecodedIsWellFormed : decode 0x08850606 = some (.add 4 5 0 0 6) := by
  decide +kernel

theorem witness_StepRunsDecoded :
    let s := (start []).withFetchWord 32 0x08850606;
    let u := (start []).withFetchWord 32 0xFC000000;
    (machineCheckStop s.takeInput = false ∧ pendingInterruption s.takeInput = none ∧
      s.takeInput.pswN = false ∧ fetches s.takeInput 0x08850606 = true ∧
      decode 0x08850606 = some (.add 4 5 0 0 6) ∧
      isNext (exec (.add 4 5 0 0 6) { s with iword := 0x08850606 }) = true) ∧
    machineCheckStop u.takeInput = false ∧ pendingInterruption u.takeInput = none ∧
      u.takeInput.pswN = false ∧ fetches u.takeInput 0xFC000000 = true ∧ decode 0xFC000000 = none ∧
      field 0xFC000000 0 6 ≠ 0x0E := by
  decide +kernel

/-- The first and the last backed word; an instruction breakpoint that matches, and one that is undefined;
a page absent, not executable, of another identifier, allowed; a combined TLB. -/
theorem witness_InstructionFetch :
    ([0, 0xEFFFFFFC] : List Word).all (fun a =>
      let s := { start [] with iaoqFront := a };
      !s.pswC && s.instrBreakpoint == .none && !isIo s.fetchOffset &&
        backed s.cfg s.fetchOffset.toNat 4) = true ∧
    (let s := { debugging [] with
        psw := 0x48, ibaor := Vector.replicate 32 0x1000, ibamr := Vector.replicate 32 0x80000000 };
      s.pswC = false ∧ s.instrBreakpoint = .hit) ∧
    (let s := { debugging [] with
        psw := 0x48, ibaor := Vector.replicate 32 1, ibamr := Vector.replicate 32 0x80000001 };
      s.pswC = false ∧ s.instrBreakpoint = .undefined) ∧
    (let s := withPsw 0x40008;
      s.pswC = true ∧ (s.translate true s.iasqFront s.fetchOffset).isNone = true ∧ fetchTraps s 6 = true ∧
        s.cfg.hwTlbMiss = false) ∧
    (∀ p ∈ ([(page 0x1F true true false false 0, false, true), (page 0x2C true true false false 5, true, false),
        (page 0x2C true true false false 0, true, true)] : List (TlbEntry × Bool × Bool)),
      let s := { virtual p.1 0x4000C with iaoqFront := 0x2000 };
      s.pswC = true ∧ s.pswP = true ∧ entry s true s.iasqFront s.fetchOffset = some p.1 ∧
        executeAllowed p.1 s.priv.toNat = p.2.1 ∧ s.pidCheck p.1 false = p.2.2 ∧
        s.cfg.tlbCombined = false ∧ s.instrBreakpoint = .none ∧
        isIo (absoluteOf p.1 s.fetchOffset) = false ∧
        backed s.cfg (absoluteOf p.1 s.fetchOffset).toNat 4 = true) ∧
    (let p := page 0x2C true true false false 0;
      let s := { virtual p 0x40008 with
        iaoqFront := 0x2000, cfg := { Config.reference with tlbCombined := true } };
      s.pswC = true ∧ s.pswP = false ∧ entry s true s.iasqFront s.fetchOffset = some p ∧ p.u = false ∧
        executeAllowed p s.priv.toNat = true) := by
  decide +kernel

theorem witness_PendingInterruptionsInOrder :
    pendingInterruption { start [] with inputs := [⟨0, true, false, false, false⟩] }.takeInput = some 1 ∧
    (let s := { withPsw 0x10000 with pendHpmc := true };
      s.takeInput.pswM = true ∧ s.takeInput.pendHpmc = true) ∧
    (let s := { withPsw 0x10001 with pendPowerFail := true };
      s.takeInput.pendHpmc = false ∧ pendingInterruption s.takeInput = some 2) ∧
    (let s := { withPsw 0x10001 with pendHpmc := true, pendPowerFail := true };
      s.pswM = true ∧ s.pendHpmc = true ∧ s.pswI = true ∧ s.pendPowerFail = true) ∧
    (let s := { withPsw 0x11 with rctr := 0x80000000 };
      s.pendHpmc = false ∧ s.pendPowerFail = false ∧ s.pswR = true ∧ mbit s.rctr 0 = true) ∧
    (let s := { withPsw 1 with eirr := 1, eiem := 1, pendLpmc := true };
      s.pswR = false ∧ s.pswI = true ∧ s.eirr &&& s.eiem ≠ 0) ∧
    (let s := { withPsw 1 with eirr := 1, eiem := 2, pendLpmc := true };
      s.pswR = false ∧ s.pswI = true ∧ s.eirr &&& s.eiem = 0 ∧ s.pendLpmc = true) ∧
    (let s := { withPsw 0x20 with pendPerfmon := true };
      s.pswR = false ∧ s.pswI = false ∧ s.pswF = true ∧ s.pendPerfmon = true) ∧
    (let s := withPsw 8;
      s.pswR = false ∧ s.pswI = false ∧ s.pswF = false ∧ s.pendPerfmon = false) := by
  decide +kernel

theorem witness_NullifiedIsSkipped :
    let u := (withPsw 0x200008).takeInput;
    machineCheckStop u = false ∧ pendingInterruption u = none ∧ u.pswN = true ∧
      (u.pswH = false ∧ u.pswL = false ∧ u.pswT = false) ∧ (u.pswC = false ∧ u.pswD = false) := by
  decide +kernel

/-- Privilege falls with L = 1, rises with H = 1, and stays with T = 1 or 0. -/
theorem witness_TransferTraps :
    (let s := withPsw 0x00400008;
      let w := { s with iaoqFront := 0x1007 };
      s.rank s.priv < s.rank w.priv ∧ s.pswL = true) ∧
    (let s := { withPsw 0x00800008 with iaoqFront := 0x1003 };
      let w := { s with iaoqFront := 0x1004 };
      s.rank w.priv < s.rank s.priv ∧ s.pswH = true) ∧
    (let s := withPsw 0x01000008;
      ¬ s.rank s.priv < s.rank s.priv ∧ s.pswT = true) ∧
    (withPsw 8).pswT = false := by
  decide +kernel

/-- The rates 1, 1/2 with half a tick carried over, and 2. -/
theorem witness_TimerRequestsInterrupt : (0 : Nat) < 2 ^ 32 ∧ 4294967295 < 2 ^ 32 ∧ (31 : Nat) < 32 ∧
    (Config.reference.valid = true ∧ Config.reference.itmrNum = Config.reference.itmrDenPred + 1 ∧
      State.reset.itmrPhase < Config.reference.itmrDenPred + 1) ∧
    { Config.reference with itmrDenPred := 1 }.valid = true ∧ 1 < 1 + 1 ∧
    { Config.reference with itmrNum := 2 }.valid = true := by
  decide

/-- The defaults; the debug SFU in Level 0 with the most mask bits. -/
theorem witness_ResetMeetsInvariant : Config.reference.valid = true ∧
    { Config.reference with level := .l0, hasDebugSfu := true, dbgMask := 24 }.valid = true := by
  decide

theorem witness_StepKeepsInvariant : State.reset.Inv ∧ isNext (step State.reset) = true :=
  ⟨⟨by decide, by decide, by decide, by decide, by decide, by decide, by decide, by decide, by decide,
    by decide, by decide⟩, by decide +kernel⟩

theorem witness_TakeSavesAndVectors :
    (0 : Nat) < 32 ∧ 31 < 32 ∧ (start []).iva &&& 0x7FF#32 = 0#32 ∧ (withPsw 0x40008).pswQ = true ∧
    (withPsw 0x40008).pswC = true ∧ (withPsw 0x40008).level0 = false ∧ (withPsw 0).pswQ = false ∧
    (withPsw 0).iva &&& 0x7FF#32 = 0#32 := by
  decide +kernel

theorem witness_ReturnFromInterruption :
    ([(8, true), (0, false)] : List (Word × Bool)).all (fun p =>
      let s := { withPsw 0 with ipsw := p.1 };
      s.priv == 0 && !s.pswQ && mbit s.ipsw 28 == p.2 && !s.level0 && !s.pswH) = true ∧
    (let s := { debugging [] with psw := 0 };
      s.priv = 0 ∧ s.pswQ = false ∧ s.level0 = true) := by
  decide +kernel

theorem witness_TakeThenRfiReturns : (withPsw 0x4000F).pswQ = true ∧ (withPsw 0x4000F).pswC = true := by
  decide +kernel

theorem witness_BreakAndPrivilegeTraps :
    let s := { start [] with iaoqFront := 0x1001, cfg := { Config.reference with coherentIo := true } };
    s.priv ≠ 0 ∧ s.level0 = false ∧ s.cfg.coherentIo = true ∧ s.pswQ = true := by
  decide +kernel

theorem witness_ArithmeticIsExact : (1 : Nat) ≤ 1 ∧ (3 : Nat) ≤ 3 ∧ (0 : Nat) < 8 ∧ (7 : Nat) < 8 := by
  decide

theorem witness_TrappingArithmetic :
    let s := start [(5, 0x7FFFFFFF), (4, 1), (7, 0x80000000)];
    (adder (s.gr 5) (s.gr 4) false).sv = true ∧ (adder (s.gr 4) (s.gr 4) false).sv = false ∧
    (subtract (s.gr 7) (s.gr 4)).sv = true ∧ (subtract (s.gr 4) (s.gr 4)).sv = false ∧
    arithCond 1 0 (subtract (s.gr 4) (s.gr 4)) = true ∧ arithCond 1 0 (subtract (s.gr 5) (s.gr 4)) = false ∧
    (adder (lowSignExt11 2) (s.gr 5) false).sv = true ∧
    (adder (lowSignExt11 2) (s.gr 4) false).sv = false ∧
    arithCond 1 0 (adder (lowSignExt11 0x7FF) (s.gr 4) false) = true := by
  decide +kernel

theorem witness_ShiftAndAdd :
    (shiftAdd (preShift 0x40000000 1) 0).sv = true ∧ (shiftAdd (preShift 1 3) 0).sv = false := by
  decide +kernel

theorem witness_LogicalAndUnitInstructions :
    let x := adder 0xA (~~~0x99999999) false;
    unitBase 3 (0x12345678 ^^^ 0x12340000) 0 = some true ∧ unitBase 4 x.res x.cb = some true ∧
    unitBase 0 x.res x.cb = some false ∧ unitBase 1 x.res x.cb = none := by
  decide +kernel

/-- The ends of the ranges of a place, a length and a shift amount; a field that fits, and one that runs
past the left edge. -/
theorem witness_FieldOperations :
    ((0 : Nat) < 32 ∧ (31 : Nat) < 32 ∧ 1 ≤ 1 ∧ 32 ≤ 32) ∧ (1 - 1 ≤ 0 ∧ 32 - 1 ≤ 31) ∧ 3 < 5 - 1 ∧
    30 < 32 - 1 := by
  decide

/-- A field that just fits, and one that begins one place to the left of the word. -/
theorem witness_FieldInstructions :
    31 - (24 : BitVec 5).toNat ≤ (7 : BitVec 5).toNat ∧ (6 : BitVec 5).toNat < 31 - (24 : BitVec 5).toNat := by
  decide

theorem witness_UnconditionalBranches :
    (withPsw 8).pswB = false ∧ (withPsw 0x80008).pswB = true ∧ (withPsw 8).pswC = false ∧
    (withPsw 0x40008).pswC = true ∧ (debugging []).level0 = true := by
  decide +kernel

theorem witness_BranchPrivilege :
    (∀ rights ∈ ([0x5C, 0x2C] : List (BitVec 7)),
      let s := { virtual (page rights true true false false 0) 0x40008 with iaoqFront := 0x2003 };
      s.pswC = true ∧ tlbValid s.cfg (s.tlb true) s.iasqFront (vpnOf s.fetchOffset) =
        some (page rights true true false false 0)) ∧
    (withPsw 8).pswC = false := by
  decide +kernel

/-- A backward and a forward branch, and the two condition codes that BB and BVB list. -/
theorem witness_ConditionalBranches :
    (branchDisp12 0x7FF 1).toInt < 0 ∧ ¬ (branchDisp12 0 0).toInt < 0 ∧ (2 : BitVec 3) ≠ 6 := by
  decide +kernel

/-- The bytes next to each datum on both sides. -/
theorem witness_StoredDataReadsBack :
    image.wf = true ∧ (∀ n ∈ [1, 2, 4, 8], 0x1FFF < 0x2000 ∧ 0x2000 + n ≤ 0x2000 + n) ∧
    (0 : Nat) < 8 ∧ (7 : Nat) < 8 ∧ (3 : Nat) < 4 ∧ (1 : Nat) < 2 := by
  decide

/-- A data breakpoint at 0x2000; the ends of the backed storage and of the I/O address space; an unaligned
reference under both decisions. -/
theorem witness_AbsoluteReferences :
    (let s := { debugging [] with
        psw := 0x48, dbaor := Vector.replicate 32 0x2000, dbamr := Vector.replicate 32 0x80000000 };
      let ref : DataRef := ⟨.load, 4, 4, false, false⟩;
      s.isVirtual ref = false ∧ (0x2000#32).toNat % ref.align = 0 ∧
        s.dataBreakpoint ref.kind 0x2000 = .hit) ∧
    (let s := { debugging [] with
        psw := 0x48, dbaor := Vector.replicate 32 0x2001, dbamr := Vector.replicate 32 0x80000001 };
      s.isVirtual ⟨.load, 4, 4, false, false⟩ = false ∧ s.dataBreakpoint .load 0x2000 = .undefined) ∧
    (let s := start [];
      let ref : DataRef := ⟨.store, 4, 4, false, false⟩;
      s.isVirtual ref = false ∧ s.dataBreakpoint ref.kind 0xEFFFFFFC = .none ∧
        isIo 0xEFFFFFFC = false ∧ backed s.cfg (0xEFFFFFFC#32).toNat ref.size = true ∧
        isIo 0xF0000000 = true ∧ (0xF0000000#32).toNat % ref.align = 0 ∧
        s.dataBreakpoint ref.kind 0xF0000000 = .none ∧ ref.kind ≠ .semaphore ∧
        (0xEFFFFFFE#32).toNat % ref.align ≠ 0 ∧ s.cfg.unalignedAbs = .refuse) ∧
    (let s := unalignedTraps (start []);
      s.isVirtual ⟨.load, 2, 2, false, false⟩ = false ∧ (0x2001#32).toNat % 2 ≠ 0 ∧
        s.cfg.unalignedAbs = .trap28) ∧
    (let s := { start [] with cfg := { Config.reference with unalignedAbs := .truncate } };
      s.isVirtual .semaphore = false ∧ (0x201C#32).toNat % 16 ≠ 0 ∧ s.cfg.unalignedAbs = .truncate ∧
        s.dataBreakpoint .semaphore 0x201C = .none ∧
        BitVec.ofNat 32 ((0x201C#32).toNat / 16 * 16) = 0x2010#32 ∧ isIo 0x2010 = false ∧
        backed s.cfg (0x2010#32).toNat 4 = true) ∧
    (let s := { start [] with cfg := { Config.reference with backed := [(0, 0x1000)] } };
      s.dataBreakpoint .load 0x1000 = .none ∧ isIo 0x1000 = false ∧
        backed s.cfg (0x1000#32).toNat 4 = false) := by
  decide +kernel

/-- One state for each interruption of a virtual store or semaphore operation, and one for none. -/
theorem witness_VirtualReferences :
    (let s := withPsw 0xA;
      s.isVirtual ⟨.load, 4, 4, false, false⟩ = true ∧ (s.translate false 0 0x2000).isNone = true) ∧
    (∀ ref ∈ ([⟨.store, 4, 4, false, false⟩, ⟨.semaphore, 4, 16, false, false⟩] : List DataRef),
      (∀ p ∈ ([(page 0x00 true true false false 0, false, true), (page 0x0F true true false false 0, false, true),
          (page 0x1F true true false false 5, true, false), (page 0x1F true true true false 0, true, true),
          (page 0x1F true false false false 0, true, true), (page 0x1F true true false true 0, true, true),
          ({ page 0x1F true true false false 0 with u := true }, true, true),
          (page 0x1F true true false false 0, true, true)] : List (TlbEntry × Bool × Bool)),
        let s := virtual p.1 0xE;
        s.isVirtual ref = true ∧ entry s false 0 0x2000 = some p.1 ∧
          rightsOk p.1 ref.kind s.priv.toNat = p.2.1 ∧ s.pswP = true ∧ s.pidCheck p.1 true = p.2.2 ∧
          s.pswX = false ∧ isIo (absoluteOf p.1 0x2000) = false ∧ s.cfg.hasTlbU = true ∧
          s.cfg.unalignedAbs = .refuse ∧ backed s.cfg (absoluteOf p.1 0x2000).toNat 4 = true) ∧
      (0x2000#32).toNat % ref.align = 0 ∧ (0x2002#32).toNat % ref.align ≠ 0) ∧
    (virtual (page 0x1F true true true false 0) 0x10000A).pswX = true := by
  decide +kernel

/-- A public page; a page whose identifier matches, with write disable 0 and 1; one that does not match. -/
theorem witness_AccessRights : (page 0x1F true true false false 0).accessId = 0 ∧
    ([(0xA, true, true), (0xB, true, false), (0xC, false, false)] : List (Word × Bool × Bool)).all (fun p =>
      let s := { start [] with pid3 := p.1 };
      s.pidCheck (page 0x1F true true false false 5) false == p.2.1 &&
      s.pidCheck (page 0x1F true true false false 5) true == p.2.2) = true := by
  decide +kernel

theorem witness_AddressForms : (1 : BitVec 2) ≠ 0 ∧ (3 : BitVec 2) ≠ 0 := by decide

/-- A reference that passes its checks, and one that is interrupted. -/
theorem witness_LoadInstructions :
    let s := start [(4, 0x2000), (5, 1)];
    reaches s ⟨.load, 4, 4, false, false⟩ (longEa s 4 0 8) 0x2004 = true ∧
    reaches s ⟨.load, 4, 4, false, false⟩ (longModifyEa s 4 0 8) 0x2000 = true ∧
    reaches s ⟨.load, 2, 2, false, false⟩ (indexedEa s 4 5 0 1 0 1) 0x2002 = true ∧
    reaches s ⟨.load, 1, 1, false, false⟩ (shortEa s 4 2 0 1 1) 0x2001 = true ∧
    (let v := withPsw 0xA;
      v.dataCheck ⟨.load, 4, 4, false, false⟩ (longEa v 4 0 0).space (longEa v 4 0 0).offset = .trap 15) := by
  decide +kernel

theorem witness_StoreInstructions :
    let s := start [(4, 0x2000), (6, 0xCAFEF00D)];
    s.mem.wf = true ∧ reaches s ⟨.store, 4, 4, false, false⟩ (longEa s 4 0 8) 0x2004 = true ∧
    reaches s ⟨.store, 2, 2, false, false⟩ (shortEa s 4 4 0 1 1) 0x2002 = true ∧
    reaches s ⟨.store, 1, 1, false, false⟩ (longEa s 4 0 2) 0x2001 = true ∧
    (let v := withPsw 0xA;
      v.mem.wf = true ∧
      v.dataCheck ⟨.store, 4, 4, false, false⟩ (longEa v 4 0 0).space (longEa v 4 0 0).offset = .trap 15) := by
  decide +kernel

theorem witness_AbsoluteInstructions :
    let s := withPsw 0xA;
    s.priv = 0 ∧ s.mem.wf = true ∧
    reaches s ⟨.load, 4, 4, true, false⟩ (indexedEa s 4 5 0 0 0 2) 0x2008 = true ∧
    reaches s ⟨.load, 4, 4, true, false⟩ (shortEa s 4 8 0 1 1) 0x2004 = true ∧
    reaches s ⟨.store, 4, 4, true, false⟩ (shortEa s 4 8 0 1 1) 0x2004 = true ∧
    (let u := unalignedTraps s;
      u.priv = 0 ∧ interrupted u ⟨.load, 4, 4, true, false⟩ (shortEa u 4 2 0 0 0) 28 = true ∧
      interrupted u ⟨.store, 4, 4, true, false⟩ (shortEa u 4 2 0 0 0) 28 = true) := by
  decide +kernel

/-- The four byte positions of STBYS reach the same word; a page that is absent. -/
theorem witness_SemaphoresAndStoreBytes :
    let s := start [(4, 0x2000), (5, 2)];
    s.mem.wf = true ∧ reaches s ⟨.semaphore, 4, 16, false, false⟩ (indexedEa s 4 5 0 1 0 3) 0x2010 = true ∧
    reaches s ⟨.semaphore, 4, 16, false, false⟩ (shortEa s 4 0 0 0 0) 0x2000 = true ∧
    (∀ i ∈ ([0, 2, 4, 6] : List (BitVec 5)),
      reaches s ⟨.store, 4, 4, false, false⟩
        ⟨s.space 0 (s.gr 4), (s.gr 4 + lowSignExt5 i) &&& 0xFFFFFFFC#32, none⟩ 0x2000 = true) ∧
    (let v := withPsw 0xA;
      v.mem.wf = true ∧ interrupted v ⟨.semaphore, 4, 16, false, false⟩ (shortEa v 4 0 0 0 0) 15 = true ∧
      interrupted v ⟨.store, 4, 4, false, false⟩
        ⟨v.space 0 (v.gr 4), (v.gr 4 + lowSignExt5 6) &&& 0xFFFFFFFC#32, none⟩ 15 = true) := by
  decide +kernel

/-- Q would be set; a one for a reserved bit; a mask that leaves Q alone; Q is cleared, by MTSM and by RSM,
and RSM that leaves it. -/
theorem witness_SystemMask :
    ((withPsw 0).priv = 0 ∧ (withPsw 8).priv = 0) ∧
    ((withPsw 0).pswQ = false ∧ mbit (setField (withPsw 0).psw 25 7 (field (withPsw 0).psw 25 7 ||| 8)) 28 = true) ∧
    (let s := withPsw 8;
      ((0x40 : BitVec 7).getLsbD 6 = true ∧ (pswReserved s.cfg).getLsbD 6 = true) ∧
      (∀ k, k < 7 → (1 : BitVec 7).getLsbD k = true → (pswReserved s.cfg).getLsbD k = false) ∧
      s.pswQ = true ∧ s.pswQ = mbit (setField s.psw 25 7 (field s.psw 25 7 ||| 1)) 28 ∧
      mbit (setField s.psw 25 7 (field (s.gr 0) 25 7)) 28 = false ∧
      (∀ k, k < 7 → (field (s.gr 0) 25 7).getLsbD k = true → (pswReserved s.cfg).getLsbD k = false) ∧
      mbit (setField s.psw 25 7 (field s.psw 25 7 &&& ~~~(8 : BitVec 7))) 28 = false ∧
      mbit (setField s.psw 25 7 (field s.psw 25 7 &&& ~~~(1 : BitVec 7))) 28 = true) := by
  decide +kernel

/-- The `s` fields of space registers 4 and 5. -/
theorem witness_SpaceRegisterMoves :
    let s := { start [] with iaoqFront := 0x1003 };
    s.level0 = false ∧ s.priv ≠ 0 ∧ (assemble3 3).toNat = 5 ∧ 5 ≤ (assemble3 3).toNat ∧
    (assemble3 1).toNat = 4 ∧ (assemble3 1).toNat < 5 ∧ (start []).priv = 0 ∧
    (debugging []).level0 = true ∧ s.cfg.level = .l2 ∧ (0 : BitVec 3) ≠ 7 ∧
    { s with cfg := { s.cfg with level := .l15 } }.level0 = false := by
  decide +kernel

/-- The boundary numbers of the control registers (0, 1, 7, 8, 11, 14, 16 to 23, 26, 27) and both modes. -/
theorem witness_ControlRegisterMoves :
    ((debugging []).level0 = true ∧ absentInLevel0 8 = true ∧ absentInLevel0 20 = true) ∧
    ((start []).level0 = false ∧ (8#5 : BitVec 5) ≤ 8 ∧ (8#5 : BitVec 5) ≤ 31) ∧
    (let s := { start [] with iaoqFront := 0x1001 };
      s.level0 = false ∧ (8 : BitVec 5) ≠ 11 ∧ (1 : BitVec 5) ≠ 11 ∧ s.priv ≠ 0 ∧ s.pswS = false) ∧
    (let s := withPsw 0;
      s.priv = 0 ∧ s.pswR = false ∧ s.pswQ = false ∧ s.gr 4 &&& 0x7FF#32 = 0#32 ∧
      s.gr 6 &&& 0x7FF#32 ≠ 0#32 ∧ s.gr 6 &&& pswReserved s.cfg ≠ 0#32 ∧
      s.gr 5 &&& pswReserved s.cfg = 0#32) ∧
    ((withPsw 0x18).pswR = true ∧ (withPsw 0x18).pswQ = true ∧ (withPsw 0x18).priv = 0) ∧
    ((1#5 : BitVec 5) ≤ 1 ∧ (1#5 : BitVec 5) ≤ 7 ∧ (7#5 : BitVec 5) ≤ 7 ∧ (17#5 : BitVec 5) ≤ 22 ∧
      (22#5 : BitVec 5) ≤ 22) := by
  decide +kernel

theorem witness_ControlRegistersReadBack : (0 : Nat) < 32 ∧ (31 : Nat) < 32 ∧ (31 : Nat) ≠ 0 ∧
    14 ∈ [0, 14, 15, 22, 24, 25, 26, 27, 28, 29, 30, 31] ∧ 8 ∈ [8, 9, 12, 13] := by
  decide

theorem witness_ProbesAndAddresses :
    ((debugging []).level0 = true) ∧
    (let s := withPsw 8;
      s.level0 = false ∧ s.priv = 0 ∧ s.cfg.coherentIo = false ∧
      (s.translate false (s.space 0 (s.gr 4)) (s.gr 4)).isNone = true) ∧
    (let s := virtual (page 0x1F true true false false 0) 8;
      s.level0 = false ∧ s.priv = 0 ∧
      entry s false (s.space 0 (s.gr 4)) (s.gr 4) = some (page 0x1F true true false false 0)) ∧
    (let s := { virtual (page 0x1F true true false false 0) 8 with relied := some (0, 2) };
      s.priv = 0 ∧ (tlbValid s.cfg (s.tlb false) 0 2).isSome = true ∧
      entry s false (s.space 0 (s.gr 4)) (s.gr 4) = some (page 0x1F true true false false 0)) ∧
    (let s := { start [] with cfg := { Config.reference with coherentIo := true } };
      s.level0 = false ∧ s.cfg.coherentIo = true ∧ s.priv = 0) := by
  decide +kernel

/-- The page relied upon after a step. -/
def reliedAfter (w : Nat) (s : State) : Option (Option (Word × BitVec 20)) :=
  (after w s).map fun t => t.relied

/-- R201: a TLB dirty bit trap begins the reliance, LPA leaves it, a probe ends it. -/
theorem test_relied_translation :
    reliedAfter 0x68860000 (virtual (page 0x1F true false false false 0) 0xA) = some (some (0, 2)) ∧
    reliedAfter 0x04851346 { virtual (page 0x1F true true false false 0) 8 with relied := some (0, 2) }
      = some (some (0, 2)) ∧
    reliedAfter 0x04851186 { virtual (page 0x1F true true false false 0) 8 with relied := some (0, 2) }
      = some none := by
  decide +kernel

/-- R201: a nullified LDW 0(0,r4) of the page relied upon leaves it, one of another page ends the reliance,
that of a page of the I/O address space too. -/
theorem test_relied_nullified :
    reliedAfter 0x48860000 { virtual (page 0x1F true true false false 0) 0x20000A with relied := some (0, 2) }
      = some (some (0, 2)) ∧
    reliedAfter 0x48860000 { virtual (page 0x1F true true false false 0) 0x20000A with relied := some (0, 3) }
      = some none ∧
    reliedAfter 0x48860000 { virtual { page 0x1F true true false false 0 with ppn := 0xF0000 } 0x20000A with
      relied := some (0, 3) } = some none := by
  decide +kernel

/-- R201: a nullified absolute LDW or LDWAX of the I/O address space makes no virtual reference: the reliance
stays. -/
theorem test_relied_nullified_absolute :
    reliedAfter 0x48860000 { start [(4, 0xF0000000)] with psw := 0x200008, relied := some (0, 2) }
      = some (some (0, 2)) ∧
    reliedAfter 0x0C800186 { start [(4, 0xF0000000)] with psw := 0x20000A, relied := some (0, 2) }
      = some (some (0, 2)) := by
  decide +kernel

/-- Separate TLBs and a combined one. -/
theorem witness_TlbInsertTranslates :
    let s := withPsw 8;
    (s.level0 = false ∧ s.priv = 0 ∧ privOf s.iaoqBack = 0 ∧
      (s.pswH = false ∧ s.pswL = false ∧ s.pswT = false)) ∧
    (∀ instr, (s.tlb instr).length = s.tlbSlots instr) ∧
    (let c := { s with cfg := { Config.reference with tlbCombined := true } };
      c.level0 = false ∧ c.cfg.tlbCombined = true ∧ ∀ instr, (c.tlb instr).length = c.tlbSlots instr) := by
  decide +kernel

theorem witness_TlbInstructions :
    (withPsw 8).level0 = false ∧ (withPsw 8).priv = 0 ∧ (debugging []).level0 = true ∧
    (3 : BitVec 20) ≠ vpnOf 0x2000 := by
  decide +kernel

theorem witness_CacheAndNullInstructions :
    ((withPsw 8).pswD = false ∧ isIo 0xF0000000 = true ∧ isIo 0xEFFFFFFF = false ∧ (withPsw 8).priv = 0) ∧
    ((withPsw 0xA).pswD = true ∧ ((withPsw 0xA).translate false 0 0x2000).isNone = true) ∧
    (let s := virtual (page 0x1F true true false false 0) 0xA;
      s.pswD = true ∧ entry s false 0 0x2000 = some (page 0x1F true true false false 0) ∧
      isIo (absoluteOf (page 0x1F true true false false 0) 0x2000) = false) ∧
    (let p := { page 0x1F true true false false 0 with ppn := 0xF0000 };
      entry (virtual p 0xA) false 0 0x2000 = some p ∧ isIo (absoluteOf p 0x2000) = true) := by
  decide +kernel

/-- Dropping one bit of 4 (exact), of 5 (a tie), two bits of 5 (below) and of 7 (above); a magnitude that
is the number, and one that lies between it and the next. -/
theorem witness_RoundingModes :
    ((1 : Int) = 0 + (1 : Nat) ∧ 0 < 1 ∧ 4 % 2 ^ 1 = 0 ∧ 5 % 2 ^ 1 * 2 = 2 ^ 1 ∧ 5 % 2 ^ 2 * 2 < 2 ^ 2 ∧
      2 ^ 2 < 7 % 2 ^ 2 * 2) ∧
    FpExact.Spans ⟨false, 1, 0, false⟩ .sgl 1 ∧ FpExact.Spans ⟨true, 2 ^ 25, 0, true⟩ .sgl (2 ^ 25 + 1 / 2) := by
  refine ⟨by decide, ⟨by decide, by norm_num⟩, by norm_num, ?_⟩
  norm_num [FpFmt.fbits]

/-- 1 and -1, the zeros and the infinities: no NaNs; finite or not, zero or not, of either sign; a fixed-point
number of each kind. -/
theorem witness_ExactResultsAreDelivered :
    (0x3F800000 < 2 ^ FpFmt.sgl.width ∧ fpEnabled 0 3 = false ∧
      fpValue .sgl 0x80000001 = .num true 1 (-149) ∧ fpFromFixed 0 .sgl .dbl 0 = .result 0 0 0 ∧
      0xFFFFFFFF < 2 ^ FpFmt.sgl.width) ∧
    (∀ x ∈ [0x3F800000, 0xBF800000, 0, 0x80000000, 0x7F800000, 0xFF800000], fpIsNan .sgl x = false) ∧
    (fpFinite .sgl 0x3F800000 ∧ fpRat .sgl 0x3F800000 = 1 ∧ fpSign .sgl 0x3F800000 = false) ∧
    (fpFinite .sgl 0xBF800000 ∧ fpRat .sgl 0xBF800000 = -1 ∧ fpSign .sgl 0xBF800000 = true) ∧
    (fpFinite .sgl 0 ∧ fpRat .sgl 0 = 0 ∧ fpSign .sgl 0 = false) ∧
    (fpFinite .sgl 0x80000000 ∧ fpRat .sgl 0x80000000 = 0 ∧ fpSign .sgl 0x80000000 = true) ∧
    (¬ fpFinite .sgl 0x7F800000 ∧ fpSign .sgl 0x7F800000 = false) ∧
    (¬ fpFinite .sgl 0xFF800000 ∧ fpSign .sgl 0xFF800000 = true) := by
  have one : fpValue .sgl 0x3F800000 = .num false 0x800000 (-23) := by decide +kernel
  have minus : fpValue .sgl 0xBF800000 = .num true 0x800000 (-23) := by decide +kernel
  have zero : fpValue .sgl 0 = .zero false := by decide +kernel
  have minusZero : fpValue .sgl 0x80000000 = .zero true := by decide +kernel
  refine ⟨by decide +kernel, by decide +kernel, ⟨?_, ?_, ?_⟩, ⟨?_, ?_, ?_⟩, ⟨?_, ?_, ?_⟩,
    ⟨?_, ?_, ?_⟩, ⟨?_, ?_⟩, ?_, ?_⟩
  all_goals first
    | decide +kernel
    | (unfold fpFinite; decide +kernel)
    | norm_num [fpRat, one, minus, zero, minusZero]

theorem witness_NanOperands :
    fpIsSnan .sgl 0x7FC00000 = true ∧ fpIsSnan .sgl 0x7FA00000 = false ∧ fpIsNan .sgl 0x7FA00000 = true ∧
    fpIsNan .sgl 0x7FC00000 = true ∧ fpIsNan .sgl 0x7F800000 = false ∧
    0xFFFFFFFF < 2 ^ FpFmt.sgl.width := by
  decide +kernel

/-- spec/47_fp_state.md R815: the default NaN, the NaN with only b1 made quiet, the one whose rest stays. -/
theorem test_quiet_nans :
    fpDefaultNan .sgl = 0x7FA00000 ∧ fpQuiet .sgl 0x7FC00000 = 0x7FA00000 ∧
    fpQuiet .sgl 0x7FC00001 = 0x7F800001 ∧ fpQuiet .dbl 0x7FF8000000000000 = 0x7FF4000000000000 := by
  decide +kernel

theorem witness_FpResultWritten :
    fpDestOk ⟨4, true⟩ .sgl = true ∧ 0xFFFFFFFF < 2 ^ FpFmt.sgl.width ∧ fpDestOk ⟨31, false⟩ .dbl = true ∧
    fpDestOk ⟨30, false⟩ .quad = true ∧ (5, false) ∉ fpWords ⟨4, true⟩ .sgl ∧
    ((5, false) : Reg × Bool) ≠ (0, false) := by
  decide +kernel

theorem witness_FpTrapRecorded :
    fpDestOk ⟨6, false⟩ .dbl = true ∧ (0b000010 : BitVec 6) ≠ 0 ∧ 1 < 2 ^ FpFmt.dbl.width ∧
    (4 : BitVec 5) ≠ 0 ∧
    (4, false) ∈ fpWords ⟨4, false⟩ .sgl ∧ (7, false) ∉ fpWords ⟨6, false⟩ .dbl := by
  decide +kernel

theorem witness_FpNotReady :
    (let s := start [];
      s.ccrBit 0 = false ∧ s.ccrBit 1 = false) ∧
    (let s := fpStart 0x40 0 0;
      s.ccrBit 0 = true ∧ s.ccrBit 1 = true ∧ s.fpT = true) ∧
    (let s := { start [] with ccr := 0x80 };
      s.ccrBit 0 ≠ s.ccrBit 1) ∧
    (let s := { fpStart 0 0 0 with fprs := (fpStart 0 0 0).fprs.set 1 0x8000000000000000 };
      s.ccrBit 0 = true ∧ s.ccrBit 1 = true ∧ s.fpT = false ∧ s.fpQueued = true) := by
  decide +kernel

/-- `FpReady`, with the identify format and without it; the formats and specifiers of every clause: single,
double and, as a destination, a quad register pair; an operation the implementation leaves to software, and
one it does not. -/
theorem witness_FpUnaryInstructions :
    (let s := fpStart 0 0 0;
      s.ccrBit 0 = true ∧ s.ccrBit 1 = true ∧ s.fpT = false ∧ s.fpQueued = false ∧
      s.fpIdentifyValid = false ∧
      (FpOp.fcpy, FpFmt.sgl) ∉ s.cfg.fpUnimplemented ∧ (FpOp.fcpy, FpFmt.quad) ∈ s.cfg.fpUnimplemented) ∧
    (let s := { fpStart 0 0 0 with fpIdentifyValid := true, fpBracketed := true, fpZeroStored := true };
      s.ccrBit 0 = true ∧ s.ccrBit 1 = true ∧ s.fpT = false ∧ s.fpQueued = false ∧
      s.fpBracketed = true ∧ s.fpZeroStored = true) ∧
    (0xFFFFFFFF < 2 ^ FpFmt.sgl.width) ∧
    fpFmt0C 0 = some .sgl ∧ fpFmt0C 1 = some .dbl ∧ fpFmt0C 3 = some .quad ∧ fpFmt0E 0 = some .sgl ∧
    fpFmt0E 1 = some .dbl ∧
    fpSourceOk ⟨4, false⟩ .sgl = true ∧ fpDestOk ⟨6, false⟩ .dbl = true ∧ fpDestOk ⟨6, false⟩ .quad = true ∧
    fpSourceOk ⟨4, (1 : BitVec 1) == 1⟩ .sgl = true ∧ fpDestOk ⟨6, (1 : BitVec 1) == 1⟩ .sgl = true := by
  decide +kernel

theorem witness_FpBinaryInstructions :
    (let s := fpStart 0 0 0;
      s.ccrBit 0 = true ∧ s.ccrBit 1 = true ∧ s.fpT = false ∧ s.fpQueued = false ∧
      (FpOp.xmpyu, FpFmt.sgl) ∉ s.cfg.fpUnimplemented) ∧
    (FpOp.xmpyu, FpFmt.sgl) ∈ { Config.reference with fpUnimplemented := [(.xmpyu, .sgl)] }.fpUnimplemented ∧
    fpFmt0C 1 = some .dbl ∧ fpSourceOk ⟨4, false⟩ .dbl = true ∧ fpSourceOk ⟨5, false⟩ .dbl = true ∧
    fpDestOk ⟨6, false⟩ .dbl = true ∧ fpSourceOk ⟨4, (1 : BitVec 1) == 1⟩ .sgl = true ∧
    fpDestOk ⟨6, (1 : BitVec 1) == 1⟩ .sgl = true := by
  decide +kernel

/-- FCMP of numbers, of a quiet NaN with a condition that asks for no NaN, of a signaling NaN, untrapped and
trapped; a quad comparison, which software does; the orders of the infinities; the tests of Table 6-14. -/
theorem witness_FpCompareAndTest :
    (∀ p ∈ ([(0, 0x3F80000000000000, false, false, false), (0, 0x7FA0000000000000, true, false, false),
        (0, 0x7FC0000000000000, true, true, false), (0x10, 0x7FC0000000000000, true, true, true)] :
        List (Word × Dword × Bool × Bool × Bool)),
      let s := fpStart p.1 p.2.1 0x4000000000000000;
      (s.ccrBit 0 = true ∧ s.ccrBit 1 = true ∧ s.fpT = false ∧ s.fpQueued = false ∧
        s.fpIdentifyValid = false ∧ (FpOp.fcmp, FpFmt.sgl) ∉ s.cfg.fpUnimplemented) ∧
      fpIsNan .sgl (s.fpRead ⟨4, false⟩ .sgl) = p.2.2.1 ∧ fpIsNan .sgl (s.fpRead ⟨5, false⟩ .sgl) = false ∧
      fpIsSnan .sgl (s.fpRead ⟨4, false⟩ .sgl) = p.2.2.2.1 ∧
      (p.2.2.2.1 && fpEnabled s.fpsr 0) = p.2.2.2.2) ∧
    (FpOp.fcmp, FpFmt.quad) ∈ (start []).cfg.fpUnimplemented ∧ fpFmt0C 3 = some .quad ∧
    fpSourceOk ⟨4, false⟩ .quad = true ∧
    fpFmt0C 0 = some .sgl ∧ fpFmtF 0 1 = some .sgl ∧ fpSourceOk ⟨4, false⟩ .sgl = true ∧
    fpSourceOk ⟨5, false⟩ .sgl = true ∧
    (fpExpField .sgl 0x3F800000 ≠ FpFmt.sgl.emask ∧ fpExpField .sgl 0x7F800000 = FpFmt.sgl.emask) ∧
    [0, 1, 2, 5, 6, 9, 13, 17].all (fun t => t < 32) = true := by
  decide +kernel

/-- Two results; a product that is an invalid operation, trapping. -/
theorem witness_FpMultipleInstructions :
    (let s := fpStart 0 0x4000000000000000 0x4008000000000000;
      s.ccrBit 0 = true ∧ s.ccrBit 1 = true ∧ s.fpT = false ∧ s.fpQueued = false ∧
      (FpOp.fmpyadd, FpFmt.dbl) ∉ s.cfg.fpUnimplemented ∧
      fpMul s.fpsr .dbl (s.fpRead (fpMulti .dbl 4) .dbl) (s.fpRead (fpMulti .dbl 5) .dbl) =
        .result 0x4018000000000000 0 0 ∧
      fpAdd s.fpsr .dbl (s.fpRead (fpMulti .dbl 8) .dbl) (s.fpRead (fpMulti .dbl 7) .dbl) = .result 0 0 0) ∧
    fpMul 0x10 .dbl 0x7FF0000000000000 0 = .preserved 0x20 ∧
    ((7 : BitVec 5) ≠ 0 ∧ (7 : BitVec 5) ≠ 6 ∧ (8 : BitVec 5) ≠ 4 ∧ (8 : BitVec 5) ≠ 5 ∧ (8 : BitVec 5) ≠ 6) ∧
    fpSourceOk (fpMulti .dbl 4) .dbl = true ∧ fpSourceOk (fpMulti .dbl 5) .dbl = true ∧
    fpDestOk (fpMulti .dbl 6) .dbl = true ∧ fpSourceOk (fpMulti .dbl 7) .dbl = true ∧
    fpDestOk (fpMulti .dbl 8) .dbl = true ∧ fpDestOk (fpMulti .sgl 0) .sgl = true := by
  decide +kernel

/-- An unaligned reference that is refused, and what the data breakpoints say of its address. -/
def unalignedAt (s : State) (ref : DataRef) (offset : Word) (b : Breakpoint) : Bool :=
  (match s.dataCheck ref 0 offset with
    | .refused r => r == .unaligned
    | _ => false) && s.dataBreakpoint ref.kind offset == b

/-- A breakpoint on loads at 0x2001, enabled. -/
def breakpointed : State :=
  { debugging [(4, 0x2001), (5, 8)] with
    psw := 0x48, dbaor := Vector.replicate 32 0x2001, dbamr := Vector.replicate 32 0x80000000 }

/-- R893: an unaligned reference of a disabled unit to a breakpointed address takes 31, another one 22. -/
theorem test_unaligned_emulation :
    traps 31 0x24801006 breakpointed = true ∧
    traps 22 0x24801006 { breakpointed with dbamr := Vector.replicate 32 0 } = true := by
  decide +kernel

/-- Register 4 is the first that a single-word reference may name, but for 0L. The coprocessor disabled;
T = 1; a register that a word may not be; an interrupted reference; the identify format valid. -/
theorem witness_FpLoadsAndStores :
    let s := fpStart 0 0 0;
    s.ccrBit 0 = true ∧ s.ccrBit 1 = true ∧ s.fpT = false ∧ s.fpIdentifyValid = false ∧ s.mem.wf = true ∧
    (3 < (4 : BitVec 5).toNat ∧ (1 : BitVec 5) ≠ 0 ∧ ¬ (3 < (3 : BitVec 5).toNat ∨ (3 : BitVec 5) = 0)) ∧
    reaches s ⟨.load, 4, 4, false, true⟩ (indexedEa s 4 5 0 1 0 2) 0x2004 = true ∧
    reaches s ⟨.load, 4, 4, false, true⟩ (shortEa s 4 8 0 0 0) 0x2004 = true ∧
    reaches s ⟨.load, 8, 8, false, true⟩ (indexedEa s 4 5 0 1 0 3) 0x2008 = true ∧
    reaches s ⟨.store, 4, 4, false, true⟩ (shortEa s 4 8 0 1 1) 0x2004 = true ∧
    reaches s ⟨.store, 8, 8, false, true⟩ (shortEa s 4 0 0 0 1) 0x2000 = true ∧
    (mbit (s.loadWord 0x2000) 25 = true ∧ mbit (s.loadWord 0x2004) 25 = false ∧
      reaches s ⟨.load, 4, 4, false, true⟩ (shortEa s 4 0 0 0 0) 0x2000 = true) ∧
    (let d := start [(4, 0x2000)];
      d.ccrBit 0 = false ∧ d.ccrBit 1 = false ∧
      reaches d ⟨.load, 4, 4, false, true⟩ (shortEa d 4 8 0 0 0) 0x2004 = true ∧
      interrupted { d with psw := 0xA } ⟨.load, 4, 4, false, true⟩
        (shortEa { d with psw := 0xA } 4 8 0 0 0) 15 = true ∧
      unalignedAt d ⟨.load, 4, 4, false, true⟩ 0x2001 .none = true ∧
      unalignedAt breakpointed ⟨.load, 4, 4, false, true⟩ 0x2001 .hit = true ∧
      breakpointed.ccrBit 0 = false ∧ breakpointed.ccrBit 1 = false) ∧
    (let v := { fpStart 0 0 0 with psw := 0xA };
      v.ccrBit 0 = true ∧ v.ccrBit 1 = true ∧ v.fpT = false ∧
      interrupted v ⟨.store, 8, 8, false, true⟩ (shortEa v 4 0 0 0 0) 15 = true) ∧
    (let t := fpStart 0x40 0 0;
      t.ccrBit 0 = true ∧ t.ccrBit 1 = true ∧ t.fpT = true ∧ t.fpIdentifyValid = false ∧ t.mem.wf = true ∧
      reaches t ⟨.store, 8, 8, false, true⟩ (shortEa t 4 0 0 0 1) 0x2000 = true) ∧
    (let t := { fpStart 0 0 0 with fpIdentifyValid := true };
      t.ccrBit 0 = true ∧ t.ccrBit 1 = true ∧ t.fpIdentifyValid = true ∧ t.mem.wf = true ∧
      reaches t ⟨.store, 8, 8, false, true⟩ (shortEa t 4 0 0 0 1) 0x2000 = true) := by
  decide +kernel

/-- A unit disabled, a unit enabled; whether it reports an exception is the unit's, so a free value: the
state meets the hypotheses of one clause or of the other. -/
theorem witness_SfuInstructions :
    (start []).scrBit 3 = false ∧ { start [] with scr := 0x10 }.scrBit 3 = true ∧ (3 : BitVec 3) ≠ 1 ∧
    ¬ ((1 : BitVec 15) = 0 ∧ (0 : BitVec 1) = 0) ∧ ¬ ((0 : BitVec 15) = 0 ∧ (1 : BitVec 1) = 0) ∧
    (Config.sfuRaises 3 0 0 0 0 0 0 = true ∨ Config.sfuRaises 3 0 0 0 0 0 0 = false) :=
  ⟨by decide +kernel, by decide +kernel, by decide, by decide, by decide, (Bool.eq_false_or_eq_true _)⟩

/-- R707: SPOP1 with sop 0 does not trap, whatever the unit reports. -/
theorem test_spop1_sop0_never_traps :
    isNext (exec (.spop1 0 3 1 7) { start [] with scr := 0x10 }) = true := by
  decide +kernel

theorem witness_CoprocessorInstructions :
    ((start []).ccrBit 4 = false ∧
      (let s := start [(4, 0x2000)];
        reaches s ⟨.load, 4, 4, false, true⟩ (shortEa s 4 8 0 0 0) 0x2004 = true ∧
        interrupted { s with psw := 0xA } ⟨.load, 4, 4, false, true⟩
          (shortEa { s with psw := 0xA } 4 8 0 0 0) 15 = true ∧
        unalignedAt s ⟨.load, 4, 4, false, true⟩ 0x2001 .none = true ∧ breakpointed.ccrBit 4 = false ∧
        unalignedAt breakpointed ⟨.load, 4, 4, false, true⟩ 0x2001 .hit = true)) ∧
    (let s := { start [(4, 0x2000), (5, 1)] with ccr := 0x08 };
      s.ccrBit 4 = true ∧ s.mem.wf = true ∧
      reaches s ⟨.load, 4, 4, false, true⟩ (indexedEa s 4 5 0 1 0 2) 0x2004 = true ∧
      reaches s ⟨.store, 8, 8, false, true⟩ (shortEa s 4 0 0 0 1) 0x2000 = true ∧
      interrupted { s with psw := 0xA } ⟨.store, 8, 8, false, true⟩
        (shortEa { s with psw := 0xA } 4 0 0 0 1) 15 = true) ∧
    ((4 : BitVec 3) ≠ 0 ∧ (4 : BitVec 3) ≠ 1 ∧ (4 : BitVec 3) ≠ 2 ∧ 4 ≤ (4 : BitVec 3).toNat) ∧
    ¬ ((1 : BitVec 22) = 0 ∧ (0 : BitVec 1) = 0 ∧ 4 ≤ (4 : BitVec 3).toNat) ∧
    (∀ regs, Config.coprRaises 4 1 0 0 regs = true ∨ Config.coprRaises 4 1 0 0 regs = false) ∧
    (∀ st r regs, Config.coprSendRaises 4 st r regs = true ∨ Config.coprSendRaises 4 st r regs = false) :=
  ⟨by decide +kernel, by decide +kernel, by decide, by decide,
    fun _ => Bool.eq_false_or_eq_true _, fun _ _ _ => Bool.eq_false_or_eq_true _⟩

/-- The unit disabled; the last register that exists and the first that does not; breakpoints on loads and
on stores that hit, miss and are disabled. -/
theorem witness_MonitorAndDebugUnit :
    { start [] with ccr := 0x20 }.ccrBit 2 = true ∧ (start []).ccrBit 2 = false ∧
    (start []).scrBit 1 = false ∧
    (let s := debugging [(2, 0x80), (3, 0x1000)];
      s.scrBit 1 = true ∧ 0 < s.cfg.dbgDreg ∧ s.cfg.dbgDreg ≤ 1 ∧ 0 < s.cfg.dbgIreg ∧ s.cfg.dbgIreg ≤ 1 ∧
      s.gr 2 &&& debugReserved s.cfg 0xC0000000#32 = 0#32 ∧
      s.gr 3 &&& debugReserved s.cfg 0x80000000#32 ≠ 0#32 ∧ s.pswG = false) ∧
    (let s := { debugging [] with
        psw := 0x48, dbaor := Vector.replicate 32 0x2000, dbamr := Vector.replicate 32 0x80000003
        ibaor := Vector.replicate 32 0x1000, ibamr := Vector.replicate 32 0x80000000 };
      s.hasDebug = true ∧ s.pswG = true ∧ s.pswY = false ∧ s.pswZ = false ∧
      (∀ j, j < 12 → (3 : Word).getLsbD j = true → (0x2000 : Word).getLsbD j = false) ∧
      s.dataBreakpoint .load 0x2003 = .hit ∧ s.dataBreakpoint .load 0x2004 = .none ∧
      s.dataBreakpoint .store 0x2003 = .none ∧ s.instrBreakpoint = .hit) := by
  decide +kernel

end Sys2Proof.Tests
end

/-! ### Bits: masks, fields and word addresses -/

section
namespace Sys2Proof.Machine

/-- A bit of a field, counted from the right as `BitVec` does. -/
theorem getLsbD_field (w : Word) (i n k : Nat) (hin : i + n ≤ 32) (hk : k < n) :
    (field w i n).getLsbD k = mbit w (i + n - 1 - k) := by
  unfold field mbit
  rw [BitVec.getLsbD_extractLsb', show 32 - i - n + k = 31 - (i + n - 1 - k) by omega]
  simp [hk]

/-- Two words have no common bit exactly when no manual bit is 1 in both. -/
theorem and_eq_zero_iff_mbit (v r : Word) :
    v &&& r = 0#32 ↔ ∀ i, i < 32 → mbit r i = true → mbit v i = false := by
  constructor
  · intro h i _ hr
    have bit := congrArg (fun w : Word => mbit w i) h
    simp only [mbit, BitVec.getLsbD_and, BitVec.getLsbD_zero] at bit hr ⊢
    simpa [hr] using bit
  · intro h
    refine BitVec.eq_of_getLsbD_eq fun k hk => ?_
    have bit := h (31 - k) (by omega)
    simp only [mbit, show 31 - (31 - k) = k by omega] at bit
    rw [BitVec.getLsbD_and, BitVec.getLsbD_zero]
    cases hr : r.getLsbD k
    · simp
    · simp [bit hr]

/-- A word with its two rightmost bits cleared is the next lower multiple of four. -/
theorem toNat_and_not_three (w : Word) : (w &&& ~~~3#32).toNat = w.toNat / 4 * 4 := by
  have shifted : w &&& ~~~3#32 = (w >>> 2) <<< 2 := by
    refine BitVec.eq_of_getLsbD_eq fun k hk => ?_
    have mask : (~~~3#32).getLsbD k = decide (2 ≤ k) := by
      interval_cases k <;> decide
    rw [BitVec.getLsbD_and, mask, BitVec.getLsbD_shiftLeft, BitVec.getLsbD_ushiftRight]
    by_cases h : k < 2
    · simp [h]
    · simp [h, hk, Nat.le_of_not_lt h]
  have := w.isLt
  rw [shifted, BitVec.toNat_shiftLeft, BitVec.toNat_ushiftRight, Nat.shiftLeft_eq,
    Nat.shiftRight_eq_div_pow]
  omega

/-- Where no bit of `r` changes to 1, a word without common bits with `r` stays so. -/
theorem and_eq_zero_mono {v w r : Word} (h : v &&& r = 0#32)
    (bits : ∀ i, i < 32 → mbit r i = true → mbit w i = true → mbit v i = true) : w &&& r = 0#32 := by
  rw [and_eq_zero_iff_mbit] at h ⊢
  intro i hi hr
  have clear := h i hi hr
  by_contra set
  exact absurd (bits i hi hr (by simpa using set)) (by simp [clear])

/-- The manual bits that some implementation reserves in the PSW. -/
theorem mbit_pswReserved {c : Config} {i : Nat} (hi : i < 32) (h : mbit (pswReserved c) i = true) :
    i ≤ 5 ∨ 24 ≤ i ∧ i ≤ 26 := by
  have within : pswReserved c &&& ~~~0xFC0000E0#32 = 0#32 := by
    unfold pswReserved
    split_ifs <;> decide
  have clear := (and_eq_zero_iff_mbit _ _).1 ((BitVec.and_comm _ _).trans within) i hi h
  revert clear
  interval_cases i <;> decide

/-- PSW E is reserved only where it does not exist. -/
theorem mbit_pswReserved_five (c : Config) : mbit (pswReserved c) 5 = !c.hasPswE := by
  unfold pswReserved
  cases c.hasPswE <;> split_ifs <;> simp_all <;> decide

end Sys2Proof.Machine
end

/-! ### The fields that the invariant speaks of -/

section
namespace Sys2Proof.Machine

/-- The fields that the invariant speaks of. -/
structure Guarded where
  cfg : Config
  mem : Memory
  psw : Word
  ipsw : Word
  iva : Word
  ccr : BitVec 8
  scr : BitVec 8
  pid1 : Word
  pid2 : Word
  pid3 : Word
  pid4 : Word

/-- The guarded fields of a state. -/
def State.guarded (s : State) : Guarded :=
  ⟨s.cfg, s.mem, s.psw, s.ipsw, s.iva, s.ccr, s.scr, s.pid1, s.pid2, s.pid3, s.pid4⟩

/-- The invariant looks at the guarded fields only. -/
theorem State.Inv.congr {s t : State} (h : s.Inv) (e : t.guarded = s.guarded) : t.Inv := by
  simp only [State.guarded, Guarded.mk.injEq] at e
  obtain ⟨cfg, mem, psw, ipsw, iva, ccr, scr, pid1, pid2, pid3, pid4⟩ := e
  exact
    { config := by rw [cfg]; exact h.config
      memory := by rw [mem]; exact h.memory
      psw := by rw [cfg, psw]; exact h.psw
      ipsw := by rw [cfg, ipsw]; exact h.ipsw
      iva := by rw [iva]; exact h.iva
      ccr := by rw [cfg, ccr]; exact h.ccr
      scr := by rw [cfg, scr]; exact h.scr
      pid1 := by rw [cfg, pid1]; exact h.pid1
      pid2 := by rw [cfg, pid2]; exact h.pid2
      pid3 := by rw [cfg, pid3]; exact h.pid3
      pid4 := by rw [cfg, pid4]; exact h.pid4 }

/-- Another PSW with the reserved bits 0 (R49). -/
theorem State.Inv.with_psw {s t : State} (h : s.Inv) (psw : t.psw &&& pswReserved s.cfg = 0#32)
    (e : t.guarded = { s.guarded with psw := t.psw }) : t.Inv :=
  State.Inv.congr (s := { s with psw := t.psw })
    ⟨h.config, h.memory, psw, h.ipsw, h.iva, h.ccr, h.scr, h.pid1, h.pid2, h.pid3, h.pid4⟩ e

/-- Another IPSW with the reserved bits 0 (R49). -/
theorem State.Inv.with_ipsw {s t : State} (h : s.Inv) (ipsw : t.ipsw &&& pswReserved s.cfg = 0#32)
    (e : t.guarded = { s.guarded with ipsw := t.ipsw }) : t.Inv :=
  State.Inv.congr (s := { s with ipsw := t.ipsw })
    ⟨h.config, h.memory, h.psw, ipsw, h.iva, h.ccr, h.scr, h.pid1, h.pid2, h.pid3, h.pid4⟩ e

/-- Another canonical memory. -/
theorem State.Inv.with_mem {s t : State} (h : s.Inv) (mem : t.mem.wf = true)
    (e : t.guarded = { s.guarded with mem := t.mem }) : t.Inv :=
  State.Inv.congr (s := { s with mem := t.mem })
    ⟨h.config, mem, h.psw, h.ipsw, h.iva, h.ccr, h.scr, h.pid1, h.pid2, h.pid3, h.pid4⟩ e

/-! ### Updates that leave the guarded fields alone -/

@[simp] theorem State.guarded_setGr (s : State) (r : Reg) (v : Word) :
    (s.setGr r v).guarded = s.guarded := by
  unfold State.setGr; split <;> rfl

@[simp] theorem State.guarded_setSr (s : State) (r : BitVec 3) (v : Word) :
    (s.setSr r v).guarded = s.guarded := by
  unfold State.setSr; split <;> rfl

@[simp] theorem State.guarded_modifyBase (s : State) (b : Reg) (base : Option Word) :
    (s.modifyBase b base).guarded = s.guarded := by
  cases base
  · rfl
  · exact State.guarded_setGr s b _

@[simp] theorem State.guarded_setTlb (s : State) (instr : Bool) (l : List (Option TlbEntry)) :
    (s.setTlb instr l).guarded = s.guarded := by
  unfold State.setTlb; split <;> rfl

@[simp] theorem State.guarded_setFpr (s : State) (n : Reg) (v : Dword) :
    (s.setFpr n v).guarded = s.guarded := rfl

@[simp] theorem State.guarded_setFpHalf (s : State) (n : Reg) (half : Bool) (v : Word) :
    (s.setFpHalf n half v).guarded = s.guarded := rfl

@[simp] theorem State.guarded_setFpsr (s : State) (v : Word) :
    (s.setFpsr v).guarded = s.guarded := rfl

@[simp] theorem State.guarded_setCprFile (s : State) (uid : BitVec 3) (v : Vector Dword 32) :
    (s.setCprFile uid v).guarded = s.guarded := rfl

@[simp] theorem State.guarded_unrely (s : State) : s.unrely.guarded = s.guarded := rfl

@[simp] theorem State.guarded_count (s s0 : State) : (s.count s0).guarded = s.guarded := by
  unfold State.count; split <;> rfl

@[simp] theorem State.guarded_drawWord (s : State) : s.drawWord.2.guarded = s.guarded := rfl

@[simp] theorem State.guarded_drawBit (s : State) : s.drawBit.2.guarded = s.guarded := rfl

@[simp] theorem State.guarded_restoreShadows (s : State) : s.restoreShadows.guarded = s.guarded := by
  have loaded : ∀ (u : State) (v : Vector Word 7) (n : Nat),
      { u with shr := v, draws := n }.guarded = u.guarded := fun _ _ _ => rfl
  unfold State.restoreShadows
  simp only [loaded, State.guarded_setGr]

@[simp] theorem State.guarded_endIdentify (s : State) : s.endIdentify.guarded = s.guarded := by
  rw [endIdentify_frame]; rfl

@[simp] theorem State.guarded_runTimer (s : State) : s.runTimer.guarded = s.guarded := by
  rw [runTimer_frame]; rfl

@[simp] theorem State.guarded_takeInput (s : State) : s.takeInput.guarded = s.guarded := by
  unfold State.takeInput; split <;> rfl

@[simp] theorem guarded_clearPending (n : Nat) (s : State) : (clearPending n s).guarded = s.guarded := rfl

/-- A translation leaves the guarded fields alone. -/
theorem SameButTlb.guarded {s s' : State} (h : SameButTlb s s') : s'.guarded = s.guarded := by
  obtain ⟨_, _, _, _, rfl⟩ := h.exists
  rfl

/-! Floating-point registers -/

@[simp] theorem State.guarded_fpWrite (s : State) (r : FpReg) (f : FpFmt) (v : Nat) :
    (s.fpWrite r f v).guarded = s.guarded := by
  cases f <;> rfl

@[simp] theorem State.guarded_fpLose (s : State) (sources dest : List (Reg × Bool)) :
    (s.fpLose sources dest).guarded = s.guarded := by
  induction dest generalizing s with
  | nil => rfl
  | cons w rest ih =>
    unfold State.fpLose
    split
    · exact ih s
    · rw [ih]; rfl

@[simp] theorem State.guarded_fpRecord (s : State) (code : BitVec 6) :
    (s.fpRecord code).guarded = s.guarded := rfl

@[simp] theorem State.guarded_fpFinish (s : State) (unimp : BitVec 6) (sources : List (Reg × Bool))
    (t : FpReg) (f : FpFmt) (o : FpOutcome) :
    (s.fpFinish unimp sources t f o).guarded = s.guarded := by
  cases o with
  | result bits flags code =>
    unfold State.fpFinish
    dsimp only
    split <;> simp
  | preserved code => simp [State.fpFinish]
  | unimplemented => simp [State.fpFinish]

@[simp] theorem State.guarded_fpComparison (s : State) (f : FpFmt) (c : BitVec 5) (a b : Nat) :
    (s.fpComparison f c a b).guarded = s.guarded := by
  unfold State.fpComparison
  split_ifs <;> simp

/-! The free choice of a condition -/

@[simp] theorem State.guarded_logicCond (s : State) (c : BitVec 3) (f : BitVec 1) (res : Word) :
    (s.logicCond c f res).2.guarded = s.guarded := by
  unfold State.logicCond; split <;> rfl

@[simp] theorem State.guarded_unitCond (s : State) (c : BitVec 3) (f : BitVec 1) (res : Word)
    (cy : BitVec 8) : (s.unitCond c f res cy).2.guarded = s.guarded := by
  unfold State.unitCond; split <;> rfl

@[simp] theorem State.guarded_xorCond (s : State) (c : BitVec 3) (f : BitVec 1) (res : Word) :
    (s.xorCond c f res).2.guarded = s.guarded := by
  unfold State.xorCond
  split
  · exact State.guarded_unitCond s c f res _
  · rfl

@[simp] theorem State.guarded_shiftCond (s : State) (c : BitVec 3) (f : BitVec 1) (sh : Shifted)
    (full plain : Sum) : (s.shiftCond c f sh full plain).2.guarded = s.guarded := by
  unfold State.shiftCond; split <;> rfl

@[simp] theorem State.guarded_bitCond (s : State) (c : BitVec 3) (bit : Bool) :
    (s.bitCond c bit).2.guarded = s.guarded := by
  unfold State.bitCond; split_ifs <;> rfl

/-! ### Updates that write a guarded field -/

theorem inv_storeBytes {s : State} (h : s.Inv) (a : Nat) (bs : List Byte) : (s.storeBytes a bs).Inv :=
  h.with_mem (State.storeBytes_wf a bs h.memory) rfl

/-- C/B is no reserved field. -/
theorem inv_setCB {s : State} (h : s.Inv) (cb : BitVec 8) : (s.setCB cb).Inv := by
  refine h.with_psw (and_eq_zero_mono h.psw fun i hi hr set => ?_) rfl
  have := mbit_pswReserved hi hr
  rwa [State.setCB, mbit_setField _ _ _ _ _ (by omega) hi, if_neg (by omega)] at set

/-- V is no reserved bit. -/
theorem inv_setV {s : State} (h : s.Inv) (v : Bool) : (s.setV v).Inv := by
  refine h.with_psw (and_eq_zero_mono h.psw fun i hi hr set => ?_) rfl
  have := mbit_pswReserved hi hr
  rwa [State.setV, mbit_setMbit _ _ _ _ (by omega) hi, if_neg (by omega)] at set

/-- The PSW of a completed instruction: N and B are no reserved bits (R79). -/
theorem inv_advance {s : State} (h : s.Inv) (nullify : Bool) (target : Option Target) :
    (s.advance nullify target).Inv := by
  refine h.with_psw (and_eq_zero_mono h.psw fun i hi hr set => ?_) rfl
  have := mbit_pswReserved hi hr
  change mbit (donePsw s.psw nullify target.isSome) i = true at set
  rw [mbit_donePsw _ _ _ _ hi, if_neg (by omega), if_neg (by omega)] at set
  split_ifs at set
  exact set

/-- The PSW at entry: E is 0 where it does not exist (R53, R930). -/
theorem entryPsw_reserved (s : State) (n : Nat) : entryPsw s n &&& pswReserved s.cfg = 0#32 := by
  rw [and_eq_zero_iff_mbit]
  intro i hi hr
  have := mbit_pswReserved hi hr
  rw [entryPsw, mbit_setMbit _ _ _ _ (by omega) hi, mbit_setMbit _ _ _ _ (by omega) hi,
    if_neg (by omega)]
  split
  · subst i
    rw [mbit_pswReserved_five] at hr
    simp_all
  · simp [mbit]

theorem inv_take {s : State} (h : s.Inv) (n : Nat) (p : IntParams) : (take n p s).Inv :=
  have saved : State.Inv { s with ipsw := s.psw } := h.with_ipsw h.psw rfl
  saved.with_psw (t := take n p s) (entryPsw_reserved s n) rfl

theorem inv_group4 {s : State} (h : s.Inv) (s0 : State) (lower taken : Bool) :
    (group4 s0 s lower taken).Inv := by
  unfold group4
  dsimp only
  split_ifs
  · exact inv_take h _ _
  · exact inv_take h _ _
  · exact inv_take h _ _
  · exact h

theorem inv_complete {s : State} (h : s.Inv) (s0 : State) (nullify : Bool) (target : Option Target) :
    (complete s0 s nullify target).Inv :=
  inv_group4 (inv_advance (h.congr (State.guarded_count s s0)) nullify target) s0 true target.isSome

/-- The IPSW, whose reserved bits are 0, becomes the PSW (R632). -/
theorem inv_returnFromInterruption {s : State} (h : s.Inv) : (returnFromInterruption s).Inv := by
  unfold returnFromInterruption
  dsimp only
  split
  · exact h.with_psw h.ipsw rfl
  · exact h.with_psw h.ipsw rfl

theorem inv_completeReturn {s : State} (h : s.Inv) (s0 : State) : (completeReturn s0 s).Inv :=
  inv_group4 (inv_returnFromInterruption (h.congr (State.guarded_count s s0))) s0 false false

/-- The free value that the IPSW becomes has zeros in the reserved bits (R40). -/
theorem inv_loseInterruptionState {s : State} (h : s.Inv) : s.loseInterruptionState.Inv := by
  refine h.with_ipsw ((and_eq_zero_iff_mbit _ _).2 fun i hi hr => ?_) rfl
  have masked : ∀ x r : Word, mbit r i = true → mbit (x &&& ~~~r) i = false := by
    intro x r hr
    simp_all [mbit]
  exact masked _ _ hr

end Sys2Proof.Machine
end

/-! ### The instruction fetch and its translation -/

section
namespace Sys2Proof.Machine

/-- The byte address of the current instruction is a word address (R171). -/
theorem fetchOffset_toNat (s : State) : s.fetchOffset.toNat = s.iaoqFront.toNat / 4 * 4 :=
  toNat_and_not_three s.iaoqFront

/-- The word at an address that reaches storage (R165). -/
theorem fetchAt_backed {s s' : State} {a : Word} (memory : isIo a = false)
    (stored : backed s.cfg a.toNat 4 = true) :
    fetchAt s a s' = .ok (s', s.mem.word s.pswE a.toNat) := by
  simp [fetchAt, memory, stored]

theorem fetchAt_ok {s t s' : State} {a w : Word} (h : fetchAt s a t = .ok (s', w)) : s' = t := by
  unfold fetchAt at h
  split_ifs at h
  cases h
  rfl

/-- A fetch at an absolute address: the instruction breakpoints, then the word (R165, R892). -/
def State.fetchFrom (s : State) (a : Word) (s' : State) : Check (State × Word) :=
  match s.instrBreakpoint with
  | .undefined => .refused .debugMask
  | .hit => .trap 30
  | .none => fetchAt s a s'

theorem fetchFrom_clear {s : State} (clear : s.instrBreakpoint = .none) (a : Word) (s' : State) :
    s.fetchFrom a s' = fetchAt s a s' := by
  simp only [State.fetchFrom, clear]

theorem fetchFrom_hit {s : State} (hit : s.instrBreakpoint = .hit) (a : Word) (s' : State) :
    s.fetchFrom a s' = .trap 30 := by
  simp only [State.fetchFrom, hit]

theorem fetchFrom_undefined {s : State} (undefined : s.instrBreakpoint = .undefined) (a : Word)
    (s' : State) : s.fetchFrom a s' = .refused .debugMask := by
  simp only [State.fetchFrom, undefined]

theorem fetchFrom_ok {s t s' : State} {a w : Word} (h : s.fetchFrom a t = .ok (s', w)) : s' = t := by
  unfold State.fetchFrom at h
  split at h
  · cases h
  · cases h
  · exact fetchAt_ok h

theorem fetch_absolute {s : State} (hC : s.pswC = false) : s.fetch = s.fetchFrom s.fetchOffset s := by
  unfold State.fetch
  rw [hC]
  rfl

/-- Translation exists above Level 0 and the debug unit in Level 0 only, so that a translated fetch meets no
instruction breakpoint (R61, D20). -/
theorem instrBreakpoint_of_pswC {s : State} (hC : s.pswC = true) : s.instrBreakpoint = .none := by
  have above : s.level0 = false := by
    simp only [State.pswC, Bool.and_eq_true, Bool.not_eq_true'] at hC
    exact hC.2
  simp [State.instrBreakpoint, State.hasDebug, above]

theorem fetch_miss {s : State} (hC : s.pswC = true)
    (miss : s.unrely.translate true s.iasqFront s.fetchOffset = none) : s.fetch = .trap 6 := by
  simp only [State.fetch, hC, if_true, miss]

/-- A translated fetch: the access rights and the protection identifiers, the U-bit of a combined TLB, then
the word (R211, U39). -/
theorem fetch_translated {s s' : State} {e : TlbEntry} (hC : s.pswC = true)
    (found : s.unrely.translate true s.iasqFront s.fetchOffset = some (e, s')) :
    s.fetch =
      if !executeAllowed e s.priv.toNat ∨ (s.pswP ∧ !s.pidCheck e false) then .trap 7
      else if s.cfg.tlbCombined ∧ s.cfg.hasTlbU ∧ e.u then .refused .fetchUncacheable
      else fetchAt s (absoluteOf e s.fetchOffset) s' := by
  simp only [State.fetch, hC, if_true, found, instrBreakpoint_of_pswC hC]

/-- What a successful fetch leaves of the state (R211). -/
theorem fetch_frame {s s' : State} {w : Word} (h : s.fetch = .ok (s', w)) : SameButTlb s s' := by
  cases hC : s.pswC with
  | false =>
    rw [fetch_absolute hC] at h
    rw [fetchFrom_ok h]
    exact sameButTlb_refl s
  | true =>
    cases found : s.unrely.translate true s.iasqFront s.fetchOffset with
    | none =>
      rw [fetch_miss hC found] at h
      cases h
    | some answer =>
      rw [fetch_translated hC found] at h
      split_ifs at h
      rw [fetchAt_ok h]
      exact (unrely_frame s).trans (translate_frame found)

/-- What an insertion writes: the TLBs and the counter of free values. -/
theorem tlbInsert_eq (s : State) (instr : Bool) (e : TlbEntry) :
    s.tlbInsert instr e = { s with
      itlb := (s.tlbInsert instr e).itlb, dtlb := (s.tlbInsert instr e).dtlb
      draws := (s.tlbInsert instr e).draws } := by
  unfold State.tlbInsert State.setTlb
  split <;> rfl

/-- A translation keeps the state, or inserts what the hardware handler found (R182, R183). -/
theorem translate_cases {s s' : State} {instr : Bool} {space offset : Word} {e : TlbEntry}
    (h : s.translate instr space offset = some (e, s')) :
    s' = s ∨ s.cfg.hwTlbMiss = true ∧ ∃ entry, s' = s.tlbInsert instr entry := by
  unfold State.translate at h
  split at h
  · cases h
    exact .inl rfl
  · split at h
    · rename_i hw
      split at h
      · cases h
        exact .inr ⟨hw, _, rfl⟩
      · cases h
    · cases h

/-- What is left by a reference that may have missed. -/
theorem walked_cases (s : State) (instr : Bool) (space offset : Word) :
    s.walked instr space offset = s ∨
      s.cfg.hwTlbMiss = true ∧ ∃ entry, s.walked instr space offset = s.tlbInsert instr entry := by
  unfold State.walked
  split
  · rename_i translated
    exact translate_cases translated
  · exact .inl rfl

theorem walked_eq (s : State) (instr : Bool) (space offset : Word) :
    let u := s.walked instr space offset
    u = { s with itlb := u.itlb, dtlb := u.dtlb, draws := u.draws } := by
  dsimp only
  rcases walked_cases s instr space offset with same | ⟨-, entry, inserted⟩
  · rw [same]
  · rw [inserted]
    exact tlbInsert_eq s instr entry

/-- An interruption of the fetch is taken with no parameters in the state that the translation leaves. -/
theorem runInstruction_fetch_trap {s : State} {n : Nat} (h : s.fetch = .trap n) :
    runInstruction s = .next (take n .none s.fetchWalked) := by
  simp only [runInstruction, h]

theorem fetchWalked_absolute {s : State} (hC : s.pswC = false) : s.fetchWalked = s := by
  simp [State.fetchWalked, hC]

theorem fetchWalked_translated {s : State} (hC : s.pswC = true) :
    s.fetchWalked = s.unrely.walked true s.iasqFront s.fetchOffset := by
  simp [State.fetchWalked, hC]

end Sys2Proof.Machine
end

/-! ### Outcomes that keep the invariant -/

section
namespace Sys2Proof.Machine

/-- The next state of an outcome, where there is one, meets the invariant. -/
def KeepsInv (o : Out) : Prop := ∀ t, o = .next t → t.Inv

theorem keepsInv_next {t : State} (h : t.Inv) : KeepsInv (.next t) := by
  rintro _ ⟨⟩
  exact h

theorem keepsInv_refused (r : Refusal) : KeepsInv (.refused r) := by
  rintro _ ⟨⟩

theorem keepsInv_fault (f : Fault) : KeepsInv (.fault f) := by
  rintro _ ⟨⟩

theorem keepsInv_ite {c : Prop} [Decidable c] {a b : Out} (ha : KeepsInv a) (hb : KeepsInv b) :
    KeepsInv (if c then a else b) := by
  split
  · exact ha
  · exact hb

theorem keepsInv_trapInstr {s : State} (h : s.Inv) (n : Nat) : KeepsInv (trapInstr n s) :=
  keepsInv_next (inv_take h n _)

theorem keepsInv_trapUndefined {s : State} (h : s.Inv) : KeepsInv (trapUndefined s) :=
  keepsInv_trapInstr (h.congr s.guarded_unrely) 8

theorem keepsInv_privileged {s : State} {act : Out} (h : s.Inv) (k : KeepsInv act) :
    KeepsInv (privileged s act) :=
  keepsInv_ite k (keepsInv_trapInstr h 10)

theorem keepsInv_done {s0 s1 : State} (h : s1.Inv) : KeepsInv (done s0 s1) :=
  keepsInv_next (inv_complete h s0 false none)

theorem keepsInv_doneNullify {s0 s1 : State} (h : s1.Inv) (nullify : Bool) :
    KeepsInv (doneNullify s0 s1 nullify) :=
  keepsInv_next (inv_complete h s0 nullify none)

/-- The completion of an instruction that writes no guarded field. -/
theorem keepsInv_done_congr {s0 s s1 : State} (h : s.Inv) (e : s1.guarded = s.guarded) :
    KeepsInv (done s0 s1) :=
  keepsInv_done (h.congr e)

/-! ### Arithmetic, logical, shift and branch instructions -/

theorem keepsInv_finishSum {s : State} (h : s.Inv) (t : Reg) (x : Sum) (cond : Bool) :
    KeepsInv (finishSum s t x cond) :=
  keepsInv_doneNullify (inv_setCB (h.congr (s.guarded_setGr t x.res)) x.cb) cond

theorem keepsInv_finishSumO {s : State} (h : s.Inv) (t : Reg) (x : Sum) (cond : Bool) :
    KeepsInv (finishSumO s t x cond) :=
  keepsInv_ite (keepsInv_trapInstr h 12) (keepsInv_finishSum h t x cond)

theorem keepsInv_finishSumT {s : State} (h : s.Inv) (t : Reg) (x : Sum) (cond : Bool) :
    KeepsInv (finishSumT s t x cond) :=
  keepsInv_ite (keepsInv_trapInstr h 13)
    (keepsInv_done (inv_setCB (h.congr (s.guarded_setGr t x.res)) x.cb))

theorem keepsInv_finishWord {s0 s u : State} (h : s.Inv) (e : u.guarded = s.guarded) (t : Reg) (res : Word)
    (cond : Bool) : KeepsInv (finishWord s0 u t res cond) :=
  keepsInv_doneNullify (h.congr ((u.guarded_setGr t res).trans e)) cond

theorem keepsInv_finishShift {s : State} (h : s.Inv) (c : BitVec 3) (f : BitVec 1) (n : Nat)
    (a b : Word) {k : State → Sum → Bool → Out} (hk : ∀ u x cond, u.Inv → KeepsInv (k u x cond)) :
    KeepsInv (finishShift s c f n a b k) :=
  hk _ _ _ (h.congr (s.guarded_shiftCond c f _ _ _))

/-- SH1ADD, SH2ADD and SH3ADD. -/
theorem keepsInv_shiftSum {s : State} (h : s.Inv) (c : BitVec 3) (f : BitVec 1) (n : Nat) (a b : Word)
    (t : Reg) :
    KeepsInv (finishShift s c f n a b fun free x cond =>
      doneNullify s ((free.setGr t x.res).setCB x.cb) cond) :=
  keepsInv_finishShift h c f n a b fun u x cond hu =>
    keepsInv_doneNullify (inv_setCB (hu.congr (u.guarded_setGr t x.res)) x.cb) cond

/-- SH1ADDL, SH2ADDL and SH3ADDL. -/
theorem keepsInv_shiftWord {s : State} (h : s.Inv) (c : BitVec 3) (f : BitVec 1) (n : Nat) (a b : Word)
    (t : Reg) :
    KeepsInv (finishShift s c f n a b fun free x cond => finishWord s free t x.res cond) :=
  keepsInv_finishShift h c f n a b fun _ x cond hu => keepsInv_finishWord hu rfl t x.res cond

/-- SH1ADDO, SH2ADDO and SH3ADDO. -/
theorem keepsInv_shiftSumO {s : State} (h : s.Inv) (c : BitVec 3) (f : BitVec 1) (n : Nat) (a b : Word)
    (t : Reg) :
    KeepsInv (finishShift s c f n a b fun free x cond =>
      if x.sv then trapInstr 12 s else doneNullify s ((free.setGr t x.res).setCB x.cb) cond) :=
  keepsInv_finishShift h c f n a b fun u x cond hu =>
    keepsInv_ite (keepsInv_trapInstr h 12)
      (keepsInv_doneNullify (inv_setCB (hu.congr (u.guarded_setGr t x.res)) x.cb) cond)

theorem keepsInv_divideStep {s : State} (h : s.Inv) (r2 r1 : Reg) (c : BitVec 3) (f : BitVec 1)
    (t : Reg) : KeepsInv (execDs r2 r1 c f t s) :=
  keepsInv_doneNullify
    (inv_setV (inv_setCB
      (h.congr ((State.guarded_setGr _ t _).trans (s.guarded_shiftCond c f _ _ _))) _) _) _

theorem keepsInv_unitTrap {s : State} (h : s.Inv) (r2 r1 : Reg) (c : BitVec 3) (f : BitVec 1)
    (t : Reg) : KeepsInv (execUaddcmt r2 r1 c f t s) :=
  have free := h.congr (s.guarded_unitCond c f _ _)
  keepsInv_ite (keepsInv_trapInstr free 13) (keepsInv_done_congr free (State.guarded_setGr _ t _))

theorem keepsInv_finishField {s : State} (h : s.Inv) (t : Reg) (c : BitVec 3) (res : Word) :
    KeepsInv (finishField s t c res) :=
  keepsInv_doneNullify (h.congr (s.guarded_setGr t res)) _

theorem keepsInv_finishFixed {s : State} (h : s.Inv) (t : Reg) (c : BitVec 3) (pos len : Nat)
    (res : Word) : KeepsInv (finishFixed s t c pos len res) :=
  keepsInv_ite (keepsInv_finishField h t c res)
    (keepsInv_doneNullify (h.congr (State.guarded_setGr { s with draws := s.draws + 1 } t _)) _)

theorem keepsInv_jump {s s1 : State} (h : s.Inv) (e : s1.guarded = s.guarded) (n : BitVec 1)
    (target : Target) : KeepsInv (jump s s1 n target) :=
  keepsInv_next (inv_complete (h.congr e) s _ _)

theorem keepsInv_branchIf {s s1 : State} (h : s.Inv) (e : s1.guarded = s.guarded) (taken : Bool)
    (w1 : BitVec 11) (n w : BitVec 1) : KeepsInv (branchIf s s1 taken w1 n w) :=
  keepsInv_next (inv_complete (h.congr e) s _ _)

/-! ### Memory reference instructions -/

/-- The interruption of a data reference. -/
theorem keepsInv_trapReference {s : State} (h : s.Inv) (n : Nat) (ref : DataRef)
    (space offset report : Word) : KeepsInv (trapReference n s ref space offset report) :=
  keepsInv_next (inv_take (h.congr (referenceWalked_frame s n ref space offset).guarded) n _)

/-- A data reference keeps the invariant when what follows its checks does. -/
theorem keepsInv_accessAs {s : State} (h : s.Inv) (ref : DataRef) (space offset report : Word)
    {k : State → Nat → Out} (hk : ∀ u a, u.Inv → KeepsInv (k u a)) :
    KeepsInv (s.accessAs ref space offset report k) := by
  unfold State.accessAs
  split
  · rename_i checked
    exact hk _ _ (h.congr (dataCheck_frame checked).guarded)
  · exact keepsInv_trapReference h _ ref space offset report
  · exact keepsInv_refused _
  · exact keepsInv_fault _

theorem keepsInv_load {s : State} (h : s.Inv) (ref : DataRef) (ea : Ea) (b t : Reg)
    (value : State → Nat → Word) : KeepsInv (load s ref ea b t value) :=
  keepsInv_accessAs h ref _ _ _ fun u a hu => keepsInv_done_congr hu (by simp)

theorem keepsInv_store {s : State} (h : s.Inv) (ref : DataRef) (ea : Ea) (b : Reg) (bytes : List Byte) :
    KeepsInv (store s ref ea b bytes) :=
  keepsInv_accessAs h ref _ _ _ fun _ a hu =>
    keepsInv_done_congr (inv_storeBytes hu a bytes) (State.guarded_modifyBase _ b _)

theorem keepsInv_loadAndClear {s : State} (h : s.Inv) (ea : Ea) (b t : Reg) :
    KeepsInv (loadAndClear s ea b t) :=
  keepsInv_accessAs h _ _ _ _ fun u a hu =>
    keepsInv_done_congr (inv_storeBytes hu a (u.wordOf 0#32)) (by simp)

theorem keepsInv_storeBytes {s : State} (h : s.Inv) (b r : Reg) (sf : BitVec 2) (a : BitVec 1)
    (cc : BitVec 2) (m : BitVec 1) (im5 : BitVec 5) : KeepsInv (execStbys b r sf a cc m im5 s) :=
  keepsInv_accessAs h _ _ _ _ fun _ addr hu =>
    keepsInv_done_congr (inv_storeBytes hu (addr + _) _) (State.guarded_modifyBase _ b _)

/-! ### Floating-point instructions -/

theorem keepsInv_fpEnable {s : State} {emulate act : Out} (he : KeepsInv emulate) (ha : KeepsInv act) :
    KeepsInv (fpEnable s emulate act) :=
  keepsInv_ite (keepsInv_refused _) (keepsInv_ite ha he)

theorem keepsInv_fpStart {s : State} {act : Out} (h : s.Inv) (ha : KeepsInv act) :
    KeepsInv (fpStart s act) :=
  keepsInv_fpEnable (keepsInv_trapInstr h 22)
    (keepsInv_ite (keepsInv_trapInstr h 14) (keepsInv_ite (keepsInv_refused _) ha))

theorem keepsInv_fpOperation {s : State} {act : State → Out} (h : s.Inv)
    (ha : ∀ u, u.Inv → KeepsInv (act u)) : KeepsInv (fpOperation s act) :=
  keepsInv_fpStart h (ha _ (h.congr s.guarded_endIdentify))

theorem keepsInv_fpUnary {s : State} (h : s.Inv) (op : FpOp) (unimp : BitVec 6) (sf df : Option FpFmt)
    (r t : FpReg) (compute : Word → FpFmt → FpFmt → Nat → FpOutcome) :
    KeepsInv (fpUnary s op unimp sf df r t compute) := by
  refine keepsInv_fpOperation h fun u hu => ?_
  split
  · exact keepsInv_ite (keepsInv_done_congr hu (State.guarded_fpFinish _ _ _ _ _ _))
      (keepsInv_refused _)
  · exact keepsInv_refused _

theorem keepsInv_fpBinary {s : State} (h : s.Inv) (op : FpOp) (unimp : BitVec 6) (fmt : Option FpFmt)
    (r1 r2 t : FpReg) (compute : Word → FpFmt → Nat → Nat → FpOutcome) :
    KeepsInv (fpBinary s op unimp fmt r1 r2 t compute) := by
  refine keepsInv_fpOperation h fun u hu => ?_
  split
  · exact keepsInv_ite (keepsInv_done_congr hu (State.guarded_fpFinish _ _ _ _ _ _))
      (keepsInv_refused _)
  · exact keepsInv_refused _

theorem keepsInv_fpCompareOp {s : State} (h : s.Inv) (unimp : BitVec 6) (fmt : Option FpFmt)
    (r1 r2 : FpReg) (c : BitVec 5) : KeepsInv (fpCompareOp s unimp fmt r1 r2 c) := by
  refine keepsInv_fpOperation h fun u hu => ?_
  split
  · exact keepsInv_ite (keepsInv_done_congr hu (by split <;> simp)) (keepsInv_refused _)
  · exact keepsInv_refused _

theorem keepsInv_ftest {s : State} (h : s.Inv) (c : BitVec 5) : KeepsInv (execFtest c s) := by
  refine keepsInv_fpOperation h fun u hu => ?_
  split
  · exact keepsInv_doneNullify hu _
  · exact keepsInv_doneNullify (hu.congr u.guarded_drawBit) _

theorem keepsInv_xmpyu {s : State} (h : s.Inv) (r1 r2 : Reg) (r2_h r1_h : BitVec 1) (t : Reg) :
    KeepsInv (execXmpyu r1 r2 r2_h r1_h t s) :=
  keepsInv_fpOperation h fun _ hu =>
    keepsInv_ite (keepsInv_done_congr hu (State.guarded_fpFinish _ _ _ _ _ _)) (keepsInv_refused _)

theorem keepsInv_fpMultiple {s : State} (h : s.Inv) (op : FpOp) (unimp : BitVec 6)
    (rm1 rm2 ta ra : Reg) (f : BitVec 1) (tm : Reg) (second : Word → FpFmt → Nat → Nat → FpOutcome) :
    KeepsInv (fpMultiple s op unimp rm1 rm2 ta ra f tm second) := by
  unfold fpMultiple
  refine keepsInv_fpOperation h fun u hu => ?_
  have whole : ∀ sources dest, KeepsInv (done s ((u.fpLose sources dest).fpRecord unimp)) :=
    fun _ _ => keepsInv_done_congr hu (by simp)
  refine keepsInv_ite (keepsInv_refused _) (keepsInv_ite ?_ (keepsInv_refused _))
  refine keepsInv_ite (whole _ _) ?_
  split
  · exact keepsInv_done_congr hu (by simp)
  · exact whole _ _

/-- An assist emulation trap of a coprocessor load or store. -/
theorem keepsInv_emulateReference {s : State} (h : s.Inv) (ref : DataRef) (space offset : Word) :
    KeepsInv (emulateReference s ref space offset) := by
  have trap := fun n => keepsInv_trapReference h n ref space offset offset
  unfold emulateReference
  dsimp only
  split
  · exact trap 22
  · exact trap _
  · exact trap 22
  · split
    · exact keepsInv_refused _
    · exact trap 31
    · exact trap 22
  · exact keepsInv_refused _
  · exact trap 22

theorem keepsInv_fpReference {s : State} (h : s.Inv) (ref : DataRef) (ea : Ea) (armed refuse : Bool)
    {k : State → Nat → Out} (hk : ∀ u a, u.Inv → KeepsInv (k u a)) :
    KeepsInv (fpReference s ref ea armed refuse k) :=
  keepsInv_fpEnable (keepsInv_emulateReference h ref _ _)
    (keepsInv_ite (keepsInv_trapInstr h 14)
      (keepsInv_ite (keepsInv_refused _) (keepsInv_accessAs h ref _ _ _ hk)))

theorem keepsInv_fpLoadWord {s : State} (h : s.Inv) (ea : Ea) (b : Reg) (t : FpReg) :
    KeepsInv (fpLoadWord s ea b t) :=
  keepsInv_fpReference h _ ea _ _ fun _ _ hu =>
    keepsInv_ite (keepsInv_refused _) (keepsInv_done_congr hu (by simp))

theorem keepsInv_fpStoreWord {s : State} (h : s.Inv) (ea : Ea) (b : Reg) (r : FpReg) :
    KeepsInv (fpStoreWord s ea b r) :=
  keepsInv_fpReference h _ ea _ _ fun u a hu =>
    keepsInv_done_congr (inv_storeBytes (hu.congr u.guarded_endIdentify) a _)
      (State.guarded_modifyBase _ b _)

theorem keepsInv_fpLoadDword {s : State} (h : s.Inv) (ea : Ea) (b t : Reg) :
    KeepsInv (fpLoadDword s ea b t) :=
  keepsInv_fpReference h _ ea _ _ fun _ _ hu => keepsInv_done_congr hu (by simp)

theorem inv_fpStoreZero {s : State} (h : s.Inv) (a : Nat) : (s.fpStoreZero a).Inv :=
  (inv_storeBytes h a _).congr rfl

theorem keepsInv_fpStoreDword {s : State} (h : s.Inv) (ea : Ea) (b r : Reg) :
    KeepsInv (fpStoreDword s ea b r) :=
  keepsInv_fpReference h _ ea _ _ fun u a hu =>
    keepsInv_ite
      (keepsInv_done_congr (inv_fpStoreZero hu a) (State.guarded_modifyBase _ b _))
      (keepsInv_done_congr (inv_storeBytes (hu.congr u.guarded_endIdentify) a _)
        (State.guarded_modifyBase _ b _))

/-! ### Assist instructions -/

theorem keepsInv_sfuGate {s : State} {act : Out} (h : s.Inv) (sfu : BitVec 3) (ha : KeepsInv act) :
    KeepsInv (sfuGate s sfu act) :=
  keepsInv_ite (keepsInv_trapInstr h 22) (keepsInv_ite (keepsInv_trapUndefined h) ha)

theorem keepsInv_sfuOperation {s : State} (h : s.Inv) (sfu : BitVec 3) (form sop : Nat) (n : BitVec 1)
    (a b : Word) (mayRaise : Bool) {finish : Word → State → State}
    (hf : ∀ w u, (finish w u).guarded = u.guarded) :
    KeepsInv (sfuOperation s sfu form sop n a b mayRaise finish) :=
  keepsInv_sfuGate h sfu
    (keepsInv_ite (keepsInv_trapInstr h 14)
      (keepsInv_doneNullify (h.congr (hf _ { s with sfuStates := writeReg8 s.sfuStates sfu _ })) _))

theorem keepsInv_spop1 {s : State} (h : s.Inv) (sop : BitVec 15) (sfu : BitVec 3) (n : BitVec 1)
    (t : Reg) : KeepsInv (execSpop1 sop sfu n t s) :=
  keepsInv_ite
    (keepsInv_sfuGate h sfu (keepsInv_done_congr h (State.guarded_setGr _ t _)))
    (keepsInv_sfuOperation h sfu _ _ n _ _ _ fun w u => u.guarded_setGr t w)

theorem keepsInv_fpNoInstruction {s : State} (h : s.Inv) (reserved : Bool) :
    KeepsInv (fpNoInstruction s reserved) :=
  keepsInv_fpStart h (keepsInv_ite (keepsInv_trapInstr h 14) (keepsInv_trapUndefined h))

theorem keepsInv_coprOperation {s : State} (h : s.Inv) (uid : BitVec 3) (sop : BitVec 22)
    (n : BitVec 1) : KeepsInv (coprOperation s uid sop n) :=
  keepsInv_ite (keepsInv_done_congr h (s.guarded_setCprFile uid _))
    (keepsInv_ite (keepsInv_trapInstr h 14)
      (keepsInv_doneNullify (h.congr (s.guarded_setCprFile uid _)) _))

theorem keepsInv_copr {s : State} (h : s.Inv) (sop1 : BitVec 17) (uid : BitVec 3) (n : BitVec 1)
    (sop2 : BitVec 5) : KeepsInv (execCopr sop1 uid n sop2 s) :=
  keepsInv_ite (keepsInv_fpNoInstruction h _)
    (keepsInv_ite (keepsInv_fpEnable (keepsInv_trapInstr h 22) (keepsInv_refused _))
      (keepsInv_ite (keepsInv_trapInstr h 22)
        (keepsInv_ite (keepsInv_trapUndefined h) (keepsInv_coprOperation h uid _ n))))

theorem keepsInv_coprReference {s : State} (h : s.Inv) (ref : DataRef) (ea : Ea) (uid : BitVec 3)
    (reg : Reg) (isStore : Bool) {k : State → Nat → Out} (hk : ∀ u a, u.Inv → KeepsInv (k u a)) :
    KeepsInv (coprReference s ref ea uid reg isStore k) :=
  have emulate := keepsInv_emulateReference h ref ea.space ea.offset
  keepsInv_ite (keepsInv_fpEnable emulate (keepsInv_refused _))
    (keepsInv_ite emulate
      (keepsInv_ite (keepsInv_refused _)
        (keepsInv_ite (keepsInv_trapInstr h 14)
          (keepsInv_accessAs h ref _ _ _ fun u a hu =>
            hk _ a (hu.congr (u.guarded_setCprFile uid _))))))

theorem keepsInv_coprLoad {s : State} (h : s.Inv) (n : Nat) (ea : Ea) (uid : BitVec 3) (b t : Reg)
    (value : State → Nat → Dword) : KeepsInv (coprLoad s n ea uid b t value) :=
  keepsInv_coprReference h _ ea uid t false fun _ _ hu => keepsInv_done_congr hu (by simp)

theorem keepsInv_coprStore {s : State} (h : s.Inv) (n : Nat) (ea : Ea) (uid : BitVec 3) (b r : Reg)
    (bytes : State → Dword → List Byte) : KeepsInv (coprStore s n ea uid b r bytes) :=
  keepsInv_coprReference h _ ea uid r true fun _ a hu =>
    keepsInv_done_congr (inv_storeBytes hu a _) (State.guarded_modifyBase _ b _)

theorem keepsInv_perfmon {s : State} (h : s.Inv) (enabled : Bool) : KeepsInv (perfmon s enabled) :=
  keepsInv_ite (keepsInv_done_congr h rfl) (keepsInv_trapInstr h 22)

theorem keepsInv_debugUnit {s : State} {act : Out} (h : s.Inv) (ha : KeepsInv act) :
    KeepsInv (debugUnit s act) :=
  keepsInv_ite ha (keepsInv_trapInstr h 22)

theorem keepsInv_fromDebug {s : State} (h : s.Inv) (count r : BitVec 5) (file : Vector Word 32)
    (t : Reg) : KeepsInv (fromDebug s count r file t) :=
  keepsInv_debugUnit h
    (keepsInv_ite (keepsInv_done_congr h (s.guarded_setGr t _)) (keepsInv_refused _))

theorem keepsInv_toDebug {s s1 : State} (h : s.Inv) (e : s1.guarded = s.guarded) (count t : BitVec 5)
    (reserved value : Word) : KeepsInv (toDebug s count t reserved value s1) :=
  keepsInv_debugUnit h
    (keepsInv_ite (keepsInv_refused _)
      (keepsInv_ite (keepsInv_refused _) (keepsInv_done_congr h e)))

end Sys2Proof.Machine
end

/-! ### System control instructions -/

section
namespace Sys2Proof.Machine

/-- The PSW with a system mask whose ones are ones of the old mask, or written to no reserved bit. -/
theorem maskedPsw_reserved {s : State} (h : s.Inv) {new written : BitVec 7}
    (ones : ∀ k, k < 7 → new.getLsbD k = true → s.mask.getLsbD k = true ∨ written.getLsbD k = true)
    (allowed : zeroExt written &&& pswReserved s.cfg = 0#32) :
    s.maskedPsw new &&& pswReserved s.cfg = 0#32 := by
  refine and_eq_zero_mono h.psw fun i hi hr set => ?_
  rw [State.maskedPsw, mbit_setField _ _ _ _ _ (by omega) hi] at set
  split at set
  · rename_i range
    rcases ones _ (by omega) set with old | wrote
    · rw [State.mask, getLsbD_field _ _ _ _ (by omega) (by omega)] at old
      rwa [show 25 + 7 - 1 - (25 + 7 - 1 - i) = i by omega] at old
    · have clear := (and_eq_zero_iff_mbit _ _).1 allowed i hi hr
      rw [mbit, zeroExt, BitVec.getLsbD_setWidth] at clear
      rw [show 25 + 7 - 1 - i = 31 - i by omega] at wrote
      have : ¬ 32 ≤ 31 - i := by omega
      simp_all
  · exact set

theorem inv_setMask {s : State} (h : s.Inv) {new : BitVec 7}
    (free : s.maskedPsw new &&& pswReserved s.cfg = 0#32) : (s.setMask new).Inv := by
  have masked : State.Inv { s with psw := s.maskedPsw new } := h.with_psw free rfl
  unfold State.setMask
  dsimp only
  split
  · exact inv_loseInterruptionState masked
  · exact masked

/-- The checks of SSM and MTSM leave the ones written to no reserved bit. -/
theorem keepsInv_checkMask {s : State} {new written : BitVec 7} {act : Out}
    (ha : zeroExt written &&& pswReserved s.cfg = 0#32 → KeepsInv act) :
    KeepsInv (s.checkMask new written act) := by
  unfold State.checkMask
  split
  · exact keepsInv_refused _
  · split
    · exact keepsInv_refused _
    · rename_i allowed
      exact ha (not_not.1 allowed)

theorem keepsInv_ssm {s : State} (h : s.Inv) (i : BitVec 7) (t : Reg) : KeepsInv (execSsm i t s) := by
  refine keepsInv_privileged h (keepsInv_checkMask fun allowed => ?_)
  have free : s.maskedPsw (s.mask ||| i) &&& pswReserved s.cfg = 0#32 :=
    maskedPsw_reserved h (fun k _ set => by simpa using set) allowed
  exact keepsInv_done_congr (inv_setMask h free) (State.guarded_setGr _ t _)

theorem keepsInv_rsm {s : State} (h : s.Inv) (i : BitVec 7) (t : Reg) : KeepsInv (execRsm i t s) := by
  have free : s.maskedPsw (s.mask &&& ~~~i) &&& pswReserved s.cfg = 0#32 :=
    maskedPsw_reserved (written := 0#7) h
      (fun k _ set => by
        rw [BitVec.getLsbD_and, Bool.and_eq_true] at set
        exact .inl set.1)
      (by simp [zeroExt])
  exact keepsInv_privileged h (keepsInv_done_congr (inv_setMask h free) (State.guarded_setGr _ t _))

theorem keepsInv_mtsm {s : State} (h : s.Inv) (r : Reg) : KeepsInv (execMtsm r s) :=
  keepsInv_privileged h (keepsInv_checkMask fun allowed =>
    keepsInv_done (inv_setMask h (maskedPsw_reserved h (fun _ _ set => .inr set) allowed)))

theorem keepsInv_mtsp {s : State} (h : s.Inv) (r : Reg) (sp : BitVec 3) : KeepsInv (execMtsp r sp s) :=
  keepsInv_ite (keepsInv_trapInstr h 11) (keepsInv_done_congr h (s.guarded_setSr _ _))

/-- A word cut down to the implemented bits has no others. -/
theorem and_and_not {n : Nat} (v m : BitVec n) : (v &&& m) &&& ~~~m = 0#n := by
  simp [BitVec.and_assoc]

/-- A permitted write of a control register: IVA and IPSW get zeros in their reserved bits (R91, R49), the
configuration registers and the protection identifiers are cut down to the implemented bits (R87, U23). -/
theorem inv_setCr {s : State} (h : s.Inv) (n : Nat) (v : Word)
    (iva : n = 14 → v &&& 0x7FF#32 = 0#32) (ipsw : n = 22 → v &&& pswReserved s.cfg = 0#32) :
    (s.setCr n v).Inv := by
  unfold State.setCr
  -- The cases by name are CR 8, 9, 10, 12, 13, 14 and 22; no other register is guarded.
  split
  case h_2 => exact { h with pid1 := and_and_not v _ }
  case h_3 => exact { h with pid2 := and_and_not v _ }
  case h_4 => exact { h with scr := and_and_not _ _, ccr := and_and_not _ _ }
  case h_6 => exact { h with pid3 := and_and_not v _ }
  case h_7 => exact { h with pid4 := and_and_not v _ }
  case h_8 => exact { h with iva := iva rfl }
  case h_13 => exact { h with ipsw := ipsw rfl }
  all_goals exact h.congr rfl

/-- The low 11 bits of an interruption vector address. -/
theorem and_low_eleven {v : Word} (h : field v 21 11 = 0#11) : v &&& 0x7FF#32 = 0#32 := by
  rw [and_eq_zero_iff_mbit]
  intro i hi hr
  have low : 21 ≤ i := by
    revert hr
    interval_cases i <;> decide
  have bit := getLsbD_field v 21 11 (31 - i) (by omega) (by omega)
  rw [h, BitVec.getLsbD_zero, show 21 + 11 - 1 - (31 - i) = i by omega] at bit
  exact bit.symm

theorem keepsInv_mtctl {s : State} (h : s.Inv) (t r : Reg) : KeepsInv (execMtctl t r s) := by
  unfold execMtctl
  dsimp only
  refine keepsInv_ite (keepsInv_done h) (keepsInv_ite (keepsInv_trapInstr h 11) ?_)
  refine keepsInv_ite (keepsInv_refused _) (keepsInv_ite (keepsInv_refused _) ?_)
  refine keepsInv_ite (keepsInv_refused _) (keepsInv_ite (keepsInv_refused _) ?_)
  split
  · exact keepsInv_refused _
  · split
    · exact keepsInv_refused _
    · rename_i iva ipsw
      refine keepsInv_done (inv_setCr h _ _ (fun n => and_low_eleven ?_) fun n => ?_)
      · exact not_not.1 fun ne => iva ⟨n, ne⟩
      · exact not_not.1 fun ne => ipsw ⟨n, ne⟩

theorem keepsInv_mfctl {s : State} (h : s.Inv) (r t : Reg) : KeepsInv (execMfctl r t s) :=
  have free : KeepsInv (done s (s.drawWord.2.setGr t s.drawWord.1)) :=
    keepsInv_done_congr (h.congr s.guarded_drawWord) (State.guarded_setGr _ t _)
  have read := fun v => keepsInv_done_congr (s0 := s) h (s.guarded_setGr t v)
  keepsInv_ite (read _)
    (keepsInv_ite (keepsInv_trapInstr h 11)
      (keepsInv_ite free (keepsInv_ite free (keepsInv_ite free (read _)))))

/-- A translation by an instruction that makes no access keeps the invariant when what follows does. -/
theorem keepsInv_nonAccess {s s0 : State} (h : s.Inv) (h0 : s0.Inv) (instr : Bool) (n : Nat)
    (space offset : Word) {k : TlbEntry → State → Out} (hk : ∀ e u, u.Inv → KeepsInv (k e u)) :
    KeepsInv (nonAccess s s0 instr n space offset k) := by
  unfold nonAccess
  split
  · rename_i translated
    exact hk _ _ (h0.congr (translate_frame translated).guarded)
  · exact keepsInv_next (inv_take h n _)

theorem keepsInv_tlbOperation {s : State} {act : Out} (h : s.Inv) (ha : KeepsInv act) :
    KeepsInv (tlbOperation s act) :=
  keepsInv_ite (keepsInv_done h) (keepsInv_privileged h ha)

theorem inv_unrely {s : State} (h : s.Inv) : s.unrely.Inv := h.congr s.guarded_unrely

theorem keepsInv_probe {s : State} (h : s.Inv) (b : Reg) (sf : BitVec 2) (t : Reg) (write : Bool)
    (pl : BitVec 2) : KeepsInv (probe s b sf t write pl) :=
  keepsInv_ite (keepsInv_done_congr h (s.guarded_setGr t _))
    (keepsInv_nonAccess h (inv_unrely h) _ _ _ _ fun _ u hu =>
      keepsInv_done_congr hu (u.guarded_setGr t _))

theorem keepsInv_lpa {s : State} (h : s.Inv) (b x : Reg) (sf : BitVec 2) (m : BitVec 1) (t : Reg) :
    KeepsInv (execLpa b x sf m t s) :=
  keepsInv_ite (keepsInv_trapUndefined h)
    (keepsInv_privileged h (keepsInv_nonAccess h h _ _ _ _ fun _ _ hu =>
      keepsInv_done_congr hu (by simp)))

theorem keepsInv_lci {s : State} (h : s.Inv) (b x : Reg) (sf : BitVec 2) (t : Reg) :
    KeepsInv (execLci b x sf t s) :=
  keepsInv_ite (keepsInv_trapUndefined h)
    (keepsInv_privileged h (keepsInv_done_congr (inv_unrely h) (State.guarded_setGr _ t _)))

theorem keepsInv_purge {s : State} (h : s.Inv) (instr : Bool) (ea : Ea) (b : Reg) :
    KeepsInv (purge s instr ea b) :=
  keepsInv_tlbOperation h (keepsInv_done_congr h (by simp))

theorem keepsInv_purgeSlot {s : State} (h : s.Inv) (instr : Bool) (ea : Ea) (b : Reg) :
    KeepsInv (purgeSlot s instr ea b) :=
  have drawn : State.Inv { s.unrely with draws := s.draws + 1 } := h.congr rfl
  keepsInv_tlbOperation h (keepsInv_done_congr drawn (by simp))

theorem keepsInv_insertAddress {s : State} (h : s.Inv) (instr : Bool) (space offset data : Word) :
    KeepsInv (insertAddress s instr space offset data) :=
  keepsInv_tlbOperation h (keepsInv_done_congr (inv_unrely h) (tlbInsert_frame _ instr _).guarded)

theorem keepsInv_insertProtection {s : State} (h : s.Inv) (instr : Bool) (space offset data : Word) :
    KeepsInv (insertProtection s instr space offset data) :=
  keepsInv_tlbOperation h (keepsInv_done_congr (inv_unrely h) (State.guarded_setTlb _ instr _))

theorem keepsInv_flush {s : State} (h : s.Inv) (instr : Bool) (n : Nat) (ea : Ea) (b : Reg) :
    KeepsInv (flush s instr n ea b) :=
  have finish : ∀ (u : State) (a : Word), u.Inv →
      KeepsInv (if isIo a then .refused .uncacheable else done s (u.modifyBase b ea.base)) :=
    fun u _ hu => keepsInv_ite (keepsInv_refused _) (keepsInv_done_congr hu (u.guarded_modifyBase b _))
  keepsInv_ite (keepsInv_nonAccess h (inv_unrely h) _ _ _ _ fun _ u hu => finish u _ hu)
    (finish _ _ (inv_unrely h))

theorem keepsInv_flushEntry {s : State} (h : s.Inv) (b : Reg) (base : Option Word) :
    KeepsInv (done s (s.unrely.modifyBase b base)) :=
  keepsInv_done_congr (inv_unrely h) (State.guarded_modifyBase _ b base)

theorem keepsInv_diag {s : State} (h : s.Inv) (im26 : BitVec 26) : KeepsInv (execDiag im26 s) := by
  refine keepsInv_privileged h ?_
  split
  · exact keepsInv_done (inv_unrely h)
  · exact keepsInv_trapUndefined h

end Sys2Proof.Machine
end

/-! ### Every instruction and every step -/

section
namespace Sys2Proof.Machine

/-- Every instruction keeps the invariant. -/
theorem keepsInv_exec {s : State} (h : s.Inv) (i : Instr) : KeepsInv (exec i s) := by
  cases i with dsimp only [exec]
  | ldw | ldh | ldb | ldwm | ldwx | ldhx | ldbx | ldws | ldhs | ldbs =>
    exact keepsInv_load h _ _ _ _ _
  | ldwax | ldwas => exact keepsInv_privileged h (keepsInv_load h _ _ _ _ _)
  | stw | sth | stb | stwm | stws | sths | stbs => exact keepsInv_store h _ _ _ _
  | stwas => exact keepsInv_privileged h (keepsInv_store h _ _ _ _)
  | ldcwx | ldcws => exact keepsInv_loadAndClear h _ _ _
  | stbys b r sf a cc m im5 => exact keepsInv_storeBytes h b r sf a cc m im5
  | ldo | ldil | addil => exact keepsInv_done_congr h (s.guarded_setGr _ _)
  | bl | blr => exact keepsInv_jump h (s.guarded_setGr _ _) _ _
  | gate => exact keepsInv_ite (keepsInv_trapInstr h 8) (keepsInv_jump h (s.guarded_setGr _ _) _ _)
  | bv => exact keepsInv_jump h rfl _ _
  | be => exact keepsInv_jump (s1 := { s with draws := s.draws + 1 }) h rfl _ _
  | ble =>
    refine keepsInv_jump h ?_ _ _
    simp [State.guarded]
  | movb | movib | addbt | addbf | addibt | addibf =>
    exact keepsInv_branchIf h (s.guarded_setGr _ _) _ _ _ _
  | combt | combf | comibt | comibf => exact keepsInv_branchIf h rfl _ _ _ _
  | bvb | bb => exact keepsInv_branchIf h (s.guarded_bitCond _ _) _ _ _ _
  | add | addc | sub | subb | addi | subi => exact keepsInv_finishSum h _ _ _
  | addo | addco | subo | subbo | addio | subio => exact keepsInv_finishSumO h _ _ _
  | subt | addit => exact keepsInv_finishSumT h _ _ _
  | subto | addito => exact keepsInv_ite (keepsInv_trapInstr h 12) (keepsInv_finishSumT h _ _ _)
  | addl | comclr | comiclr => exact keepsInv_finishWord h rfl _ _ _
  | sh1add | sh2add | sh3add => exact keepsInv_shiftSum h _ _ _ _ _ _
  | sh1addl | sh2addl | sh3addl => exact keepsInv_shiftWord h _ _ _ _ _ _
  | sh1addo | sh2addo | sh3addo => exact keepsInv_shiftSumO h _ _ _ _ _ _
  | ds => exact keepsInv_divideStep h _ _ _ _ _
  | or | xor | and | andcm => exact keepsInv_finishWord h (s.guarded_logicCond _ _ _) _ _ _
  | uxor => exact keepsInv_finishWord h (s.guarded_xorCond _ _ _) _ _ _
  | uaddcm | dcor | idcor => exact keepsInv_finishWord h (s.guarded_unitCond _ _ _ _) _ _ _
  | uaddcmt => exact keepsInv_unitTrap h _ _ _ _ _
  | vshd | shd | vextru | vextrs | zvdep | vdep | zvdepi | vdepi => exact keepsInv_finishField h _ _ _
  | extru | extrs | zdep | dep | zdepi | depi => exact keepsInv_finishFixed h _ _ _ _ _
  | breakTrap => exact keepsInv_trapInstr h 9
  | sync | syncdma => exact keepsInv_done h
  | rfi => exact keepsInv_privileged h (keepsInv_next (inv_completeReturn h s))
  | rfir =>
    exact keepsInv_privileged h
      (keepsInv_next (inv_completeReturn (h.congr s.guarded_restoreShadows) s))
  | ssm => exact keepsInv_ssm h _ _
  | rsm => exact keepsInv_rsm h _ _
  | mtsm => exact keepsInv_mtsm h _
  | ldsid | mfsp => exact keepsInv_done_congr h (s.guarded_setGr _ _)
  | mtsp => exact keepsInv_mtsp h _ _
  | mtctl => exact keepsInv_mtctl h _ _
  | mfctl => exact keepsInv_mfctl h _ _
  | idtlba | iitlba => exact keepsInv_insertAddress h _ _ _ _
  | idtlbp | iitlbp => exact keepsInv_insertProtection h _ _ _ _
  | pdtlb | pitlb => exact keepsInv_purge h _ _ _
  | pdtlbe | pitlbe => exact keepsInv_purgeSlot h _ _ _
  | fdc | pdc => exact keepsInv_flush h _ _ _ _
  | fic => exact keepsInv_ite (keepsInv_flush h _ _ _ _) (keepsInv_flush h _ _ _ _)
  | fdce | fice => exact keepsInv_flushEntry h _ _
  | prober | proberi | probew | probewi => exact keepsInv_probe h _ _ _ _ _
  | lpa => exact keepsInv_lpa h _ _ _ _ _
  | lci => exact keepsInv_lci h _ _ _ _
  | diag im26 => exact keepsInv_diag h im26
  | spop0 | spop2 | spop3 =>
    exact keepsInv_sfuOperation (finish := fun _ u => u) h _ _ _ _ _ _ _ fun _ _ => rfl
  | spop1 => exact keepsInv_spop1 h _ _ _ _
  | copr => exact keepsInv_copr h _ _ _ _
  | cldwx | clddx | cldws | cldds => exact keepsInv_coprLoad h _ _ _ _ _ _
  | cstwx | cstdx | cstws | cstds => exact keepsInv_coprStore h _ _ _ _ _ _
  | fldwx | fldws => exact keepsInv_fpLoadWord h _ _ _
  | fstwx | fstws => exact keepsInv_fpStoreWord h _ _ _
  | flddx | fldds => exact keepsInv_fpLoadDword h _ _ _
  | fstdx | fstds => exact keepsInv_fpStoreDword h _ _ _
  | copr00 => exact keepsInv_fpStart h (keepsInv_done_congr h rfl)
  | fcpy | fcpy0E | fabs | fabs0E | fsqrt | fsqrt0E | frnd | frnd0E | fcnvff | fcnvff0E | fcnvxf
  | fcnvxf0E | fcnvfx | fcnvfx0E | fcnvfxt | fcnvfxt0E => exact keepsInv_fpUnary h _ _ _ _ _ _ _
  | fcmp | fcmp0E => exact keepsInv_fpCompareOp h _ _ _ _ _
  | ftest => exact keepsInv_ftest h _
  | fadd | fadd0E | fsub | fsub0E | fmpy | fmpy0E | fdiv | fdiv0E =>
    exact keepsInv_fpBinary h _ _ _ _ _ _ _
  | xmpyu => exact keepsInv_xmpyu h _ _ _ _ _
  | fmpyadd | fmpysub => exact keepsInv_fpMultiple h _ _ _ _ _ _ _ _ _
  | pmdis | pmenb => exact keepsInv_perfmon h _
  | debugid => exact keepsInv_debugUnit h (keepsInv_done_congr h (s.guarded_setGr _ _))
  | mfdbao | mfdbam | mfibao | mfibam => exact keepsInv_fromDebug h _ _ _ _
  | mtdbao | mtdbam | mtibao | mtibam =>
    refine keepsInv_toDebug h ?_ _ _ _ _
    rfl

theorem keepsInv_runWord {s : State} (h : s.Inv) (w : Word) : KeepsInv (runWord s w) := by
  have fetched : State.Inv { s with iword := w } := h.congr rfl
  unfold runWord
  split
  · exact keepsInv_exec fetched _
  · exact keepsInv_ite (keepsInv_fpNoInstruction fetched _) (keepsInv_trapUndefined fetched)

theorem keepsInv_runInstruction {s : State} (h : s.Inv) : KeepsInv (runInstruction s) := by
  unfold runInstruction
  split
  · rename_i fetched
    exact keepsInv_runWord (h.congr (fetch_frame fetched).guarded) _
  · exact keepsInv_next (inv_take (h.congr (fetchWalked_frame s).guarded) _ _)
  · exact keepsInv_refused _
  · exact keepsInv_fault _

/-- What a step does, its inputs taken. -/
theorem keepsInv_act {s : State} (h : s.Inv) : KeepsInv (act s) := by
  unfold act
  split
  · exact keepsInv_next (inv_take (h.congr (guarded_clearPending _ s)) _ _)
  · have skipped : State.Inv { s with relied := s.reliedAfterSkip } := h.congr rfl
    exact keepsInv_ite (keepsInv_next (inv_group4 (inv_advance skipped false none) _ true false))
      (keepsInv_runInstruction h)

theorem keepsInv_elapse {o : Out} (h : KeepsInv o) : KeepsInv (elapse o) := by
  cases o with
  | next s => exact keepsInv_next ((h s rfl).congr s.guarded_runTimer)
  | fault f => exact keepsInv_fault f
  | refused r => exact keepsInv_refused r

theorem keepsInv_step {s : State} (h : s.Inv) : KeepsInv (step s) :=
  keepsInv_ite (keepsInv_fault _) (keepsInv_elapse (keepsInv_act (h.congr s.guarded_takeInput)))

/-- Settles O12: each operation keeps the invariant, so each instruction does, and so does the step. -/
theorem stepKeepsInvariant : Obligations.StepKeepsInvariant :=
  fun _ s' h e => keepsInv_step h s' e

end Sys2Proof.Machine
end

/-! ### The state after reset -/

section
namespace Sys2Proof.Machine

/-- PSW E is the default endian bit where it exists, and every other bit is 0 (R101). -/
theorem resetOf_psw (c : Config) (i : Nat) (hi : i < 32) :
    mbit (State.resetOf c).psw i = (i == 5 && c.hasPswE && c.defaultEndian) := by
  show mbit (if c.hasPswE && c.defaultEndian then 0x04000000#32 else 0#32) i = _
  rw [Bool.and_assoc]
  cases c.hasPswE && c.defaultEndian
  · simp [mbit]
  · revert i
    decide

/-- The reset state meets the invariant: E is the only bit of the PSW that can be 1, where it exists. -/
theorem inv_resetOf {c : Config} (valid : c.valid = true) : (State.resetOf c).Inv where
  config := valid
  memory := rfl
  psw := by
    rw [and_eq_zero_iff_mbit]
    intro i hi hr
    rw [resetOf_psw c i hi]
    by_cases five : i = 5
    · subst five
      rw [show (State.resetOf c).cfg = c from rfl, mbit_pswReserved_five] at hr
      simp_all
    · simp [five]
  ipsw := BitVec.zero_and
  iva := BitVec.zero_and
  ccr := BitVec.zero_and
  scr := BitVec.zero_and
  pid1 := BitVec.zero_and
  pid2 := BitVec.zero_and
  pid3 := BitVec.zero_and
  pid4 := BitVec.zero_and

/-- Settles O11: the defaults are parameters in the spec's ranges. -/
theorem resetMeetsInvariant : Obligations.ResetMeetsInvariant :=
  ⟨inv_resetOf (by decide), fun _ => inv_resetOf⟩

theorem resetOf_iaoqFront (c : Config) :
    (State.resetOf c).iaoqFront.toNat = c.resetIa.toNat / 4 * 4 :=
  toNat_and_not_three c.resetIa

/-- RESET_IA names a word, so the processor starts at privilege level 0. -/
theorem resetOf_priv (c : Config) : (State.resetOf c).priv = 0#2 := by
  have low := toNat_and_not_three c.resetIa
  apply BitVec.eq_of_toNat_eq
  show (BitVec.extractLsb' 0 2 (c.resetIa &&& ~~~3#32)).toNat = 0
  rw [BitVec.extractLsb'_toNat, low]
  omega

theorem resetOf_fprs (c : Config) (r : Reg) : readReg (State.resetOf c).fprs r = 0#64 :=
  Vector.getElem_replicate _

theorem resetOf_tlbs_empty (c : Config) (e : TlbEntry) :
    some e ∉ (State.resetOf c).itlb ∧ some e ∉ (State.resetOf c).dtlb := by
  simp [State.resetOf, List.mem_replicate]

/-- Nothing is pending, and EIRR is 0. -/
theorem resetOf_pendingInterruption (c : Config) : pendingInterruption (State.resetOf c) = none := by
  have nothing : mbit 0#32 0 = false := rfl
  simp [pendingInterruption, State.resetOf, nothing]

/-- Settles O10: the defaults are one choice of the parameters. -/
theorem resetState : Obligations.ResetState := by
  refine ⟨⟨rfl, resetOf_priv _, rfl, rfl, rfl, rfl, rfl, rfl, resetOf_fprs _, resetOf_tlbs_empty _,
    resetOf_pendingInterruption _⟩, fun c => ?_⟩
  exact ⟨rfl, resetOf_psw c, resetOf_priv c, resetOf_iaoqFront c, rfl, rfl, rfl, rfl, rfl, resetOf_fprs c,
    resetOf_tlbs_empty c, List.length_replicate, List.length_replicate, resetOf_pendingInterruption c⟩

end Sys2Proof.Machine
end

/-! ### The interval timer -/

section
namespace Sys2Proof.Machine

/-- One tick sets EIRR bit 0 on a match, and no other bit (R985). -/
theorem mbit_tick_eirr (s : State) (i : Nat) (hi : i < 32) :
    mbit s.tick.eirr i = true ↔ mbit s.eirr i = true ∨ i = 0 ∧ s.itmr + 1#32 = s.itmrCmp := by
  have top : mbit 0x80000000#32 i = decide (i = 0) := by
    revert i
    decide
  unfold State.tick
  by_cases hit : s.itmr + 1#32 = s.itmrCmp
  · simp only [hit, if_true, and_true]
    rw [mbit, BitVec.getLsbD_or, Bool.or_eq_true]
    rw [mbit] at top
    simp [top, mbit]
  · simp [hit]

theorem ticks_itmr (n : Nat) (s : State) : (s.ticks n).itmr = s.itmr + BitVec.ofNat 32 n := by
  induction n generalizing s with
  | zero => simp [State.ticks]
  | succ n ih =>
    calc (s.tick.ticks n).itmr = s.itmr + 1#32 + BitVec.ofNat 32 n := ih s.tick
      _ = s.itmr + BitVec.ofNat 32 (n + 1) := by
        rw [BitVec.add_assoc, ← BitVec.ofNat_add, Nat.add_comm 1 n]

/-- EIRR bit 0 after `n` ticks: set before, or the counter has passed through the comparator's value. -/
theorem mbit_ticks_eirr_zero (n : Nat) (s : State) :
    mbit (s.ticks n).eirr 0 = true ↔
      mbit s.eirr 0 = true ∨ ∃ k, 1 ≤ k ∧ k ≤ n ∧ s.itmr + BitVec.ofNat 32 k = s.itmrCmp := by
  induction n generalizing s with
  | zero =>
    have noTick : ¬ ∃ k, 1 ≤ k ∧ k ≤ 0 ∧ s.itmr + BitVec.ofNat 32 k = s.itmrCmp := by
      rintro ⟨k, one, zero, -⟩
      omega
    exact (or_iff_left noTick).symm
  | succ n ih =>
    have later : ∀ k, s.tick.itmr + BitVec.ofNat 32 k = s.itmr + BitVec.ofNat 32 (k + 1) := by
      intro k
      show s.itmr + 1#32 + _ = _
      rw [BitVec.add_assoc, ← BitVec.ofNat_add, Nat.add_comm 1 k]
    rw [State.ticks, ih, mbit_tick_eirr s 0 (by omega)]
    simp only [later, true_and]
    constructor
    · rintro ((before | now) | ⟨k, one, le, hit⟩)
      · exact .inl before
      · exact .inr ⟨1, by omega, by omega, now⟩
      · exact .inr ⟨k + 1, by omega, by omega, hit⟩
    · rintro (before | ⟨k, one, le, hit⟩)
      · exact .inl (.inl before)
      · obtain _ | _ | k := k
        · omega
        · exact .inl (.inr hit)
        · exact .inr ⟨k + 1, by omega, by omega, hit⟩

theorem mbit_ticks_eirr (n : Nat) (s : State) (i : Nat) (one : 1 ≤ i) (hi : i < 32) :
    mbit (s.ticks n).eirr i = mbit s.eirr i := by
  induction n generalizing s with
  | zero => rfl
  | succ n ih =>
    rw [State.ticks, ih, Bool.eq_iff_iff, mbit_tick_eirr s i hi]
    simp [show i ≠ 0 by omega]

/-- The number of ticks in one step (D5). -/
def State.ticksDue (s : State) : Nat := (s.itmrPhase + s.cfg.itmrNum) / (s.cfg.itmrDenPred + 1)

/-- Settles O9: the ticks by induction on their number, the step by the division of the phase by the
denominator of the rate. -/
theorem timerRequestsInterrupt : Obligations.TimerRequestsInterrupt := by
  refine ⟨fun s n _ => ⟨ticks_itmr n s, mbit_ticks_eirr_zero n s, mbit_ticks_eirr n s⟩,
    fun s valid phase => ?_⟩
  have rate : s.cfg.itmrNum ≤ 2 * (s.cfg.itmrDenPred + 1) := by
    simp only [Config.valid, Bool.and_eq_true, decide_eq_true_eq] at valid
    obtain ⟨⟨⟨_, upper⟩, _⟩, _⟩ := valid
    exact upper
  refine ⟨s.ticksDue, ?_, runTimer_frame s, ?_, ?_, ?_⟩
  · have below : s.ticksDue < 3 := (Nat.div_lt_iff_lt_mul (by omega)).2 (by omega)
    omega
  · exact Nat.mod_lt _ (by omega)
  · exact Nat.div_add_mod _ _
  · intro one
    show (s.itmrPhase + s.cfg.itmrNum) / (s.cfg.itmrDenPred + 1) = 1
    rw [one, Nat.add_div_right _ (by omega), Nat.div_eq_of_lt phase]

end Sys2Proof.Machine
end

/-! ### A nullified instruction -/

section
namespace Sys2Proof.Machine

/-- Skipping an instruction leaves the translation relied upon, or ends the reliance (R201). -/
theorem reliedAfterSkip_cases (s : State) : s.reliedAfterSkip = s.relied ∨ s.reliedAfterSkip = none := by
  have word : ∀ w, s.reliedAfterWord w = s.relied ∨ s.reliedAfterWord w = none := by
    intro w
    unfold State.reliedAfterWord
    split
    · split
      · exact .inl rfl
      · split
        · split
          · exact .inl rfl
          · exact .inr rfl
        · exact .inl rfl
        · exact .inl rfl
    · exact .inl rfl
  unfold State.reliedAfterSkip
  split
  · exact .inr rfl
  · split
    · split
      · exact word _
      · exact .inl rfl
      · exact .inl rfl
      · exact .inl rfl
    · exact .inl rfl

/-- With translation off, a skipped instruction leaves the reliance alone (R201). -/
theorem reliedAfterSkip_untranslated {s : State} (hC : s.pswC = false) (hD : s.pswD = false) :
    s.reliedAfterSkip = s.relied := by
  unfold State.reliedAfterSkip
  simp only [hC, hD, Bool.false_eq_true, or_false, if_false]
  split
  · rename_i nothing
    exact nothing.symm
  · rfl

/-- The PSW after a skipped instruction. -/
theorem advance_pswAfter (s : State) (nullify : Bool) (target : Option Target) :
    PswAfter s.psw (s.advance nullify target).psw nullify target.isSome s.pswCB s.pswV := by
  intro i hi
  show mbit (donePsw s.psw nullify target.isSome) i = _
  rw [mbit_donePsw _ _ _ _ hi, psw_same s i hi]
  split_ifs <;> first | rfl | omega

/-- The state after a skipped instruction, before the traps of group 4. -/
def State.skipped (s : State) : State := { s with relied := s.reliedAfterSkip }.advance false none

/-- A step that skips a nullified instruction (R80, R915). -/
theorem step_nullified {s : State} (running : machineCheckStop s.takeInput = false)
    (idle : pendingInterruption s.takeInput = none) (nullified : s.takeInput.pswN = true) :
    step s = .next (group4 s.takeInput s.takeInput.skipped true false).runTimer := by
  unfold step cycle act
  rw [running, idle]
  simp only [nullified]
  rfl

/-- Settles O7: the skip is the advance of the queues, with the reliance that R201 leaves. -/
theorem nullifiedIsSkipped : Obligations.NullifiedIsSkipped := by
  rintro s u rfl running idle nullified
  have skip := step_nullified running idle nullified
  refine ⟨s.takeInput.skipped, skip, fun calm => ?_, advance_pswAfter s.takeInput false none,
    reliedAfterSkip_cases _, reliedAfterSkip_untranslated, rfl⟩
  rw [skip, group4_calm calm]

end Sys2Proof.Machine
end

/-! ### The instruction fetch -/

section
namespace Sys2Proof.Machine

/-- Settles O5: an absolute fetch by its breakpoints, a translated one by what its translation answers. -/
theorem instructionFetch : Obligations.InstructionFetch := by
  refine ⟨fun s hC => ?_, fun s hC => ?_, fun s n trapped => ?_⟩
  · rw [fetch_absolute hC]
    refine ⟨fun hit => fetchFrom_hit hit _ _, fun undefined => fetchFrom_undefined undefined _ _,
      fun clear memory stored => ⟨fetchOffset_toNat s, _, ?_, rfl⟩⟩
    rw [fetchFrom_clear clear]
    exact fetchAt_backed memory stored
  · refine ⟨fetch_miss hC, fun e s' found => ⟨fun denied => ?_,
      fun rights pids cacheable memory stored => ?_⟩⟩
    · rw [fetch_translated hC found, if_pos]
      simpa using denied
    · have allowed : ¬ (!executeAllowed e s.priv.toNat ∨ (s.pswP ∧ !s.pidCheck e false)) := by
        rcases pids with off | pass
        · simp [rights, off]
        · simp [rights, pass]
      have fetchable : ¬ (s.cfg.tlbCombined ∧ s.cfg.hasTlbU ∧ e.u) := by
        rintro ⟨combined, hasU, u⟩
        simp [combined, hasU, u] at cacheable
      rw [fetch_translated hC found, if_neg allowed, if_neg fetchable]
      exact fetchAt_backed memory stored
  · refine ⟨s.fetchWalked, runInstruction_fetch_trap trapped, fetchWalked_absolute, fun hC => ?_⟩
    rw [fetchWalked_translated hC]
    refine ⟨fun miss => ?_, fun e s' found => ?_, walked_eq _ _ _ _, fun software => ?_⟩
    · exact congrArg (fun r => match r with | some (_, t) => t | none => s.unrely) miss
    · exact congrArg (fun r => match r with | some (_, t) => t | none => s.unrely) found
    · rcases walked_cases s.unrely true s.iasqFront s.fetchOffset with same | ⟨hw, -⟩
      · exact same
      · exact absurd hw (ne_true_of_eq_false software)

end Sys2Proof.Machine
end

/-! ### The system mask -/

section
namespace Sys2Proof.Machine

/-- A new system mask without clearing Q. -/
theorem setMask_keepsQ {s : State} {new : BitVec 7}
    (q : s.pswQ = true → mbit (s.maskedPsw new) 28 = true) :
    s.setMask new = { s with psw := s.maskedPsw new } := by
  unfold State.setMask
  dsimp only
  rw [if_neg]
  intro clears
  simp only [Bool.and_eq_true, Bool.not_eq_true'] at clears
  simp [q clears.1] at clears

/-- A new system mask that clears Q (U16). -/
theorem setMask_clearsQ {s : State} {new : BitVec 7} (was : s.pswQ = true)
    (cleared : mbit (s.maskedPsw new) 28 = false) :
    s.setMask new = { s with psw := s.maskedPsw new }.loseInterruptionState := by
  simp [State.setMask, was, cleared]

/-- The fields that a new system mask leaves alone and the completion of an instruction needs. -/
theorem setMask_fields (s : State) (new : BitVec 7) :
    (s.setMask new).grs = s.grs ∧ (s.setMask new).psw = s.maskedPsw new ∧
      (s.setMask new).iaoqBack = s.iaoqBack ∧ (s.setMask new).iasqBack = s.iasqBack := by
  unfold State.setMask
  dsimp only
  split <;> exact ⟨rfl, rfl, rfl, rfl⟩

/-- The flags lie outside the system mask. -/
theorem mbit_maskedPsw (s : State) (new : BitVec 7) (i : Nat) (hi : i < 32) :
    mbit (s.maskedPsw new) i = if i = 14 then s.pswV
      else if 16 ≤ i ∧ i ≤ 23 then s.pswCB.getLsbD (23 - i) else mbit (s.maskedPsw new) i := by
  by_cases inside : 25 ≤ i
  · rw [if_neg (by omega), if_neg (by omega)]
  · have outside : mbit (s.maskedPsw new) i = mbit s.psw i := by
      rw [State.maskedPsw, mbit_setField _ _ _ _ _ (by omega) hi, if_neg (by omega)]
    rw [outside]
    exact psw_same s i hi

/-- An instruction that leaves a new system mask completes. -/
theorem setMask_writes {s s1 : State} {new : BitVec 7} {regs : List (Reg × Word)}
    (grs : GrsAre s s1 regs) (psw : s1.psw = s.maskedPsw new) (rest : SameBut (s.setMask new) s1)
    (rctr : s1.rctr = (s.setMask new).rctr) (hf : s1.iaoqBack = s.iaoqBack)
    (hs : s1.iasqBack = s.iasqBack) : Writes (done s s1) s (s.setMask new) regs := by
  obtain ⟨-, base, -, -⟩ := setMask_fields s new
  exact complete_completes grs rest (by rw [psw, base]; exact mbit_maskedPsw s new) rctr hf hs

/-- SSM and RSM return the old mask. -/
theorem setMask_setGr_writes (s : State) (new : BitVec 7) (t : Reg) (v : Word) :
    Writes (done s ((s.setMask new).setGr t v)) s (s.setMask new) [(t, v)] := by
  obtain ⟨hg, hp, hf, hs⟩ := setMask_fields s new
  refine setMask_writes (fun r => ?_) (by simp [hp]) (sameBut_setGr t v (sameBut_refl _)) (by simp)
    (by simp [hf]) (by simp [hs])
  rw [State.gr_setGr, State.gr_congr hg, ← State.gr_setGr]
  exact grsAre_setGr t v r

/-- MTSM writes no general register. -/
theorem setMask_done_writes (s : State) (new : BitVec 7) :
    Writes (done s (s.setMask new)) s (s.setMask new) [] := by
  obtain ⟨hg, hp, hf, hs⟩ := setMask_fields s new
  exact setMask_writes (grsAre_congr hg (grsAre_refl s)) hp (sameBut_refl _) rfl hf hs

/-- A mask written has a 1 in a reserved bit of the PSW. -/
theorem zeroExt_reserved_iff (c : Config) (written : BitVec 7) :
    zeroExt written &&& pswReserved c ≠ 0#32 ↔
      ∃ k, k < 7 ∧ written.getLsbD k = true ∧ (pswReserved c).getLsbD k = true := by
  constructor
  · intro ne
    by_contra none
    refine ne (BitVec.eq_of_getLsbD_eq fun k _ => ?_)
    rw [zeroExt, BitVec.getLsbD_and, BitVec.getLsbD_setWidth, BitVec.getLsbD_zero]
    by_contra both
    simp only [Bool.and_eq_true, decide_eq_true_eq, Bool.not_eq_false] at both
    exact none ⟨k, BitVec.lt_of_getLsbD both.1.2, both.1.2, both.2⟩
  · rintro ⟨k, hk, wrote, reserved⟩ zero
    have bit := congrArg (fun w : Word => w.getLsbD k) zero
    simp only [zeroExt, BitVec.getLsbD_and, BitVec.getLsbD_setWidth, BitVec.getLsbD_zero, wrote,
      reserved, Bool.and_true, decide_eq_false_iff_not] at bit
    omega

/-- The outcome `o` of SSM or MTSM at privilege level 0, which write the ones of `written` and leave the
mask `new`: the undefined cases (U17, U1), then completion with Q kept or cleared. -/
theorem checkMask_outcomes {s s1 : State} {o : Out} {new written : BitVec 7} {regs : List (Reg × Word)}
    (run : o = s.checkMask new written (done s s1))
    (writes : Writes (done s s1) s (s.setMask new) regs) :
    (s.pswQ = false → mbit (s.maskedPsw new) 28 = true → o = .refused .setsQ) ∧
    ((s.pswQ = false → mbit (s.maskedPsw new) 28 = false) →
      ((∃ k, k < 7 ∧ written.getLsbD k = true ∧ (pswReserved s.cfg).getLsbD k = true) →
        o = .refused .reservedBits) ∧
      ((∀ k, k < 7 → written.getLsbD k = true → (pswReserved s.cfg).getLsbD k = false) →
        (s.pswQ = mbit (s.maskedPsw new) 28 → Writes o s { s with psw := s.maskedPsw new } regs) ∧
        (s.pswQ = true → mbit (s.maskedPsw new) 28 = false →
          Writes o s { s with psw := s.maskedPsw new }.loseInterruptionState regs))) := by
  subst run
  unfold State.checkMask
  refine ⟨fun off set => if_pos ⟨by simp [off], set⟩, fun keeps => ?_⟩
  have noSet : ¬ ((!s.pswQ) = true ∧ mbit (s.maskedPsw new) 28 = true) := by
    rintro ⟨off, set⟩
    rw [keeps (by simpa using off)] at set
    cases set
  rw [if_neg noSet]
  refine ⟨fun reserved => if_pos ((zeroExt_reserved_iff _ _).2 reserved), fun allowed => ?_⟩
  have clear : ¬ zeroExt written &&& pswReserved s.cfg ≠ 0#32 := by
    rw [zeroExt_reserved_iff]
    rintro ⟨k, hk, wrote, reserved⟩
    simp [allowed k hk wrote] at reserved
  rw [if_neg clear]
  refine ⟨fun same => ?_, fun was cleared => ?_⟩
  · rwa [setMask_keepsQ fun q => same ▸ q] at writes
  · rwa [setMask_clearsQ was cleared] at writes

/-- What only privilege level 0 may execute, there. -/
theorem privileged_zero {s : State} (h : s.priv = 0#2) (act : Out) : privileged s act = act := if_pos h

/-- Settles O39: SSM and MTSM by their common check, RSM by the two cases of Q. -/
theorem systemMask : Obligations.SystemMask := by
  intro s i t priv old new
  have ssm : exec (.ssm i t) s = _ := privileged_zero priv _
  have mtsm : exec (.mtsm t) s = _ := privileged_zero priv _
  have rsm : Writes (exec (.rsm i t) s) s (s.setMask (old &&& ~~~i)) [(t, zeroExt old)] := by
    rw [show exec (.rsm i t) s = _ from privileged_zero priv _]
    exact setMask_setGr_writes s _ t _
  refine ⟨fun p hp => ?_, fun keeps => ?_, fun was cleared => ?_⟩
  · rcases List.mem_pair.1 hp with rfl | rfl
    · exact checkMask_outcomes ssm (setMask_setGr_writes s _ t _)
    · exact checkMask_outcomes mtsm (setMask_done_writes s _)
  · rw [setMask_keepsQ keeps] at rsm
    exact rsm
  · rw [setMask_clearsQ was cleared] at rsm
    exact rsm

end Sys2Proof.Machine
end

/-! ### Data in either byte order -/

section
namespace Sys2Proof.Machine

/-- A field of a field. -/
theorem extractLsb'_extractLsb' {w : Nat} (x : BitVec w) {k n m l : Nat} (within : m + l ≤ n) :
    (x.extractLsb' k n).extractLsb' m l = x.extractLsb' (k + m) l := by
  refine BitVec.eq_of_getLsbD_eq fun i hi => ?_
  simp [hi, show m + i < n by omega, Nat.add_assoc]

/-- A value is its left part followed by its right part. -/
theorem extractLsb'_append_self {n m : Nat} (x : BitVec (n + m)) :
    x.extractLsb' m n ++ x.extractLsb' 0 m = x := by
  rw [BitVec.extractLsb'_append_extractLsb'_eq_extractLsb' (by omega)]
  exact BitVec.extractLsb'_eq_self

theorem halfBytes_little (h : BitVec 16) : halfBytes true h = (halfBytes false h).reverse := rfl

theorem wordBytes_little (w : Word) : wordBytes true w = (wordBytes false w).reverse := rfl

/-- The swap of a doubleword covers all eight bytes (R164). -/
theorem dwordBytes_little (d : Dword) : dwordBytes true d = (dwordBytes false d).reverse := rfl

@[simp] theorem length_halfBytes (le : Bool) (h : BitVec 16) : (halfBytes le h).length = 2 := by
  cases le <;> rfl

@[simp] theorem length_wordBytes (le : Bool) (w : Word) : (wordBytes le w).length = 4 := by
  cases le <;> rfl

@[simp] theorem length_dwordBytes (le : Bool) (d : Dword) : (dwordBytes le d).length = 8 := by
  cases le <;> rfl

theorem getElem?_halfBytes_big (h : BitVec 16) {i : Nat} (hi : i < 2) :
    (halfBytes false h)[i]? = some (h.extractLsb' (8 * (1 - i)) 8) := by
  interval_cases i <;> rfl

theorem getElem?_wordBytes_big (w : Word) {i : Nat} (hi : i < 4) :
    (wordBytes false w)[i]? = some (w.extractLsb' (8 * (3 - i)) 8) := by
  interval_cases i <;> rfl

theorem getElem?_dwordBytes_big (d : Dword) {i : Nat} (hi : i < 8) :
    (dwordBytes false d)[i]? = some (d.extractLsb' (8 * (7 - i)) 8) := by
  show (wordBytes false (d.extractLsb' 32 32) ++ wordBytes false (d.extractLsb' 0 32))[i]? = _
  by_cases high : i < 4
  · rw [List.getElem?_append_left (by simpa using high), getElem?_wordBytes_big _ high,
      extractLsb'_extractLsb' _ (by omega), show 32 + 8 * (3 - i) = 8 * (7 - i) by omega]
  · rw [List.getElem?_append_right (by simpa using high), length_wordBytes,
      getElem?_wordBytes_big _ (by omega), extractLsb'_extractLsb' _ (by omega),
      show 0 + 8 * (3 - (i - 4)) = 8 * (7 - i) by omega]

theorem getElem?_halfBytes_little (h : BitVec 16) {i : Nat} (hi : i < 2) :
    (halfBytes true h)[i]? = some (h.extractLsb' (8 * i) 8) := by
  rw [halfBytes_little, List.getElem?_reverse (by simpa using hi), length_halfBytes,
    getElem?_halfBytes_big h (by omega), show 1 - (2 - 1 - i) = i by omega]

theorem getElem?_wordBytes_little (w : Word) {i : Nat} (hi : i < 4) :
    (wordBytes true w)[i]? = some (w.extractLsb' (8 * i) 8) := by
  rw [wordBytes_little, List.getElem?_reverse (by simpa using hi), length_wordBytes,
    getElem?_wordBytes_big w (by omega), show 3 - (4 - 1 - i) = i by omega]

theorem getElem?_dwordBytes_little (d : Dword) {i : Nat} (hi : i < 8) :
    (dwordBytes true d)[i]? = some (d.extractLsb' (8 * i) 8) := by
  rw [dwordBytes_little, List.getElem?_reverse (by simpa using hi), length_dwordBytes,
    getElem?_dwordBytes_big d (by omega), show 7 - (8 - 1 - i) = i by omega]

/-- A byte of the right word of a doubleword. -/
theorem extractLsb'_setWidth_word (d : Dword) {k : Nat} (within : k + 8 ≤ 32) :
    (d.setWidth 32).extractLsb' k 8 = d.extractLsb' k 8 := by
  rw [BitVec.setWidth_eq_extractLsb' (by omega), extractLsb'_extractLsb' d within, Nat.zero_add]

/-- A word is its four bytes, the left one first. -/
theorem field_bytes (w : Word) :
    (field w 0 8 ++ field w 8 8 ++ field w 16 8 ++ field w 24 8 : BitVec 32) = w := by
  show w.extractLsb' 24 8 ++ w.extractLsb' 16 8 ++ w.extractLsb' 8 8 ++ w.extractLsb' 0 8 = w
  rw [BitVec.extractLsb'_append_extractLsb'_eq_extractLsb' (show 24 = 16 + 8 from rfl),
    BitVec.extractLsb'_append_extractLsb'_eq_extractLsb' (show 16 = 8 + 8 from rfl)]
  exact extractLsb'_append_self (n := 24) (m := 8) w

/-! ### Reading the bytes of a datum -/

theorem Memory.bytesAt_add (m : Memory) (a n k : Nat) :
    m.bytesAt a (n + k) = m.bytesAt a n ++ m.bytesAt (a + n) k := by
  induction n generalizing a with
  | zero => simp [Memory.bytesAt]
  | succ n ih =>
    rw [Nat.add_right_comm, Memory.bytesAt, ih, Memory.bytesAt, List.cons_append, Nat.add_assoc a 1 n,
      Nat.add_comm 1 n]

/-- Stored bytes read back. -/
theorem Memory.bytesAt_setBytes {m : Memory} (w : m.wf = true) (a : Nat) (bs : List Byte) :
    (m.setBytes a bs).bytesAt a bs.length = bs := by
  induction bs generalizing m a with
  | nil => rfl
  | cons b rest ih =>
    have first : (m.setBytes a (b :: rest)).byteAt a = b :=
      Memory.byteAt_setBytes_inside w a 0 (b :: rest) (by simp)
    rw [List.length_cons, Memory.bytesAt, first, Memory.setBytes, ih (Memory.setByte_wf a b w)]

@[simp] theorem Memory.length_bytesAt (m : Memory) (a n : Nat) : (m.bytesAt a n).length = n := by
  induction n generalizing a with
  | zero => rfl
  | succ n ih => simp [Memory.bytesAt, ih]

/-- The bytes of a halfword as they lie in memory are read as that halfword (R164). -/
theorem Memory.half_of_bytesAt {m : Memory} {le : Bool} {a : Nat} {h : BitVec 16}
    (bytes : m.bytesAt a 2 = halfBytes le h) : m.half le a = h := by
  cases le <;>
  · simp only [Memory.bytesAt, halfBytes, List.cons.injEq, Bool.false_eq_true, if_true, if_false]
      at bytes
    obtain ⟨b0, b1, -⟩ := bytes
    simp only [Memory.half, b0, b1]
    exact extractLsb'_append_self (n := 8) (m := 8) h

/-- The bytes of a word as they lie in memory are read as that word (R164). -/
theorem Memory.word_of_bytesAt {m : Memory} {le : Bool} {a : Nat} {w : Word}
    (bytes : m.bytesAt a 4 = wordBytes le w) : m.word le a = w := by
  cases le <;>
  · simp only [Memory.bytesAt, wordBytes, List.reverse_cons, List.reverse_nil, List.nil_append,
      List.cons_append, List.cons.injEq, Bool.false_eq_true, if_true, if_false] at bytes
    obtain ⟨b0, b1, b2, b3, -⟩ := bytes
    simp only [Memory.word, wordOfBytes, b0, b1, b2, b3]
    exact field_bytes w

/-- A doubleword is read as two words, each from its own four bytes (R164). -/
theorem Memory.dword_of_bytesAt {m : Memory} {le : Bool} {a : Nat} {d : Dword}
    (bytes : m.bytesAt a 8 = dwordBytes le d) : m.dword le a = d := by
  rw [show 8 = 4 + 4 from rfl, Memory.bytesAt_add] at bytes
  cases le <;>
  · obtain ⟨first, second⟩ := List.append_inj bytes (by simp)
    simp only [Memory.dword, Memory.word_of_bytesAt first, Memory.word_of_bytesAt second]
    exact extractLsb'_append_self (n := 32) (m := 32) d

/-- Settles O30: stored bytes read back as a list, and a datum is its bytes in the order of PSW E. -/
theorem storedDataReadsBack : Obligations.StoredDataReadsBack := by
  refine ⟨fun m a le wf => ⟨fun v => ?_, fun v => ?_, fun v => ?_, fun v => ?_,
      fun b h w d p hp k outside => ?_⟩,
    fun v h i hi => ⟨getElem?_dwordBytes_big v hi, getElem?_dwordBytes_little v hi, fun inWord => ?_,
      fun inHalf => ⟨getElem?_halfBytes_big h inHalf, getElem?_halfBytes_little h inHalf⟩⟩⟩
  · exact Memory.byteAt_setBytes_inside wf a 0 [v] (by simp)
  · exact Memory.half_of_bytesAt (by simpa using Memory.bytesAt_setBytes wf a (halfBytes le v))
  · exact Memory.word_of_bytesAt (by simpa using Memory.bytesAt_setBytes wf a (wordBytes le v))
  · exact Memory.dword_of_bytesAt (by simpa using Memory.bytesAt_setBytes wf a (dwordBytes le v))
  · have size : p.2.length = p.1 := by
      simp only [List.mem_cons, List.not_mem_nil, or_false] at hp
      rcases hp with rfl | rfl | rfl | rfl <;> simp
    exact Memory.byteAt_setBytes_outside wf a k p.2 (size ▸ outside)
  · rw [getElem?_wordBytes_big _ inWord, getElem?_wordBytes_little _ inWord,
      extractLsb'_setWidth_word v (by omega), extractLsb'_setWidth_word v (by omega)]
    exact ⟨rfl, rfl⟩

end Sys2Proof.Machine
end

/-! ### Absolute data references -/

section
namespace Sys2Proof.Machine

/-- Storage that is backed and outside the I/O address space is reached at its address. -/
theorem reach_backed {s s' : State} {ref : DataRef} {u : Option Bool} {a : Word}
    (cacheable : ¬ (u = some true ∧ ref.kind = .semaphore)) (memory : isIo a = false)
    (stored : backed s.cfg a.toNat ref.size = true) : reach s ref u a s' = .ok (s', a.toNat) := by
  rw [reach, memory, if_neg Bool.false_ne_true, if_neg cacheable, if_pos stored]

/-- A semaphore operation is undefined on a page with the U-bit (R251). -/
theorem reach_uncacheable {s s' : State} {ref : DataRef} {a : Word} (semaphore : ref.kind = .semaphore)
    (memory : isIo a = false) : reach s ref (some true) a s' = .refused .uncacheable := by
  rw [reach, memory, if_neg Bool.false_ne_true, if_pos ⟨rfl, semaphore⟩]

/-- What an absolute reference finds at an address (R160, R251, D17). -/
theorem reach_absolute (s : State) (ref : DataRef) (a : Word) :
    reach s ref none a s =
      if isIo a then
        .refused (if ref.copr then .coprocessorIo
          else if ref.kind = .semaphore then .uncacheable else .ioSpace)
      else if backed s.cfg a.toNat ref.size then .ok (s, a.toNat) else .fault .unbackedMemory := by
  simp only [reach, reduceCtorEq, false_or, false_and, if_false]
  split_ifs <;> rfl

/-- An absolute reference at `offset` that goes on at address `a`: the breakpoints, then storage (R403). -/
def State.absoluteAt (s : State) (ref : DataRef) (offset a : Word) : Check (State × Nat) :=
  match s.dataBreakpoint ref.kind offset with
  | .undefined => .refused .debugMask
  | .hit => .trap 31
  | .none => reach s ref none a s

theorem absoluteAt_hit {s : State} {ref : DataRef} {offset : Word}
    (hit : s.dataBreakpoint ref.kind offset = .hit) (a : Word) :
    s.absoluteAt ref offset a = .trap 31 := by
  simp only [State.absoluteAt, hit]

theorem absoluteAt_undefined {s : State} {ref : DataRef} {offset : Word}
    (undefined : s.dataBreakpoint ref.kind offset = .undefined) (a : Word) :
    s.absoluteAt ref offset a = .refused .debugMask := by
  simp only [State.absoluteAt, undefined]

theorem absoluteAt_clear {s : State} {ref : DataRef} {offset : Word}
    (clear : s.dataBreakpoint ref.kind offset = .none) (a : Word) :
    s.absoluteAt ref offset a = reach s ref none a s := by
  simp only [State.absoluteAt, clear]

theorem misaligned_iff (offset : Word) (align : Nat) :
    misaligned offset align = true ↔ offset.toNat % align ≠ 0 := bne_iff_ne

/-- An absolute reference: its alignment, then what it meets at the address (R403, D18). -/
theorem dataCheck_absolute {s : State} {ref : DataRef} (absolute : s.isVirtual ref = false)
    (space offset : Word) :
    s.dataCheck ref space offset =
      if offset.toNat % ref.align ≠ 0 then unalignedCase s ref offset (s.absoluteAt ref offset)
      else s.absoluteAt ref offset offset := by
  rw [State.dataCheck, absolute, if_neg Bool.false_ne_true]
  simp only [← misaligned_iff]
  rfl

/-- Settles O31: an aligned reference and a truncated one go on alike, at their addresses. -/
theorem absoluteReferences : Obligations.AbsoluteReferences := by
  intro s ref space offset absolute goesOnAt
  have goes {a : Word} (at_a : s.dataCheck ref space offset = s.absoluteAt ref offset a) :
      goesOnAt a := by
    refine ⟨fun hit => at_a.trans (absoluteAt_hit hit a),
      fun undefined => at_a.trans (absoluteAt_undefined undefined a), fun clear => ?_⟩
    rw [at_a, absoluteAt_clear clear, reach_absolute]
    refine ⟨fun memory stored => ?_, fun memory unbacked => ?_, fun io copr => ?_, fun io cpu => ?_⟩
    · simp [memory, stored]
    · simp [memory, unbacked]
    · simp [io, copr]
    · simp [io, cpu]
  have check := dataCheck_absolute absolute space offset
  refine ⟨fun aligned => goes (check.trans (if_neg (not_not_intro aligned))), fun unaligned => ?_⟩
  rw [if_pos unaligned] at check
  refine ⟨fun refuse => ?_, fun trap => ?_, fun truncate => goes ?_⟩
  · rw [check, unalignedCase, refuse]
  · rw [check, unalignedCase, trap]
  · rw [check, unalignedCase, truncate]

end Sys2Proof.Machine
end

/-! ### Virtual data references -/

section
namespace Sys2Proof.Machine

/-- A virtual reference whose translation, rights, protection identifiers and alignment are in order:
the interruptions 19, 20 and 21, then storage (R212). -/
def State.virtualAt (s : State) (ref : DataRef) (e : TlbEntry) (s' : State) (offset : Word) :
    Check (State × Nat) :=
  if ref.kind ≠ .load ∧ e.b ∧ !s.pswX then .trap 19
  else if ref.kind ≠ .load ∧ !e.d then .trap 20
  else if e.t then .trap 21
  else reach s ref (if s.cfg.hasTlbU then some e.u else none) (absoluteOf e offset) s'

theorem dataCheck_miss {s : State} {ref : DataRef} {space offset : Word}
    (virtual : s.isVirtual ref = true)
    (miss : (s.keepRelied space offset).translate false space offset = none) :
    s.dataCheck ref space offset = .trap 15 := by
  simp only [State.dataCheck, virtual, if_true, virtualCheck, miss]

/-- A translated reference: the rights, the protection identifiers, the alignment, then the rest (R212). -/
theorem dataCheck_translated {s s' : State} {ref : DataRef} {space offset : Word} {e : TlbEntry}
    (virtual : s.isVirtual ref = true)
    (found : (s.keepRelied space offset).translate false space offset = some (e, s')) :
    s.dataCheck ref space offset =
      if !rightsOk e ref.kind s.priv.toNat then .trap 26
      else if s.pswP ∧ !s.pidCheck e (ref.kind != .load) then .trap 27
      else if offset.toNat % ref.align ≠ 0 then
        if ref.kind = .semaphore then unalignedCase s ref offset (s.virtualAt ref e s') else .trap 28
      else s.virtualAt ref e s' offset := by
  simp only [← misaligned_iff, State.dataCheck, virtual, if_true, virtualCheck, found]
  rfl

theorem unalignedCase_refuse {s : State} (refuse : s.cfg.unalignedAbs = .refuse) (ref : DataRef)
    (offset : Word) (next : Word → Check (State × Nat)) :
    unalignedCase s ref offset next = .refused .unaligned := by
  rw [unalignedCase, refuse]

/-- A semaphore operation needs the rights to read and to write (R207, R425). -/
theorem rightsOk_semaphore (e : TlbEntry) (pl : Nat) :
    rightsOk e .semaphore pl = true ↔ readAllowed e pl = true ∧ writeAllowed e pl = true :=
  Bool.and_eq_true_iff

theorem keepRelied_none {s : State} (nothing : s.relied = none) (space offset : Word) :
    s.keepRelied space offset = s := by
  simp only [State.keepRelied, nothing]

/-- Of the translation relied upon only that of the same page stays relied upon (R201). -/
theorem keepRelied_some {s : State} {sp : Word} {vpn : BitVec 20} (relied : s.relied = some (sp, vpn))
    (space offset : Word) :
    s.keepRelied space offset =
      if sp &&& spaceMask s.cfg = space &&& spaceMask s.cfg ∧ vpn = vpnOf offset then s
      else s.unrely := by
  simp only [State.keepRelied, relied]

/-- A TLB reference leaves the translation relied upon. -/
theorem walked_relied (s : State) (instr : Bool) (space offset : Word) :
    (s.walked instr space offset).relied = s.relied := by
  rw [walked_eq]

/-- What an interrupted reference relies upon afterwards (R201). -/
theorem referenceWalked_relied {s : State} {ref : DataRef} (virtual : s.isVirtual ref = true) (n : Nat)
    (space offset : Word) :
    (s.referenceWalked n ref space offset).relied =
      if n ∈ relyingInterruptions then some (space, vpnOf offset)
      else (s.keepRelied space offset).relied := by
  simp only [State.referenceWalked, virtual, if_true, List.contains_iff_mem]
  split
  · rfl
  · exact walked_relied _ _ _ _

/-- The interruptions 19, 20 and 21 of a reference in their order, and what it reaches (R212, R251). -/
theorem virtualAt_outcomes (s : State) (ref : DataRef) (e : TlbEntry) (s' : State) (offset : Word) :
    (ref.kind ≠ .load → e.b = true → s.pswX = false → s.virtualAt ref e s' offset = .trap 19) ∧
    ((ref.kind ≠ .load → e.b = false ∨ s.pswX = true) →
      (ref.kind ≠ .load → e.d = false → s.virtualAt ref e s' offset = .trap 20) ∧
      ((ref.kind ≠ .load → e.d = true) →
        (e.t = true → s.virtualAt ref e s' offset = .trap 21) ∧
        (e.t = false → isIo (absoluteOf e offset) = false →
          (ref.kind = .semaphore → s.cfg.hasTlbU = true → e.u = true →
            s.virtualAt ref e s' offset = .refused .uncacheable) ∧
          ((ref.kind = .semaphore → s.cfg.hasTlbU = false ∨ e.u = false) →
            backed s.cfg (absoluteOf e offset).toNat ref.size = true →
            s.virtualAt ref e s' offset = .ok (s', (absoluteOf e offset).toNat))))) := by
  simp only [State.virtualAt, Bool.not_eq_true']
  refine ⟨fun writes b x => if_pos ⟨writes, b, x⟩, fun unbroken => ?_⟩
  have not19 : ¬ (ref.kind ≠ .load ∧ e.b = true ∧ s.pswX = false) := by
    rintro ⟨writes, b, x⟩
    simpa [b, x] using unbroken writes
  rw [if_neg not19]
  refine ⟨fun writes d => if_pos ⟨writes, d⟩, fun dirty => ?_⟩
  have not20 : ¬ (ref.kind ≠ .load ∧ e.d = false) := by
    rintro ⟨writes, d⟩
    simp [dirty writes] at d
  rw [if_neg not20]
  refine ⟨fun t => if_pos t, fun t memory => ?_⟩
  rw [if_neg (ne_true_of_eq_false t)]
  refine ⟨fun semaphore hasU u => ?_, fun cacheable stored => reach_backed ?_ memory stored⟩
  · rw [if_pos hasU, u]
    exact reach_uncacheable semaphore memory
  · rintro ⟨uncacheable, semaphore⟩
    rcases cacheable semaphore with noU | u
    · simp [noU] at uncacheable
    · simp [u] at uncacheable

/-- Settles O32: the checks in their order, then the reliance on a translation. -/
theorem virtualReferences : Obligations.VirtualReferences := by
  refine ⟨fun s ref space offset virtual => ⟨dataCheck_miss virtual, fun e s' found => ?_⟩,
    fun e pl => ⟨Iff.rfl, Iff.rfl, rightsOk_semaphore e pl⟩, fun s ref space offset n => ?_⟩
  · simp only [dataCheck_translated virtual found, Bool.not_eq_true']
    refine ⟨fun denied => if_pos denied, fun rights => ?_⟩
    rw [if_neg (ne_false_of_eq_true rights)]
    refine ⟨fun p denied => if_pos ⟨p, denied⟩, fun pids => ?_⟩
    rw [if_neg fun denied => ne_false_of_eq_true (pids denied.1) denied.2]
    refine ⟨fun unaligned plain => ?_, fun unaligned semaphore refuse => ?_, fun aligned => ?_⟩
    · rw [if_pos unaligned, if_neg plain]
    · rw [if_pos unaligned, if_pos semaphore, unalignedCase_refuse refuse]
    · rw [if_neg (not_not_intro aligned)]
      exact virtualAt_outcomes s ref e s' offset
  · refine ⟨fun nothing => keepRelied_none nothing space offset, fun sp vpn relied => ?_,
      fun virtual => referenceWalked_relied virtual n space offset⟩
    rw [keepRelied_some relied]
    refine ⟨fun sameSpace samePage => if_pos ⟨sameSpace, samePage⟩, fun other => if_neg ?_⟩
    rintro ⟨sameSpace, samePage⟩
    exact other.elim (· sameSpace) (· samePage)

end Sys2Proof.Machine
end

/-! ### Access rights and protection identifiers -/

section
namespace Sys2Proof.Machine

/-- Read access by Table 3-1 (R209). -/
theorem readAllowed_iff (e : TlbEntry) (pl : Nat) :
    readAllowed e pl = true ↔ (arType e).toNat ≤ 3 ∧ pl ≤ arPl1 e := by
  unfold readAllowed
  split <;> simp_all
  omega

/-- Write access by Table 3-1 (R209). -/
theorem writeAllowed_iff (e : TlbEntry) (pl : Nat) :
    writeAllowed e pl = true ↔ ((arType e).toNat = 1 ∨ (arType e).toNat = 3) ∧ pl ≤ arPl2 e := by
  unfold writeAllowed
  split <;> simp_all

/-- Execute access by Table 3-1 (R209). -/
theorem executeAllowed_iff (e : TlbEntry) (pl : Nat) :
    executeAllowed e pl = true ↔ 2 ≤ (arType e).toNat ∧ arPl2 e ≤ pl ∧ pl ≤ arPl1 e := by
  unfold executeAllowed
  split <;> simp_all
  omega

/-- The implemented bits of an access ID or of a protection identifier are its rightmost ones (D4). -/
theorem toNat_and_accessIdMask (c : Config) (id : BitVec 18) :
    (id &&& accessIdMask c).toNat = id.toNat % 2 ^ (15 + c.pidExtra.val) := by
  have mask : (accessIdMask c).toNat = 2 ^ (15 + c.pidExtra.val) - 1 := by
    have width : 2 ^ (15 + c.pidExtra.val) ≤ 2 ^ 18 := Nat.pow_le_pow_right (by omega) (by omega)
    rw [accessIdMask, BitVec.toNat_ofNat, Nat.mod_eq_of_lt (by omega)]
  rw [BitVec.toNat_and, mask, Nat.and_two_pow_sub_one_eq_mod]

/-- A page is public when the implemented bits of its access ID are 0 (R208). -/
theorem public_iff (c : Config) (id : BitVec 18) :
    id &&& accessIdMask c = 0#18 ↔ id.toNat % 2 ^ (15 + c.pidExtra.val) = 0 := by
  rw [← BitVec.toNat_inj, toNat_and_accessIdMask, BitVec.toNat_ofNat, Nat.zero_mod]

/-- The implemented bits of a protection identifier, which lie left of the write disable bit (R87). -/
theorem toNat_field_and_accessIdMask (c : Config) (pid : Word) :
    (field pid 13 18 &&& accessIdMask c).toNat = pid.toNat / 2 % 2 ^ (15 + c.pidExtra.val) := by
  have within : 2 ^ (15 + c.pidExtra.val) ∣ 2 ^ 18 := Nat.pow_dvd_pow 2 (by omega)
  rw [toNat_and_accessIdMask, field, BitVec.extractLsb'_toNat, Nat.shiftRight_eq_div_pow,
    Nat.mod_mod_of_dvd _ within]

theorem pidMatches_iff (c : Config) (pid : Word) (id : BitVec 18) :
    pidMatches c pid id = true ↔
      pid.toNat / 2 % 2 ^ (15 + c.pidExtra.val) = id.toNat % 2 ^ (15 + c.pidExtra.val) := by
  rw [pidMatches, beq_iff_eq, ← BitVec.toNat_inj, toNat_field_and_accessIdMask, toNat_and_accessIdMask]

/-- The check of the protection identifiers: a public page, or one of the four matches (R208). -/
theorem pidCheck_iff (s : State) (e : TlbEntry) (write : Bool) :
    s.pidCheck e write = true ↔ e.accessId.toNat % 2 ^ (15 + s.cfg.pidExtra.val) = 0 ∨
      ∃ pid ∈ [s.pid1, s.pid2, s.pid3, s.pid4],
        pidMatches s.cfg pid e.accessId = true ∧ (write = true → mbit pid 31 = false) := by
  have writable (pid : Word) :
      (!write || !mbit pid 31) = true ↔ (write = true → mbit pid 31 = false) := by
    cases write <;> simp
  rw [State.pidCheck, Bool.or_eq_true, beq_iff_eq, public_iff, List.any_eq_true]
  simp only [Bool.and_eq_true, writable]

/-- Settles O33: each column of the table, and the identifiers as numbers of the implemented width. -/
theorem accessRights : Obligations.AccessRights := by
  intro s e pl p1 p2 ty
  refine ⟨readAllowed_iff e _, writeAllowed_iff e _, executeAllowed_iff e _, fun isPublic write => ?_,
    fun write => pidCheck_iff s e write, pidMatches_iff⟩
  rw [pidCheck_iff, isPublic]
  exact .inl (Nat.zero_mod _)

end Sys2Proof.Machine
end

/-! ### Address forms -/

section
namespace Sys2Proof.Machine

theorem isOne_eq_true_iff (b : BitVec 1) : isOne b = true ↔ b = 1#1 := beq_iff_eq

/-- The space register of an `s` field other than 0 (R170). -/
theorem space_explicit (s : State) {sf : BitVec 2} (base : Word) (h : sf ≠ 0#2) :
    s.space sf base = s.sr (sf.setWidth 3) := by
  rw [State.space, spaceNumber, if_neg h]

/-- With an `s` field of 0 the two leftmost bits of the base select SR 4 to SR 7 (R170). -/
theorem space_implicit (s : State) (base : Word) :
    s.space 0#2 base = s.sr (BitVec.ofNat 3 (4 + base.toNat / 2 ^ 30)) := by
  have number : (1#1 ++ field base 0 2 : BitVec 3) = BitVec.ofNat 3 (4 + base.toNat / 2 ^ 30) := by
    apply BitVec.eq_of_toNat_eq
    have := base.isLt
    rw [field, BitVec.toNat_append, BitVec.extractLsb'_toNat,
      ← Nat.shiftLeft_add_eq_or_of_lt (by omega), BitVec.toNat_ofNat, BitVec.toNat_ofNat]
    norm_num [Nat.shiftLeft_eq, Nat.shiftRight_eq_div_pow]
    omega
  rw [State.space, spaceNumber, if_pos rfl, number]

theorem longModifyEa_eq (s : State) (b : Reg) (sf : BitVec 2) (i : BitVec 14) :
    longModifyEa s b sf i = ⟨s.space sf (s.gr b),
      if (lowSignExt14 i).toInt < 0 then s.gr b + lowSignExt14 i else s.gr b,
      some (s.gr b + lowSignExt14 i)⟩ := by
  simp only [longModifyEa, BitVec.slt_iff_toInt_lt, BitVec.toInt_zero]

theorem indexedEa_eq (s : State) (b x : Reg) (sf : BitVec 2) (u m : BitVec 1) (k : Nat) :
    let index := if u = 1#1 then s.gr x <<< k else s.gr x
    indexedEa s b x sf u m k = ⟨s.space sf (s.gr b), if m = 1#1 then s.gr b else s.gr b + index,
      if m = 1#1 then some (s.gr b + index) else none⟩ := by
  simp only [indexedEa, isOne_eq_true_iff]
  split <;> rfl

theorem shortEa_eq (s : State) (b : Reg) (i : BitVec 5) (sf : BitVec 2) (a m : BitVec 1) :
    shortEa s b i sf a m = ⟨s.space sf (s.gr b),
      if m = 1#1 ∧ a = 0#1 then s.gr b else s.gr b + lowSignExt5 i,
      if m = 1#1 then some (s.gr b + lowSignExt5 i) else none⟩ := by
  simp only [shortEa, isOne_eq_true_iff]
  rcases a.eq_zero_or_eq_one with rfl | rfl <;> split <;> simp_all

/-- STBYS addresses as the short displacement does, and leaves the address of a word (R432). -/
theorem bytesEa_eq_shortEa (s : State) (b : Reg) (i : BitVec 5) (sf : BitVec 2) (a m : BitVec 1) :
    bytesEa s b i sf a m = { shortEa s b i sf a m with
      base := (shortEa s b i sf a m).base.map (· &&& ~~~3#32) } := by
  unfold bytesEa shortEa
  split <;> rfl

theorem and_not_three (w : Word) : w &&& ~~~3#32 = BitVec.ofNat 32 (w.toNat / 4 * 4) := by
  apply BitVec.eq_of_toNat_eq
  have := w.isLt
  rw [toNat_and_not_three, BitVec.toNat_ofNat, Nat.mod_eq_of_lt (by omega)]

/-- Settles O34: each form by what it does with its modifiers. -/
theorem addressForms : Obligations.AddressForms := by
  intro s b x sf i14 i5 u m a k index
  refine ⟨fun base explicit => space_explicit s base explicit, space_implicit s, rfl,
    longModifyEa_eq s b sf i14, indexedEa_eq s b x sf u m k, shortEa_eq s b i5 sf a m, ?_⟩
  rw [bytesEa_eq_shortEa, shortEa_eq, ← and_not_three]
  split_ifs <;> rfl

end Sys2Proof.Machine
end

/-! ### Signs, sums and conditions as numbers -/

section
namespace Sys2Proof.Machine

/-- The leftmost bit is the sign (R10). -/
theorem mbit_zero_iff (w : Word) : mbit w 0 = true ↔ w.toInt < 0 := by
  rw [← decide_eq_true_iff (p := w.toInt < 0), ← BitVec.msb_eq_toInt, BitVec.msb_eq_getLsbD_last]
  rfl

/-- The rightmost bit is the parity. -/
theorem mbit_last_iff (w : Word) : mbit w 31 = true ↔ w.toNat % 2 = 1 := by
  rw [mbit, BitVec.getLsbD, Nat.testBit_zero, decide_eq_true_eq]

/-- The signed number that the adder leaves is the sum, wrapped (R531). -/
theorem toInt_addWith (x y : Word) (cin : Bool) :
    (addWith x y cin).toInt = Int.bmod (x.toInt + y.toInt + cin.toNat) (2 ^ 32) := by
  have carry : (if cin then 1#32 else 0#32).toInt = cin.toNat := by cases cin <;> rfl
  rw [addWith, BitVec.toInt_add, BitVec.toInt_add, carry, Int.bmod_add_bmod]

/-- A sum overflows where both operands have the sign that it lacks (R332). -/
theorem signedOverflow_iff_signs (x y : Word) (cin : Bool) :
    signedOverflow x y cin = true ↔
      ¬ (x.toInt < 0 ↔ (addWith x y cin).toInt < 0) ∧
        ¬ (y.toInt < 0 ↔ (addWith x y cin).toInt < 0) := by
  simp only [← mbit_zero_iff, signedOverflow]
  simp only [mbit, BitVec.getLsbD_and, BitVec.getLsbD_xor, Bool.and_eq_true, bne_iff_ne,
    ← Bool.eq_iff_iff, ne_eq]

/-- Signed overflow: the sum of the signed numbers is out of range (R332). -/
theorem adder_sv_iff (x y : Word) (cin : Bool) :
    (adder x y cin).sv = true ↔
      x.toInt + y.toInt + cin.toNat < -2 ^ 31 ∨ 2 ^ 31 ≤ x.toInt + y.toInt + (cin.toNat : Int) := by
  have hx := x.isLt
  have hy := y.isLt
  have carry : cin.toNat ≤ 1 := cin.toNat_le
  show signedOverflow x y cin = true ↔ _
  rw [signedOverflow_iff_signs, toInt_addWith]
  simp only [BitVec.toInt, Int.bmod]
  omega

/-- The sign of the result, corrected by the overflow, is the sign of the sum (R333, R334). -/
theorem adder_sign_iff (x y : Word) (cin : Bool) :
    (mbit (adder x y cin).res 0 ^^ (adder x y cin).sv) = true ↔
      x.toInt + y.toInt + cin.toNat < 0 := by
  have hx := x.isLt
  have hy := y.isLt
  have carry : cin.toNat ≤ 1 := cin.toNat_le
  show (mbit (addWith x y cin) 0 ^^ (adder x y cin).sv) = true ↔ _
  rw [bne_iff_ne, ne_eq, Bool.eq_iff_iff, mbit_zero_iff, adder_sv_iff, toInt_addWith]
  simp only [BitVec.toInt, Int.bmod]
  omega

/-- Row 4 of Table 5-1 for an addition: no carry leaves the word (R331, R532). -/
theorem adder_row4_iff (x y : Word) (cin : Bool) :
    (adder x y cin).row4 = true ↔ x.toNat + y.toNat + cin.toNat < 2 ^ 32 := by
  have hx := x.isLt
  have hy := y.isLt
  simp only [adder, digitCarry, Bool.not_eq_true', decide_eq_false_iff_not]
  omega

theorem addWith_eq_zero_iff (a b : Word) : addWith a b false = 0#32 ↔ a = -b := by
  rw [addWith, if_neg Bool.false_ne_true, BitVec.add_zero]
  exact add_eq_zero_iff_eq_neg

/-- The subtracter's sum is the difference (R531). -/
theorem addWith_not (a b : Word) : addWith a (~~~b) true = a - b := by
  rw [addWith, if_pos rfl, BitVec.add_assoc, ← BitVec.neg_eq_not_add, BitVec.sub_eq_add_neg]

/-- The complement of a signed number. -/
theorem toInt_not_eq (b : Word) : (~~~b).toInt = -b.toInt - 1 := by
  have := b.isLt
  rw [BitVec.toInt_not]
  simp only [BitVec.toInt, Int.bmod]
  omega

/-! The conditions of Table 5-1, one equation for each -/

@[simp] theorem arithBase_never (x : Sum) : arithBase 0#3 x = false := rfl
@[simp] theorem arithBase_equal (x : Sum) : arithBase 1#3 x = (x.res == 0#32) := rfl
@[simp] theorem arithBase_less (x : Sum) : arithBase 2#3 x = (mbit x.res 0 ^^ x.sv) := rfl
@[simp] theorem arithBase_lessEq (x : Sum) :
    arithBase 3#3 x = (x.res == 0#32 || (mbit x.res 0 ^^ x.sv)) := rfl
@[simp] theorem arithBase_row4 (x : Sum) : arithBase 4#3 x = x.row4 := rfl
@[simp] theorem arithBase_zeroOrRow4 (x : Sum) : arithBase 5#3 x = (x.res == 0#32 || x.row4) := rfl
@[simp] theorem arithBase_overflow (x : Sum) : arithBase 6#3 x = x.sv := rfl
@[simp] theorem arithBase_odd (x : Sum) : arithBase 7#3 x = mbit x.res 31 := rfl

/-- With `f` 0 the condition is the table's (R330). -/
theorem arithCond_plain (c : BitVec 3) (x : Sum) : arithCond c 0#1 x = arithBase c x :=
  Bool.xor_false _

/-- With `f` 1 the condition is negated (R330). -/
theorem arithCond_negated (c : BitVec 3) (x : Sum) : arithCond c 1#1 x = !arithCond c 0#1 x := by
  rw [arithCond_plain]
  exact Bool.xor_true _

/-- The conditions on the adder's output, whatever its operands: statements about the sum of the numbers
(R331). -/
theorem arithBase_adder (x y : Word) (cin : Bool) :
    let sum := x.toInt + y.toInt + (cin.toNat : Int)
    (arithBase 1#3 (adder x y cin) = true ↔ addWith x y cin = 0#32) ∧
    (arithBase 2#3 (adder x y cin) = true ↔ sum < 0) ∧
    (arithBase 3#3 (adder x y cin) = true ↔ addWith x y cin = 0#32 ∨ sum < 0) ∧
    (arithBase 4#3 (adder x y cin) = true ↔ x.toNat + y.toNat + cin.toNat < 2 ^ 32) ∧
    (arithBase 5#3 (adder x y cin) = true ↔
      addWith x y cin = 0#32 ∨ x.toNat + y.toNat + cin.toNat < 2 ^ 32) ∧
    (arithBase 6#3 (adder x y cin) = true ↔ sum < -2 ^ 31 ∨ 2 ^ 31 ≤ sum) ∧
    (arithBase 7#3 (adder x y cin) = true ↔ (addWith x y cin).toNat % 2 = 1) := by
  have zero : ((adder x y cin).res == 0#32) = true ↔ addWith x y cin = 0#32 := beq_iff_eq
  have less := adder_sign_iff x y cin
  have row4 := adder_row4_iff x y cin
  have overflow := adder_sv_iff x y cin
  have odd : mbit (adder x y cin).res 31 = true ↔ (addWith x y cin).toNat % 2 = 1 := mbit_last_iff _
  simp only [arithBase_equal, arithBase_less, arithBase_lessEq, arithBase_row4, arithBase_zeroOrRow4,
    arithBase_overflow, arithBase_odd, Bool.or_eq_true, zero, less, row4, overflow, odd, and_self]

/-- Settles O18: the adder's conditions, read for `a + ~b + 1` and for `a + b`. -/
theorem arithmeticConditions : Obligations.ArithmeticConditions := by
  refine ⟨fun a b => ?_, fun a b => ?_⟩
  · obtain ⟨equal, less, lessEq, row4, zeroOrRow4, overflow, odd⟩ := arithBase_adder a (~~~b) true
    have ha := a.isLt
    have hb := b.isLt
    have zero : addWith a (~~~b) true = 0#32 ↔ a = b := by
      rw [addWith_not]
      exact sub_eq_zero
    have sum : a.toInt + (~~~b).toInt + (true.toNat : Int) = a.toInt - b.toInt := by
      rw [toInt_not_eq, Bool.toNat_true]
      omega
    have borrow : a.toNat + (~~~b).toNat + true.toNat < 2 ^ 32 ↔ a.toNat < b.toNat := by
      rw [BitVec.toNat_not, Bool.toNat_true]
      omega
    rw [zero] at equal lessEq zeroOrRow4
    rw [sum] at less lessEq overflow
    rw [borrow] at row4 zeroOrRow4
    rw [addWith_not] at odd
    simp only [arithCond_negated, arithCond_plain, subtract]
    refine ⟨rfl, equal, less.trans (by omega), lessEq.trans ?_, row4, zeroOrRow4.trans ?_, overflow, odd,
      fun _ => trivial⟩
    · rw [← BitVec.toInt_inj]
      omega
    · rw [← BitVec.toNat_inj]
      omega
  · obtain ⟨equal, less, lessEq, row4, zeroOrRow4, overflow, odd⟩ := arithBase_adder a b false
    have parity : (addWith a b false).toNat % 2 = (a.toNat + b.toNat) % 2 := by
      rw [addWith, if_neg Bool.false_ne_true, BitVec.add_zero, BitVec.toNat_add]
      omega
    rw [addWith_eq_zero_iff] at equal lessEq zeroOrRow4
    rw [parity] at odd
    simp only [Bool.toNat_false, Nat.cast_zero, Nat.add_zero, Int.add_zero]
      at less lessEq row4 zeroOrRow4 overflow
    simp only [arithCond_negated, arithCond_plain]
    exact ⟨rfl, fun _ => trivial, equal, less, lessEq, row4, zeroOrRow4, overflow, odd⟩

end Sys2Proof.Machine
end

/-! ### Shift, extract and deposit instructions -/

section
namespace Sys2Proof.Machine

theorem finishField_wordIn (s : State) (t : Reg) (c : BitVec 3) (res : Word) :
    WordIn (finishField s t c res) s t res (extractCond c res) :=
  finishWord_wordIn t res _ rfl

/-- A fixed field inside the word (R602). -/
theorem finishFixed_wordIn {pos len : Nat} (inside : len - 1 ≤ pos) (s : State) (t : Reg) (c : BitVec 3)
    (res : Word) : WordIn (finishFixed s t c pos len res) s t res (extractCond c res) := by
  rw [finishFixed, if_pos inside]
  exact finishField_wordIn s t c res

/-- A fixed field that leaves the word (R602 (4), U14). -/
theorem finishFixed_outside {pos len : Nat} (outside : pos < len - 1) (s : State) (t : Reg) (c : BitVec 3)
    (res : Word) :
    WordIn (finishFixed s t c pos len res) s t (Config.freeWord s.draws) (Config.freeBit s.draws) := by
  rw [finishFixed, if_neg (Nat.not_le.2 outside)]
  exact finishWord_wordIn t _ _ rfl

/-- The completion of a fixed field by where its right end lies; its length is `32 - k` (R601, R602). -/
theorem finishFixed_cases (s : State) (t : Reg) (c : BitVec 3) (pos : Nat) (k : BitVec 5) (res : Word) :
    (31 - k.toNat ≤ pos →
      WordIn (finishFixed s t c pos (fieldLen k) res) s t res (extractCond c res)) ∧
    (pos < 31 - k.toNat → ∃ v n, WordIn (finishFixed s t c pos (fieldLen k) res) s t v n) := by
  have len : fieldLen k - 1 = 31 - k.toNat := Nat.sub_right_comm 32 k.toNat 1
  rw [← len]
  exact ⟨fun inside => finishFixed_wordIn inside s t c res,
    fun outside => ⟨_, _, finishFixed_outside outside s t c res⟩⟩

/-- Settles O25: each instruction ends in one of the two completions of its group. -/
theorem fieldInstructions : Obligations.FieldInstructions := by
  refine ⟨fun s r2 r1 t c cp k im => ?_, fun s r t c q cp k im => ?_, fun res => ?_⟩
  · have field (res : Word) := finishField_wordIn s t c res
    simp only [List.forall_mem_cons]
    exact ⟨field _, field _, field _, field _, field _, field _, field _, field _,
      List.forall_mem_nil _⟩
  · have fixed (pos : Nat) (res : Word) := finishFixed_cases s t c pos k res
    simp only [List.forall_mem_cons]
    exact ⟨fixed _ _, fixed _ _, fixed _ _, fixed _ _, fixed _ _, fixed _ _, List.forall_mem_nil _⟩
  · have negative : mbit res 0 = true ↔ res.toInt < 0 := mbit_zero_iff res
    have odd : mbit res 31 = true ↔ res.toNat % 2 = 1 := mbit_last_iff res
    have zero : res = 0#32 ↔ res.toNat = 0 := BitVec.toNat_inj.symm
    refine ⟨rfl, beq_iff_eq.trans zero, negative, odd, rfl, bne_iff_ne.trans (not_congr zero), ?_, ?_⟩
    · show (!mbit res 0) = true ↔ _
      rw [Bool.not_eq_true', ← Bool.not_eq_true, negative, Int.not_lt]
    · show (!mbit res 31) = true ↔ _
      rw [Bool.not_eq_true', ← Bool.not_eq_true, odd]
      omega

end Sys2Proof.Machine
end

/-! ### Immediates and displacements -/

section
namespace Sys2Proof

theorem toInt_signExt {n : Nat} (x : BitVec n) (h : n ≤ 32) : (signExt x).toInt = x.toInt :=
  BitVec.toInt_signExtend_of_le h

/-- A sign bit as a number. -/
theorem toInt_bit (b : BitVec 1) : b.toInt = -(if b = 1#1 then 1 else 0) := by
  rcases b.eq_zero_or_eq_one with rfl | rfl <;> rfl

/-- The rightmost bit as a sign. -/
theorem extractLsb'_zero_one_eq_iff {n : Nat} (x : BitVec n) :
    x.extractLsb' 0 1 = 1#1 ↔ x.getLsbD 0 = true := by
  rw [← BitVec.toNat_inj, BitVec.extractLsb'_toNat, BitVec.getLsbD, Nat.testBit_zero, decide_eq_true_eq]
  rfl

/-- The rightmost bit as a number. -/
theorem toNat_extractLsb'_zero_one {n : Nat} (x : BitVec n) :
    (x.extractLsb' 0 1).toNat = x.toNat % 2 :=
  BitVec.extractLsb'_toNat ..

/-- All bits but the rightmost one. -/
theorem toNat_extractLsb'_one {m : Nat} (x : BitVec (m + 1)) :
    (x.extractLsb' 1 m).toNat = x.toNat / 2 := by
  have := x.isLt
  rw [BitVec.extractLsb'_toNat, Nat.shiftRight_eq_div_pow, Nat.mod_eq_of_lt (by omega), Nat.pow_one]

/-- A field appended on the right of a nonempty one moves it to the left. -/
theorem toInt_append_right {n m : Nat} (x : BitVec (n + 1)) (y : BitVec m) :
    (x ++ y).toInt = 2 ^ m * x.toInt + y.toNat :=
  BitVec.toInt_append

/-- `low_sign_ext` for every width: the rightmost bit is the sign, the others the magnitude (R311). -/
theorem toInt_lowSignExt {m : Nat} (x : BitVec (m + 1)) (h : 1 + m ≤ 32) :
    (signExt (x.extractLsb' 0 1 ++ x.extractLsb' 1 m)).toInt =
      (x.toNat / 2 : Nat) - (if x.getLsbD 0 then 2 ^ m else 0) := by
  rw [toInt_signExt _ h, toInt_append_right (n := 0), toNat_extractLsb'_one, toInt_bit]
  simp only [extractLsb'_zero_one_eq_iff]
  split_ifs <;> ring

/-- The two places that make a displacement in words one in bytes lose no bit of it (R312, R313). -/
theorem toInt_signExt_shiftLeft_two {n : Nat} (x : BitVec n) (h : n ≤ 30) :
    (signExt x <<< 2).toInt = 4 * x.toInt := by
  have range : (2 : Int) ^ (n - 1) ≤ 2 ^ 29 := pow_le_pow_right₀ (by omega) (by omega)
  have low := BitVec.le_toInt x
  have high := BitVec.toInt_lt (x := x)
  have extended := toInt_signExt x (by omega)
  have := (signExt x).isLt
  rw [BitVec.toInt_shiftLeft, Nat.shiftLeft_eq]
  rw [BitVec.toInt] at extended
  simp only [Int.bmod]
  omega

/-- The displacement of a conditional branch (R312). -/
theorem toInt_branchDisp12 (w1 : BitVec 11) (w : BitVec 1) :
    (branchDisp12 w1 w).toInt =
      4 * ((w1.toNat % 2 * 1024 + w1.toNat / 2 : Nat) - (if w = 1#1 then 2048 else 0)) := by
  rw [branchDisp12, toInt_signExt_shiftLeft_two _ (by omega), toInt_append_right (n := 1),
    toInt_append_right (n := 0), toNat_extractLsb'_zero_one, toNat_extractLsb'_one (m := 10), toInt_bit]
  split_ifs <;> omega

/-- The displacement of BL, GATE, BE and BLE (R313). -/
theorem toInt_branchDisp17 (w1 : BitVec 5) (w2 : BitVec 11) (w : BitVec 1) :
    (branchDisp17 w1 w2 w).toInt =
      4 * ((w1.toNat * 2048 + w2.toNat % 2 * 1024 + w2.toNat / 2 : Nat)
        - (if w = 1#1 then 65536 else 0)) := by
  rw [branchDisp17, toInt_signExt_shiftLeft_two _ (by omega), toInt_append_right (n := 6),
    toInt_append_right (n := 5), toInt_append_right (n := 0), toNat_extractLsb'_zero_one,
    toNat_extractLsb'_one (m := 10), toInt_bit]
  split_ifs <;> omega

/-- The number of a space register: the rightmost bit becomes the leftmost one (R314). -/
theorem toNat_assemble3 (x : BitVec 3) : (assemble3 x).toNat = x.toNat % 2 * 4 + x.toNat / 2 := by
  revert x
  decide

/-- The long immediate bit by bit (R315). -/
theorem mbit_longImm21 (x : BitVec 21) (i : Nat) (hi : i < 32) : mbit (longImm21 x) i =
    if i = 0 then x.getLsbD 0
    else if i ≤ 11 then x.getLsbD (20 - (i + 8))
    else if i ≤ 13 then x.getLsbD (20 - (i - 7))
    else if i ≤ 18 then x.getLsbD (20 - (i - 14))
    else if i ≤ 20 then x.getLsbD (20 - (i - 12))
    else false := by
  simp only [mbit, longImm21, BitVec.getLsbD_append, BitVec.getLsbD_extractLsb', BitVec.getLsbD_zero]
  interval_cases i <;> simp

end Sys2Proof

namespace Sys2Proof.Machine

theorem longImm21_low (x : BitVec 21) : longImm21 x &&& 0x7FF#32 = 0#32 :=
  and_low_eleven (BitVec.extractLsb'_append_eq_right ..)

/-- The completion of an instruction that only writes a general register. -/
theorem done_writes (s : State) (t : Reg) (v : Word) : Writes (done s (s.setGr t v)) s s [(t, v)] :=
  finishWord_wordIn t v false rfl

/-- Settles O26: each assembled field by the widths of its parts. -/
theorem immediates : Obligations.Immediates := by
  refine ⟨⟨fun x => toInt_lowSignExt (m := 4) x (by omega),
    fun x => toInt_lowSignExt (m := 10) x (by omega),
    fun x => toInt_lowSignExt (m := 13) x (by omega), toInt_branchDisp12, toInt_branchDisp17⟩,
    toNat_assemble3, mbit_longImm21, fun s b t i j => ?_⟩
  refine ⟨done_writes s t _, done_writes s t _, ?_, longImm21_low j⟩
  rw [BitVec.add_comm]
  exact done_writes s 1#5 _

end Sys2Proof.Machine
end

/-! ### Loads and stores -/

section
namespace Sys2Proof.Machine

/-- A load by what the checks of its reference answer (R410, R920). -/
theorem load_outcomes (s s' : State) (addr : Nat) (ref : DataRef) (ea : Ea) (b t : Reg)
    (value : State → Nat → Word) :
    (s.dataCheck ref ea.space ea.offset = .ok (s', addr) →
      Loads (load s ref ea b t value) s s' b t ea.base (value s' addr)) ∧
    ∀ n, s.dataCheck ref ea.space ea.offset = .trap n →
      TrapsRef (load s ref ea b t value) s n ref ea.space ea.offset ea.offset :=
  ⟨load_loads, fun _ trapped => access_trap trapped _⟩

/-- A store by what the checks of its reference answer (R410, R920). -/
theorem store_outcomes {s : State} (wf : s.mem.wf = true) (s' : State) (addr : Nat) (ref : DataRef)
    (ea : Ea) (b : Reg) (bytes : List Byte) :
    (s.dataCheck ref ea.space ea.offset = .ok (s', addr) →
      Stores (store s ref ea b bytes) s s' b ea.base addr bytes) ∧
    ∀ n, s.dataCheck ref ea.space ea.offset = .trap n →
      TrapsRef (store s ref ea b bytes) s n ref ea.space ea.offset ea.offset :=
  ⟨store_stores wf, fun _ trapped => access_trap trapped _⟩

/-- The byte that a store takes from a register is its low part. -/
theorem byteOf_eq (s : State) (v : Word) : s.byteOf v = [v.setWidth 8] := by
  rw [State.byteOf, BitVec.setWidth_eq_extractLsb' (by omega)]

/-- The halfword that a store takes from a register is its low part, in the order of PSW E. -/
theorem halfOf_eq (s : State) (v : Word) : s.halfOf v = halfBytes s.pswE (v.setWidth 16) := by
  rw [State.halfOf, BitVec.setWidth_eq_extractLsb' (by omega)]

/-- Settles O35: every load is the shared one, with its size, address form and datum. -/
theorem loadInstructions : Obligations.LoadInstructions := by
  intro s s' addr b x t sf i14 i5 u m a cc
  have byte (ea : Ea) := load_outcomes s s' addr (.plain .load 1) ea b t State.loadByte
  have half (ea : Ea) := load_outcomes s s' addr (.plain .load 2) ea b t State.loadHalf
  have word (ea : Ea) := load_outcomes s s' addr (.plain .load 4) ea b t State.loadWord
  simp only [List.forall_mem_cons]
  exact ⟨word _, half _, byte _, word _, word _, half _, byte _, word _, half _, byte _,
    List.forall_mem_nil _⟩

/-- Settles O36: every store is the shared one, with its size, address form and bytes. -/
theorem storeInstructions : Obligations.StoreInstructions := by
  intro s s' addr b r sf i14 i5 m a cc wf
  have byte (ea : Ea) := store_outcomes wf s' addr (.plain .store 1) ea b (s.byteOf (s.gr r))
  have half (ea : Ea) := store_outcomes wf s' addr (.plain .store 2) ea b (s.halfOf (s.gr r))
  have word (ea : Ea) := store_outcomes wf s' addr (.plain .store 4) ea b (s.wordOf (s.gr r))
  simp only [List.forall_mem_cons, ← byteOf_eq s, ← halfOf_eq]
  exact ⟨word _, half _, byte _, word _, word _, half _, byte _, List.forall_mem_nil _⟩

/-- The reference of an absolute instruction is not translated, whatever PSW D is (R409). -/
theorem dataCheck_of_absolute (s : State) {ref : DataRef} (absolute : ref.absolute = true)
    (space offset : Word) : s.dataCheck ref space offset = absoluteCheck s ref offset := by
  have untranslated : s.isVirtual ref = false := by simp [State.isVirtual, absolute]
  rw [State.dataCheck, untranslated, if_neg Bool.false_ne_true]

/-- Settles O37: at privilege level 0 each of the three is the shared load or store. -/
theorem absoluteInstructions : Obligations.AbsoluteInstructions := by
  intro s s' addr b x t i5 u m a cc level
  refine ⟨fun k => dataCheck_of_absolute s rfl, ?_⟩
  rintro ex es rfl rfl
  have word (ea : Ea) := load_outcomes s s' addr (.absoluteWord .load) ea b t State.loadWord
  have ldwax : exec (.ldwax b x u cc m t) s = _ := privileged_zero level _
  have ldwas : exec (.ldwas b i5 a cc m t) s = _ := privileged_zero level _
  have stwas : exec (.stwas b t a cc m i5) s = _ := privileged_zero level _
  rw [ldwax, ldwas, stwas]
  refine ⟨(word _).1, (word _).1, fun wf checked => store_stores wf checked, fun n => ?_⟩
  simp only [List.forall_mem_cons, ldwax, ldwas, stwas]
  exact ⟨(word _).2 n, (word _).2 n, fun trapped => access_trap trapped _, List.forall_mem_nil _⟩

end Sys2Proof.Machine
end

/-! ### Load and clear, store bytes -/

section
namespace Sys2Proof.Machine

/-- Bytes written to memory are stored, and nothing else is. -/
theorem storesAt_setBytes {s w : State} {a : Nat} {bytes : List Byte} (wf : s.mem.wf = true)
    (written : w.mem = s.mem.setBytes a bytes) : StoresAt s w a bytes :=
  ⟨fun i hi => written ▸ Memory.byteAt_setBytes_inside wf a i bytes hi,
    fun k outside => written ▸ Memory.byteAt_setBytes_outside wf a k bytes outside⟩

/-- A cleared word is four zero bytes in either byte order. -/
theorem wordBytes_zero (le : Bool) : wordBytes le 0#32 = [0#8, 0#8, 0#8, 0#8] := by
  cases le <;> rfl

/-- The checks of a reference leave what a word in memory reads as. -/
theorem SameButTlb.loadWord {s s' : State} (h : SameButTlb s s') (a : Nat) :
    s'.loadWord a = s.mem.word s.pswE a := by
  obtain ⟨_, _, _, _, rfl⟩ := h.exists
  rfl

/-- A load and clear by what the checks of its reference answer (R425, R920). -/
theorem loadAndClear_outcomes {s : State} (wf : s.mem.wf = true) (s' : State) (addr : Nat) (ea : Ea)
    (b t : Reg) :
    (s.dataCheck .semaphore ea.space ea.offset = .ok (s', addr) →
      ∃ w, Completes (loadAndClear s ea b t) s { s' with mem := w.mem } w
          ((t, s.mem.word s.pswE addr) :: (ea.base.map fun v => (b, v)).toList) false none
          s.pswCB s.pswV ∧
        StoresAt s w addr [0#8, 0#8, 0#8, 0#8]) ∧
    ∀ n, s.dataCheck .semaphore ea.space ea.offset = .trap n →
      TrapsRef (loadAndClear s ea b t) s n .semaphore ea.space ea.offset ea.offset := by
  refine ⟨fun checked => ?_, fun _ trapped => access_trap trapped _⟩
  have frame := dataCheck_frame checked
  obtain ⟨hg, hp, hf, hs, hm⟩ := frame.fields
  rw [← frame.loadWord]
  unfold loadAndClear State.access
  rw [access_ok checked, State.wordOf, wordBytes_zero]
  obtain ⟨w, completes⟩ := complete_plain (s := s) (base := s'.storeBytes addr [0#8, 0#8, 0#8, 0#8])
    (nullify := false) (target := none)
    (grsAre_modify_set (by simpa using hg) b t ea.base (s'.loadWord addr))
    (sameBut_setGr t _ (sameBut_modifyBase b ea.base (sameBut_refl _))) (by simp [hp]) (by simp [hp])
    (by simp) (by simp [hf]) (by simp [hs])
  have written : w.mem = s'.mem.setBytes addr [0#8, 0#8, 0#8, 0#8] := completes.rest.mem
  refine ⟨w, ?_, storesAt_setBytes wf (hm ▸ written)⟩
  rw [written]
  exact completes

/-- The byte position in a word as a number. -/
theorem toNat_and_three (w : Word) : (w &&& 3#32).toNat = w.toNat % 4 :=
  (BitVec.toNat_and ..).trans (Nat.and_two_pow_sub_one_eq_mod w.toNat 2)

/-- The address form of STBYS with the word address as a mask (R432). -/
theorem bytesEa_eq (s : State) (b : Reg) (i : BitVec 5) (sf : BitVec 2) (a m : BitVec 1) :
    bytesEa s b i sf a m = ⟨s.space sf (s.gr b),
      if m = 1#1 ∧ a = 0#1 then s.gr b else s.gr b + lowSignExt5 i,
      if m = 1#1 then some ((s.gr b + lowSignExt5 i) &&& 0xFFFFFFFC#32) else none⟩ := by
  rw [bytesEa_eq_shortEa, shortEa_eq]
  split_ifs <;> rfl

/-- STBYS by what the checks of the word answer: the part of the word it stores, in the beginning case from
the byte position on, in the ending case up to it (R432). -/
theorem execStbys_outcomes {s : State} (wf : s.mem.wf = true) (s' : State) (addr : Nat) (b r : Reg)
    (sf : BitVec 2) (a : BitVec 1) (cc : BitVec 2) (m : BitVec 1) (i5 : BitVec 5)
    {space offset : Word} {base : Option Word} (form : bytesEa s b i5 sf a m = ⟨space, offset, base⟩) :
    let word := wordBytes s.pswE (s.gr r)
    let k := offset.toNat % 4
    let aligned := offset &&& 0xFFFFFFFC#32
    (s.dataCheck (.plain .store 4) space aligned = .ok (s', addr) →
      (a = 0#1 → Stores (execStbys b r sf a cc m i5 s) s s' b base (addr + k) (word.drop k)) ∧
      (a = 1#1 → Stores (execStbys b r sf a cc m i5 s) s s' b base addr (word.take k))) ∧
    ∀ n, s.dataCheck (.plain .store 4) space aligned = .trap n →
      TrapsRef (execStbys b r sf a cc m i5 s) s n (.plain .store 4) space aligned offset := by
  intro word k aligned
  unfold execStbys
  simp only [form, toNat_and_three]
  refine ⟨fun checked => ?_, fun n trapped => access_trap trapped _⟩
  rw [access_ok checked]
  have stores (start : Nat) (bytes : List Byte) :=
    done_stores (b := b) (base := base) (a := start) (bytes := bytes) wf (dataCheck_frame checked)
  constructor
  · rintro rfl
    exact stores (addr + k) (word.drop k)
  · rintro rfl
    exact stores addr (word.take k)

/-- Settles O38: both load and clear forms are the shared one; STBYS by its two cases. -/
theorem semaphoresAndStoreBytes : Obligations.SemaphoresAndStoreBytes := by
  refine ⟨fun s s' addr b x t sf i5 u m a cc wf => ?_,
    fun s s' addr b r sf i5 m a cc wf =>
      execStbys_outcomes wf s' addr b r sf a cc m i5 (bytesEa_eq s b i5 sf a m)⟩
  have clear (ea : Ea) := loadAndClear_outcomes wf s' addr ea b t
  simp only [List.forall_mem_cons]
  exact ⟨clear _, clear _, List.forall_mem_nil _⟩

end Sys2Proof.Machine
end

/-! ### Privileged instructions and BREAK -/

section
namespace Sys2Proof.Machine

/-- What only privilege level 0 may execute, at another level (R630). -/
theorem privileged_traps {s : State} (h : s.priv ≠ 0#2) (act : Out) : Traps (privileged s act) s 10 :=
  if_neg h

/-- An operation on the TLB is privileged where there is virtual memory (R660 to R670). -/
theorem tlbOperation_traps {s : State} (level : s.priv ≠ 0#2) (above : s.level0 = false) (act : Out) :
    Traps (tlbOperation s act) s 10 := by
  rw [tlbOperation, above, if_neg Bool.false_ne_true]
  exact privileged_traps level act

/-- LPA is privileged where there is virtual memory (R655). -/
theorem execLpa_traps {s : State} (level : s.priv ≠ 0#2) (above : s.level0 = false) (b x : Reg)
    (sf : BitVec 2) (m : BitVec 1) (t : Reg) : Traps (execLpa b x sf m t s) s 10 := by
  rw [execLpa, above, if_neg Bool.false_ne_true]
  exact privileged_traps level _

/-- LCI is privileged on a machine with virtual memory and coherent I/O (R656). -/
theorem execLci_traps {s : State} (level : s.priv ≠ 0#2) (above : s.level0 = false)
    (coherent : s.cfg.coherentIo = true) (b x : Reg) (sf : BitVec 2) (t : Reg) :
    Traps (execLci b x sf t s) s 10 := by
  rw [execLci, above, coherent, if_neg (by decide)]
  exact privileged_traps level _

/-- The interruption registers that a trap of the instruction in execution writes while PSW Q is 1 (R930). -/
theorem take_instr_saves {s : State} (q : s.pswQ = true) (n : Nat) (w : Word) :
    (take n (.instr w) s).iir = w ∧ (take n (.instr w) s).iiaoqFront = s.iaoqFront := by
  simp only [take, q, if_true, IntParams.instr, Option.getD_some, and_self]

/-- Settles O16: the privilege test comes first in each; BREAK traps without one. -/
theorem breakAndPrivilegeTraps : Obligations.BreakAndPrivilegeTraps := by
  refine ⟨fun s level => ?_, fun i13 i5 s => ⟨_, rfl, rfl, fun q => take_instr_saves q 9 s.iword, rfl⟩⟩
  have traps (act : Out) := privileged_traps level act
  refine ⟨traps _, traps _, fun i t => ⟨traps _, traps _⟩, fun r => traps _, fun i => traps _,
    fun b x u cc m t => traps _, fun b im a cc m t => traps _, fun b r a cc m im => traps _,
    fun above => ?_⟩
  have tlb (act : Out) := tlbOperation_traps level above act
  exact ⟨fun b x p m => ⟨tlb _, tlb _⟩, fun b x p m => ⟨tlb _, tlb _⟩, fun b r p => ⟨tlb _, tlb _⟩,
    fun b r p => ⟨tlb _, tlb _⟩, fun b x p m t => execLpa_traps level above b x p m t,
    fun coherent b x p t => execLci_traps level above coherent b x p t⟩

end Sys2Proof.Machine
end

/-! ### Branches: completion, targets and privilege -/

section
namespace Sys2Proof.Machine

/-- The completion of an instruction that writes one general register, for any successor. -/
theorem complete_setGr (s : State) (t : Reg) (v : Word) (nullify : Bool) (target : Option Target) :
    ∃ w, Completes (.next (complete s (s.setGr t v) nullify target)) s s w [(t, v)] nullify target
      s.pswCB s.pswV :=
  complete_plain (grsAre_setGr t v) (sameBut_setGr t v (sameBut_refl s)) (by simp) rfl (by simp)
    (by simp) (by simp)

/-- The completion of an instruction that at most uses free values, for any successor. -/
theorem complete_draws {s u : State} (h : u = { s with draws := u.draws }) (nullify : Bool)
    (target : Option Target) :
    ∃ w, Completes (.next (complete s u nullify target)) s s w [] nullify target s.pswCB s.pswV := by
  rw [h]
  exact complete_plain (grsAre_congr rfl (grsAre_refl s)) (sameBut_draws _ (sameBut_refl s)) rfl rfl rfl
    rfl rfl

/-- A space register and a general register can be written in either order. -/
theorem setSr_setGr (s : State) (q : BitVec 3) (r : Reg) (x v : Word) :
    (s.setGr r v).setSr q x = (s.setSr q x).setGr r v := by
  unfold State.setSr State.setGr State.level0
  split_ifs <;> rfl

/-- The completion of BLE: a link in a general register, a space in a space register (R489). -/
theorem jump_linkSpace (s : State) (q : BitVec 3) (r : Reg) (x v : Word) (k : Nat) (n : BitVec 1)
    (target : Target) :
    Jumps (jump s { (s.setGr r v).setSr q x with draws := k } n target) s (s.setSr q x) [(r, v)]
      (isOne n) target :=
  complete_plain (grsAre_congr (by simp) (grsAre_setGr r v))
    (sameBut_draws k (setSr_setGr s q r x v ▸ sameBut_setGr r v (sameBut_refl _)))
    (by simp) (by simp) (by simp) (by simp) (by simp)

/-- The target space of BE and BLE in Level 0 (R515). -/
theorem externalSpace_level0 {s : State} (h : s.level0 = true) (p : BitVec 3) :
    s.externalSpace p = none := if_pos h

/-- PSW C exists only where there is virtual memory (R61). -/
theorem level0_of_pswC {s : State} (h : s.pswC = true) : s.level0 = false := by
  simpa using (Bool.and_eq_true_iff.1 h).2

/-- The target space of BE and BLE while code is translated (R488). -/
theorem externalSpace_translated {s : State} (h : s.pswC = true) (p : BitVec 3) :
    s.externalSpace p = some (s.sr (assemble3 p)) := by
  simp [State.externalSpace, level0_of_pswC h, h]

/-- Settles O27: each branch by the completion of its registers; GATE by PSW B, BE and BLE by PSW C. -/
theorem unconditionalBranches : Obligations.UnconditionalBranches := by
  refine ⟨fun s t b x w1 w2 n w => ⟨complete_setGr s t _ _ _, complete_setGr s t _ _ _,
    complete_draws rfl _ _, fun hB => ?_, fun hB => if_pos hB⟩,
    fun s b w1 p w2 n w => ⟨fun hC => ?_, fun hC => ?_⟩⟩
  · show Jumps (execGate t w1 w2 n w s) s s _ _ _
    rw [execGate, hB, if_neg Bool.false_ne_true]
    exact complete_setGr s t _ _ _
  · have be : Jumps (execBe b w1 p w2 n w s) s s _ _ _ := complete_draws rfl _ _
    have ble : Jumps (execBle b w1 p w2 n w s) s (s.setSr 0#3 _) _ _ _ := jump_linkSpace ..
    rw [if_pos hC, externalSpace_translated hC] at ble
    rw [externalSpace_translated hC] at be
    exact ⟨be, ble⟩
  · exact ⟨_, s.externalSpace p, fun h => externalSpace_level0 h p, complete_draws rfl _ _,
      jump_linkSpace ..⟩

/-! ### The privilege level of a target -/

/-- The privilege level of an offset put together from its word part and a level (R77). -/
theorem privOf_append (a : BitVec 30) (pl : BitVec 2) : privOf (a ++ pl) = pl :=
  BitVec.extractLsb'_append_eq_right ..

/-- The word part of such an offset. -/
theorem field_word_append (a : BitVec 30) (pl : BitVec 2) : field (a ++ pl) 0 30 = a :=
  BitVec.extractLsb'_append_eq_left ..

/-- The privilege level of a base relative target (R483). -/
theorem toNat_privOf_baseRelative (s : State) (base index : Word) :
    (privOf (s.baseRelative base index)).toNat = max s.priv.toNat (privOf base).toNat := by
  rw [State.baseRelative, privOf_append, ← State.priv]
  split_ifs <;> omega

/-- While code is not translated, a gateway promotes to level 0 (R485). -/
theorem gatePriv_untranslated {s : State} (h : s.pswC = false) : gatePriv s = 0#2 := by
  rw [gatePriv, h, if_neg Bool.false_ne_true]

/-- The entry that the fetch of a translated instruction used. -/
def State.fetchEntry (s : State) : Option TlbEntry :=
  tlbValid s.cfg (s.tlb true) s.iasqFront (vpnOf s.fetchOffset)

/-- With no entry for its page, a gateway keeps the privilege level. -/
theorem gatePriv_absent {s : State} (h : s.pswC = true) (absent : s.fetchEntry = none) :
    gatePriv s = s.priv := by
  rw [gatePriv, h, if_pos rfl, ← State.fetchEntry, absent]

/-- A gateway page of types 4 to 7 may promote to levels 0 to 3 (R485). -/
theorem toNat_gatePriv {s : State} {e : TlbEntry} (h : s.pswC = true) (found : s.fetchEntry = some e) :
    (gatePriv s).toNat =
      if 4 ≤ (arType e).toNat then min ((arType e).toNat - 4) s.priv.toNat else s.priv.toNat := by
  have level : ((arType e).extractLsb' 0 2).toNat = (arType e).toNat % 4 := by simp
  rw [gatePriv, h, if_pos rfl, ← State.fetchEntry, found]
  dsimp only
  rw [level]
  split_ifs <;> omega

/-- A gateway never loses privilege (R485). -/
theorem gatePriv_le (s : State) : (gatePriv s).toNat ≤ s.priv.toNat := by
  cases hC : s.pswC with
  | false => simp [gatePriv_untranslated hC]
  | true =>
    cases found : s.fetchEntry with
    | none => rw [gatePriv_absent hC found]
    | some e =>
      rw [toNat_gatePriv hC found]
      split_ifs <;> omega

/-- Settles O28: the two parts of a base relative target; a gateway by PSW C and the page it stands on. -/
theorem branchPrivilege : Obligations.BranchPrivilege := fun s base index =>
  ⟨toNat_privOf_baseRelative s base index, field_word_append _ _, gatePriv_le s, gatePriv_untranslated,
    fun hC _ found => toNat_gatePriv hC found⟩

end Sys2Proof.Machine
end

/-! ### Conditional branches -/

section
namespace Sys2Proof.Machine

/-- What `n` nullifies after a conditional branch: the successor of a backward branch that is not taken, of
a forward one that is (R491). -/
def branchNullify (taken : Bool) (w1 : BitVec 11) (n w : BitVec 1) : Bool :=
  isOne n && (if (branchDisp12 w1 w).toInt < 0 then !taken else taken)

/-- Where a conditional branch goes (R494). -/
def State.branchTarget (s : State) (taken : Bool) (w1 : BitVec 11) (w : BitVec 1) : Option Target :=
  if taken then some ⟨s.iaoqFront + branchDisp12 w1 w + 8#32, none⟩ else none

/-- The shared completion of the conditional branches (R491, R494). -/
theorem branchIf_eq (s s1 : State) (taken : Bool) (w1 : BitVec 11) (n w : BitVec 1) :
    branchIf s s1 taken w1 n w =
      .next (complete s s1 (branchNullify taken w1 n w) (s.branchTarget taken w1 w)) := by
  simp only [branchIf, branchNullify, State.branchTarget, State.relative, BitVec.slt, BitVec.toInt_zero,
    decide_eq_true_eq]

/-- The completion of a conditional branch that writes a general register. -/
theorem branchIf_setGr (s : State) (t : Reg) (v : Word) (taken : Bool) (w1 : BitVec 11) (n w : BitVec 1) :
    ∃ u, Completes (branchIf s (s.setGr t v) taken w1 n w) s s u [(t, v)] (branchNullify taken w1 n w)
      (s.branchTarget taken w1 w) s.pswCB s.pswV :=
  branchIf_eq .. ▸ complete_setGr s t v _ _

/-- The completion of a conditional branch that at most uses free values. -/
theorem branchIf_draws {s s1 : State} (h : s1 = { s with draws := s1.draws }) (taken : Bool)
    (w1 : BitVec 11) (n w : BitVec 1) :
    ∃ u, Completes (branchIf s s1 taken w1 n w) s s u [] (branchNullify taken w1 n w)
      (s.branchTarget taken w1 w) s.pswCB s.pswV :=
  branchIf_eq .. ▸ complete_draws h _ _

/-- A branch on a bit: its two listed conditions, and what deciding it can change (R510, R511, U36). -/
theorem bitCond_cases (s : State) (c : BitVec 3) (bit : Bool) :
    (s.bitCond c bit).2 = { s with draws := (s.bitCond c bit).2.draws } ∧
    (c = 2#3 → (s.bitCond c bit).1 = bit) ∧ (c = 6#3 → (s.bitCond c bit).1 = !bit) := by
  refine ⟨?_, ?_, ?_⟩
  · unfold State.bitCond
    split_ifs <;> rfl
  · rintro rfl
    rfl
  · rintro rfl
    rfl

/-- The completion of BB and BVB. -/
theorem branchIf_bitCond (s : State) (c : BitVec 3) (bit : Bool) (w1 : BitVec 11) (n w : BitVec 1) :
    ∃ taken u, Completes (branchIf s (s.bitCond c bit).2 (s.bitCond c bit).1 w1 n w) s s u []
        (branchNullify taken w1 n w) (s.branchTarget taken w1 w) s.pswCB s.pswV ∧
      (c = 2#3 → taken = bit) ∧ (c = 6#3 → taken = !bit) := by
  obtain ⟨frame, less, greaterEq⟩ := bitCond_cases s c bit
  obtain ⟨u, completes⟩ := branchIf_draws frame (s.bitCond c bit).1 w1 n w
  exact ⟨_, u, completes, less, greaterEq⟩

/-- Settles O29: each branch by what it writes; BB and BVB by the bit they test. -/
theorem conditionalBranches : Obligations.ConditionalBranches := by
  refine ⟨fun s r2 r1 c w1 n w i => ?_, fun s r q c w1 n w => ?_⟩
  · have write (t : Reg) (v : Word) (taken : Bool) := branchIf_setGr s t v taken w1 n w
    have plain (taken : Bool) := branchIf_draws (s := s) (s1 := s) rfl taken w1 n w
    simp only [List.forall_mem_cons]
    exact ⟨write .., write .., plain _, plain _, plain _, plain _, write .., write .., write ..,
      write .., List.forall_mem_nil _⟩
  · have test (bit : Bool) := branchIf_bitCond s c bit w1 n w
    simp only [List.forall_mem_cons]
    exact ⟨test _, test _, List.forall_mem_nil _⟩

end Sys2Proof.Machine
end

/-! ### The adder, the subtracter and the pre-shift as numbers -/

section
namespace Sys2Proof.Machine

theorem toNat_addWith (x y : Word) (cin : Bool) :
    (addWith x y cin).toNat = (x.toNat + y.toNat + cin.toNat) % 2 ^ 32 := by
  have carry : (if cin then 1#32 else 0#32).toNat = cin.toNat := by cases cin <;> rfl
  rw [addWith, BitVec.toNat_add, BitVec.toNat_add, carry, Nat.mod_add_mod]

/-- Without a carry in, the adder's word is the machine sum. -/
theorem addWith_false (x y : Word) : addWith x y false = x + y := BitVec.add_zero _

/-- The rightmost bit of a word to which a bit is appended. -/
theorem getLsbD_append_ofBool1_zero {n : Nat} (x : BitVec n) (b : Bool) :
    (x ++ ofBool1 b).getLsbD 0 = b := by
  rw [BitVec.getLsbD_append, if_pos Nat.zero_lt_one]
  cases b <;> rfl

/-- The other bits of a word to which a bit is appended. -/
theorem getLsbD_append_ofBool1_succ {n : Nat} (x : BitVec n) (b : Bool) (k : Nat) :
    (x ++ ofBool1 b).getLsbD (k + 1) = x.getLsbD k := by
  rw [BitVec.getLsbD_append, if_neg (by omega), Nat.add_sub_cancel]

/-- The carry/borrow bits are the digit carries, the leftmost digit first (R531). -/
theorem getLsbD_carryBorrows (x y : Word) (cin : Bool) (i : Nat) (hi : i < 8) :
    (carryBorrows x y cin).getLsbD (7 - i) = digitCarry x y cin i := by
  have leftmost (b : Bool) : (ofBool1 b).getLsbD 0 = b := by cases b <;> rfl
  interval_cases i <;>
    simp only [carryBorrows, Nat.reduceSub, getLsbD_append_ofBool1_succ, getLsbD_append_ofBool1_zero,
      leftmost]

/-- The carry of the leftmost digit leaves the word (R531). -/
theorem adder_carryOut_iff (x y : Word) (cin : Bool) :
    (adder x y cin).cb.getLsbD 7 = true ↔ 2 ^ 32 ≤ x.toNat + y.toNat + cin.toNat := by
  have hx := x.isLt
  have hy := y.isLt
  have bit : (adder x y cin).cb.getLsbD 7 = digitCarry x y cin 0 :=
    getLsbD_carryBorrows x y cin 0 (by omega)
  rw [bit, digitCarry, decide_eq_true_eq]
  omega

@[simp] theorem subtract_res (a b : Word) : (subtract a b).res = a - b := addWith_not a b

/-- The subtracter adds the complement and 1: as unsigned numbers, `2^32` more than the difference. -/
theorem toNat_add_not (a b : Word) :
    a.toNat + (~~~b).toNat + true.toNat + b.toNat = a.toNat + 2 ^ 32 := by
  have := b.isLt
  rw [BitVec.toNat_not, Bool.toNat_true]
  omega

theorem subtract_sv_iff (a b : Word) :
    (subtract a b).sv = true ↔ a.toInt - b.toInt < -2 ^ 31 ∨ 2 ^ 31 ≤ a.toInt - b.toInt := by
  have sum : a.toInt + (~~~b).toInt + (true.toNat : Int) = a.toInt - b.toInt := by
    rw [toInt_not_eq, Bool.toNat_true]
    omega
  rw [subtract, adder_sv_iff, sum]

theorem subtract_row4_iff (a b : Word) : (subtract a b).row4 = true ↔ a.toNat < b.toNat := by
  have := toNat_add_not a b
  rw [subtract, adder_row4_iff]
  omega

/-- A subtraction carries out of the word exactly when it does not borrow (R531). -/
theorem subtract_carryOut_iff (a b : Word) :
    (subtract a b).cb.getLsbD 7 = true ↔ b.toNat ≤ a.toNat := by
  have := toNat_add_not a b
  rw [subtract, adder_carryOut_iff]
  omega

/-- A word shifted left by `n` is a multiple of `2^n` as a signed number. -/
theorem two_pow_dvd_toInt_shiftLeft (w : Word) {n : Nat} (hn : n ≤ 32) :
    (2 ^ n : Int) ∣ (w <<< n).toInt := by
  have word : (2 ^ n : Int) ∣ ((2 ^ 32 : Nat) : Int) := by exact_mod_cast pow_dvd_pow 2 hn
  have shifted : (2 ^ n : Int) ∣ ((w.toNat <<< n : Nat) : Int) := by
    rw [Nat.shiftLeft_eq]
    exact_mod_cast Nat.dvd_mul_left _ _
  rw [BitVec.toInt_shiftLeft]
  exact (dvd_sub_right shifted).1 (word.trans Int.dvd_self_sub_bmod)

/-- Shifting back gives another word exactly when the shift is not the signed product by `2^n` (R538). -/
theorem preShift_sv_iff (w : Word) {n : Nat} (hn : n ≤ 32) :
    (preShift w n).sv = true ↔ (w <<< n).toInt ≠ w.toInt * 2 ^ n := by
  have back : ((w <<< n).sshiftRight n).toInt = (w <<< n).toInt / 2 ^ n := by
    rw [BitVec.toInt_sshiftRight, Int.shiftRight_eq_div_pow, Nat.cast_pow, Nat.cast_ofNat]
  rw [preShift, bne_iff_ne, ne_eq, ← BitVec.toInt_inj, back,
    Int.ediv_eq_iff_eq_mul_left (by positivity) (two_pow_dvd_toInt_shiftLeft w hn)]

/-- Some bit that the shift drops is 1 exactly when the unsigned product by `2^n` leaves the word (R538). -/
theorem preShift_uv_iff (w : Word) {n : Nat} (hn : n ≤ 32) :
    (preShift w n).uv = true ↔ 2 ^ 32 ≤ w.toNat * 2 ^ n := by
  have split : 2 ^ 32 = 2 ^ (32 - n) * 2 ^ n := by rw [← pow_add, Nat.sub_add_cancel hn]
  rw [preShift, bne_iff_ne, ne_eq, ← BitVec.toNat_inj, BitVec.toNat_ushiftRight, Nat.shiftRight_eq_div_pow,
    BitVec.toNat_zero, Nat.div_eq_zero_iff_lt (by positivity), Nat.not_lt, split,
    Nat.mul_le_mul_right_iff (by positivity)]

/-- Settles O17: the adder's and the subtracter's flags, and what the pre-shift loses, each as a number. -/
theorem arithmeticIsExact : Obligations.ArithmeticIsExact := by
  refine ⟨fun x y c => ⟨toNat_addWith x y c, fun i hi => ?_, adder_sv_iff x y c, adder_row4_iff x y c⟩,
    fun a b => ⟨subtract_res a b, subtract_sv_iff a b, subtract_row4_iff a b, subtract_carryOut_iff a b⟩,
    fun w n _ hn => ⟨preShift_sv_iff w (by omega), preShift_uv_iff w (by omega)⟩⟩
  show (carryBorrows x y c).getLsbD (7 - i) = true ↔ _
  rw [getLsbD_carryBorrows x y c i hi, digitCarry, decide_eq_true_eq]

end Sys2Proof.Machine
end

/-! ### Arithmetic instructions -/

section
namespace Sys2Proof.Machine

/-- The completion of an instruction that traps on signed overflow (R535). -/
theorem finishSumO_outcomes (s : State) (t : Reg) (x : Sum) (cond : Bool) :
    (x.sv = false → SumIn (finishSumO s t x cond) s t x cond) ∧
      (x.sv = true → Traps (finishSumO s t x cond) s 12) := by
  refine ⟨fun fits => ?_, fun overflows => if_pos overflows⟩
  rw [finishSumO, fits, if_neg Bool.false_ne_true]
  exact finishSum_sumIn s t x cond

/-- The completion of an instruction that traps on its condition (R551, R561). -/
theorem finishSumT_outcomes (s : State) (t : Reg) (x : Sum) (cond : Bool) :
    (cond = false → SumIn (finishSumT s t x cond) s t x false) ∧
      (cond = true → Traps (finishSumT s t x cond) s 13) := by
  refine ⟨?_, fun met => if_pos met⟩
  rintro rfl
  exact finishSum_sumIn s t x false

/-- The completion of an instruction that traps on signed overflow, then on its condition (R552, R562). -/
theorem finishSumTO_outcomes (s : State) (t : Reg) (x : Sum) (cond : Bool) :
    let o := if x.sv then trapInstr 12 s else finishSumT s t x cond
    (x.sv = true → Traps o s 12) ∧ (x.sv = false → cond = true → Traps o s 13) ∧
      (x.sv = false → cond = false → SumIn o s t x false) := by
  obtain ⟨completes, traps⟩ := finishSumT_outcomes s t x cond
  refine ⟨fun overflows => if_pos overflows, fun fits => ?_, fun fits => ?_⟩
  · rw [fits, if_neg Bool.false_ne_true]
    exact traps
  · rw [fits, if_neg Bool.false_ne_true]
    exact completes

/-- Settles O19: each instruction ends in the completion of a sum or of a word. -/
theorem sumInstructions : Obligations.SumInstructions := by
  refine ⟨fun s r2 r1 t c f i => ?_, fun s r2 r1 t c f i => ?_⟩
  · have sum (x : Sum) := finishSum_sumIn s t x (arithCond c f x)
    exact ⟨sum _, sum _, sum _, sum _, sum _, sum _⟩
  · have word (v : Word) (cond : Bool) := finishWord_wordIn (s := s) (u := s) t v cond rfl
    exact ⟨addWith_false (s.gr r1) (s.gr r2) ▸ word _ _, word _ _, word _ _⟩

/-- Settles O20: each instruction ends in the completion that traps on overflow, on the condition, or on
the one and then the other. -/
theorem trappingArithmetic : Obligations.TrappingArithmetic := by
  refine ⟨fun s r2 r1 t c f i => ?_, fun s r2 r1 t c f i => ⟨?_, ?_⟩⟩
  · have overflow (x : Sum) := finishSumO_outcomes s t x (arithCond c f x)
    simp only [List.forall_mem_cons]
    exact ⟨overflow _, overflow _, overflow _, overflow _, overflow _, overflow _, List.forall_mem_nil _⟩
  · have condition (x : Sum) := finishSumT_outcomes s t x (arithCond c f x)
    simp only [List.forall_mem_cons]
    exact ⟨condition _, condition _, List.forall_mem_nil _⟩
  · have both (x : Sum) := finishSumTO_outcomes s t x (arithCond c f x)
    simp only [List.forall_mem_cons]
    exact ⟨both _, both _, List.forall_mem_nil _⟩

end Sys2Proof.Machine
end

/-! ### Shift and add, divide step -/

section
namespace Sys2Proof.Machine

/-- What deciding the condition of a shift-and-add or divide step can change. -/
theorem shiftCond_frame (s : State) (c : BitVec 3) (f : BitVec 1) (sh : Shifted) (full plain : Sum) :
    (s.shiftCond c f sh full plain).2 =
      { s with draws := (s.shiftCond c f sh full plain).2.draws } := by
  unfold State.shiftCond
  split_ifs <;> rfl

/-- The condition of a shift-and-add or divide step: a free choice only with condition 2 or 3 while the
shift overflows (R338, U11). -/
theorem shiftCond_cases (s : State) (c : BitVec 3) (f : BitVec 1) (sh : Shifted) (full plain : Sum) :
    (s.shiftCond c f sh full plain).1 = arithCond c f full ∨
      sh.sv = true ∧ (c = 2#3 ∨ c = 3#3) ∧
        (s.shiftCond c f sh full plain).1 = arithCond c f plain := by
  unfold State.shiftCond
  split_ifs with choice free
  · exact .inl rfl
  · exact .inr ⟨choice.1, choice.2, rfl⟩
  · exact .inl rfl

/-- A shift that does not overflow leaves no choice. -/
theorem shiftCond_of_fits (s : State) (c : BitVec 3) (f : BitVec 1) {sh : Shifted} (fits : sh.sv = false)
    (full plain : Sum) : s.shiftCond c f sh full plain = (arithCond c f full, s) :=
  if_neg fun choice => Bool.false_ne_true (fits.symm.trans choice.1)

/-- The completion of an instruction that writes a general register and the flags, after free choices. -/
theorem doneNullify_setGr_psw {s u s1 : State} {t : Reg} {v : Word} {cb : BitVec 8} {b : Bool}
    (draws : u = { s with draws := u.draws }) (effect : s1 = { u.setGr t v with psw := s1.psw })
    (psw : ∀ i, i < 32 → mbit s1.psw i = if i = 14 then b
      else if 16 ≤ i ∧ i ≤ 23 then cb.getLsbD (23 - i) else mbit s.psw i) (nullify : Bool) :
    ∃ w, Completes (doneNullify s s1 nullify) s s w [(t, v)] nullify none cb b := by
  have grs : GrsAre s (u.setGr t v) [(t, v)] := by
    intro r
    rw [State.gr_setGr, draws]
    exact (State.gr_setGr s t r v).symm.trans (grsAre_setGr t v r)
  have rest : SameBut s (u.setGr t v) := sameBut_setGr t v (draws ▸ sameBut_draws _ (sameBut_refl s))
  refine complete_completes (grsAre_congr (by rw [effect]) grs) ?_ psw ?_ ?_ ?_
  · obtain ⟨_, _, _, _, _, _, _, _, same⟩ := rest.exists
    rw [effect, same]
    rfl
  all_goals rw [effect, draws]; simp

/-- The completion of an instruction that writes a sum, after a free choice of its condition. -/
theorem doneNullify_sumIn {s u : State} (draws : u = { s with draws := u.draws }) (t : Reg) (x : Sum)
    (nullify : Bool) :
    SumIn (doneNullify s ((u.setGr t x.res).setCB x.cb) nullify) s t x nullify := by
  refine doneNullify_setGr_psw draws rfl (fun i hi => ?_) nullify
  rw [psw_setCB _ _ i hi, State.pswV, State.setGr_psw, draws]
  rfl

/-- The flags with C/B and V replaced. -/
theorem psw_setCB_setV (s : State) (cb : BitVec 8) (b : Bool) (i : Nat) (hi : i < 32) :
    mbit ((s.setCB cb).setV b).psw i = if i = 14 then b
      else if 16 ≤ i ∧ i ≤ 23 then cb.getLsbD (23 - i) else mbit s.psw i := by
  show mbit (setMbit (s.setCB cb).psw 14 b) i = _
  rw [mbit_setMbit _ _ _ _ (by omega) hi, psw_setCB s cb i hi]
  split_ifs <;> rfl

/-- The completion of a divide step: its condition may need a free choice (R553, R338). -/
theorem finishDivide_completes (s : State) (t : Reg) (c : BitVec 3) (f : BitVec 1) (sh : Shifted)
    (x plain : Sum) (b : Bool) :
    let cond := s.shiftCond c f sh x plain
    ∃ nullify w,
      Completes (doneNullify s (((cond.2.setGr t x.res).setCB x.cb).setV b) cond.1) s s w [(t, x.res)]
        nullify none x.cb b ∧
      (nullify = arithCond c f x ∨ sh.sv = true ∧ (c = 2#3 ∨ c = 3#3) ∧ nullify = arithCond c f plain) := by
  intro cond
  have draws : cond.2 = { s with draws := cond.2.draws } := shiftCond_frame s c f sh x plain
  obtain ⟨w, completes⟩ := doneNullify_setGr_psw draws
    (s1 := ((cond.2.setGr t x.res).setCB x.cb).setV b) (t := t) (v := x.res) (cb := x.cb) (b := b) rfl
    (fun i hi => by rw [psw_setCB_setV _ _ _ i hi, State.setGr_psw, draws]) cond.1
  exact ⟨cond.1, w, completes, shiftCond_cases s c f sh x plain⟩

/-- SHnADD and SHnADDL end alike: the same sum and the same nullification (R538, R539). -/
theorem finishShift_completes (s : State) (t : Reg) (c : BitVec 3) (f : BitVec 1) (n : Nat) (a b : Word) :
    let sh := preShift a n
    let x := shiftAdd sh b
    ∃ nullify,
      SumIn (finishShift s c f n a b fun free x cond =>
        doneNullify s ((free.setGr t x.res).setCB x.cb) cond) s t x nullify ∧
      WordIn (finishShift s c f n a b fun free x cond => finishWord s free t x.res cond) s t x.res
        nullify ∧
      (nullify = arithCond c f x ∨ sh.sv = true ∧ (c = 2#3 ∨ c = 3#3) ∧
        nullify = arithCond c f { x with sv := (adder sh.value b false).sv }) := by
  intro sh x
  have draws := shiftCond_frame s c f sh x { x with sv := (adder sh.value b false).sv }
  exact ⟨_, doneNullify_sumIn draws t x _, finishWord_wordIn t x.res _ draws,
    shiftCond_cases s c f sh x _⟩

/-- SHnADDO: a sum that fits comes from a shift that fits, which leaves no choice (R540). -/
theorem finishShift_outcomes (s : State) (t : Reg) (c : BitVec 3) (f : BitVec 1) (n : Nat) (a b : Word) :
    let x := shiftAdd (preShift a n) b
    let o := finishShift s c f n a b fun free x cond =>
      if x.sv then trapInstr 12 s else doneNullify s ((free.setGr t x.res).setCB x.cb) cond
    (x.sv = true → Traps o s 12) ∧ (x.sv = false → SumIn o s t x (arithCond c f x)) := by
  intro x o
  refine ⟨fun overflows => if_pos overflows, fun fits => ?_⟩
  have shift : (preShift a n).sv = false := (Bool.or_eq_false_iff.1 fits).1
  have completes : o = finishSum s t x (arithCond c f x) := by
    show (if x.sv then _ else _) = _
    rw [fits, if_neg Bool.false_ne_true, shiftCond_of_fits s c f shift]
    rfl
  exact completes ▸ finishSum_sumIn s t x _

/-- Settles O21: the three instructions of a shift amount end in the shared completions. -/
theorem shiftAndAdd : Obligations.ShiftAndAdd := by
  intro s r2 r1 t c f
  have sum (n : Nat) : (shiftAdd (preShift (s.gr r1) n) (s.gr r2)).res = s.gr r1 <<< n + s.gr r2 :=
    addWith_false _ _
  have completes (n : Nat) := finishShift_completes s t c f n (s.gr r1) (s.gr r2)
  have overflow (n : Nat) := finishShift_outcomes s t c f n (s.gr r1) (s.gr r2)
  simp only [List.forall_mem_cons]
  exact ⟨⟨sum 1, rfl, rfl, rfl, completes 1, overflow 1⟩, ⟨sum 2, rfl, rfl, rfl, completes 2, overflow 2⟩,
    ⟨sum 3, rfl, rfl, rfl, completes 3, overflow 3⟩, List.forall_mem_nil _⟩

/-- The bit that a divide step shifts in stands where the shift left a 0 (R553). -/
theorem divideShift_value (w : Word) (bit : Bool) :
    (divideShift w bit).value = (w <<< 1) + (if bit then 1#32 else 0#32) := by
  have apart : (w <<< 1) &&& (if bit then 1#32 else 0#32) = 0#32 := by
    cases bit with
    | false => exact BitVec.and_zero
    | true =>
      refine BitVec.eq_of_getLsbD_eq fun k _ => ?_
      rw [BitVec.getLsbD_and, BitVec.getLsbD_shiftLeft, if_pos rfl, BitVec.getLsbD_one]
      by_cases h : k = 0 <;> simp [h]
  exact (BitVec.add_eq_or_of_and_eq_zero _ _ apart).symm

/-- The sum of a divide step, for an addition and for a subtraction (R553). -/
theorem divideAdd_res (sh : Shifted) (y : Word) (v : Bool) :
    (divideAdd sh y v).res = if v then sh.value - y else sh.value + y := by
  cases v with
  | false => exact addWith_false _ _
  | true => exact addWith_not _ _

/-- Settles O22: the operation by PSW V, then the completion of the divide step. -/
theorem divideStep : Obligations.DivideStep := by
  intro s r2 r1 t c f sh x sum
  obtain ⟨nullify, w, completes, cond⟩ := finishDivide_completes s t c f sh x
    { x with sv := if s.pswV then (subtract sh.value (s.gr r2)).sv else (adder sh.value (s.gr r2) false).sv }
    (x.cb.getLsbD 7 ^^ mbit (s.gr r2) 0)
  rw [← apply_ite Sum.sv] at cond
  exact ⟨divideShift_value _ _, rfl, rfl, divideAdd_res _ _ _, rfl, rfl, rfl, nullify, w, completes, cond⟩

end Sys2Proof.Machine
end

/-! ### Logical and unit instructions -/

section
namespace Sys2Proof.Machine

/-- A Boolean that is true exactly when a decidable proposition holds. -/
theorem eq_decide_of_iff {b : Bool} {p : Prop} [Decidable p] (h : b = true ↔ p) : b = decide p :=
  Bool.eq_iff_iff.2 (h.trans decide_eq_true_iff.symm)

/-- What deciding a logical condition can change. -/
theorem logicCond_frame (s : State) (c : BitVec 3) (f : BitVec 1) (res : Word) :
    (s.logicCond c f res).2 = { s with draws := (s.logicCond c f res).2.draws } := by
  unfold State.logicCond
  split_ifs <;> rfl

/-- Completion by Table 5-5, where the table defines the condition (R335). -/
theorem finishWord_logicCond (s : State) (t : Reg) (c : BitVec 3) (f : BitVec 1) (res : Word) :
    let cond := s.logicCond c f res
    ∃ n, WordIn (finishWord s cond.2 t res cond.1) s t res n ∧
      (c = 0#3 → n = isOne f) ∧ (c = 1#3 → n = Bool.xor (res == 0#32) (isOne f)) ∧
      (c = 2#3 → n = Bool.xor (decide (res.toInt < 0)) (isOne f)) ∧
      (c = 3#3 → n = Bool.xor (decide (res.toInt ≤ 0)) (isOne f)) ∧
      (c = 7#3 → n = Bool.xor (decide (res.toNat % 2 = 1)) (isOne f)) := by
  intro cond
  have draws : cond.2 = { s with draws := cond.2.draws } := logicCond_frame s c f res
  have negative : mbit res 0 = decide (res.toInt < 0) := eq_decide_of_iff (mbit_zero_iff res)
  have odd : mbit res 31 = decide (res.toNat % 2 = 1) := eq_decide_of_iff (mbit_last_iff res)
  have notPositive : (res == 0#32 || mbit res 0) = decide (res.toInt ≤ 0) := by
    refine eq_decide_of_iff ?_
    rw [Bool.or_eq_true, beq_iff_eq, mbit_zero_iff, ← BitVec.toInt_inj, BitVec.toInt_zero]
    omega
  refine ⟨cond.1, finishWord_wordIn t res _ draws, ?_, ?_, ?_, ?_, ?_⟩
  · rintro rfl
    exact Bool.false_xor _
  · rintro rfl
    rfl
  · rintro rfl
    rw [← negative, ← Bool.xor_false (mbit res 0)]
    rfl
  · rintro rfl
    rw [← notPositive, ← Bool.xor_false (mbit res 0)]
    rfl
  · rintro rfl
    rw [← odd]
    rfl

/-- A unit condition that Table 5-6 defines takes no free value (R336). -/
theorem unitCond_of_some {c : BitVec 3} {res : Word} {cy : BitVec 8} {b : Bool}
    (defined : unitBase c res cy = some b) (s : State) (f : BitVec 1) :
    s.unitCond c f res cy = (b ^^ isOne f, s) := by
  rw [State.unitCond, defined]

/-- A unit condition that Table 5-6 does not define is a free value (R336, U10). -/
theorem unitCond_of_none {c : BitVec 3} {res : Word} {cy : BitVec 8}
    (undefined : unitBase c res cy = none) (s : State) (f : BitVec 1) :
    s.unitCond c f res cy = s.drawBit := by
  rw [State.unitCond, undefined]

/-- What deciding a unit condition can change. -/
theorem unitCond_frame (s : State) (c : BitVec 3) (f : BitVec 1) (res : Word) (cy : BitVec 8) :
    (s.unitCond c f res cy).2 = { s with draws := (s.unitCond c f res cy).2.draws } := by
  cases h : unitBase c res cy with
  | none => rw [unitCond_of_none h]; rfl
  | some b => rw [unitCond_of_some h]

/-- Completion by Table 5-6 (R568, R570, R571). -/
theorem finishWord_unitCond (s : State) (t : Reg) (c : BitVec 3) (f : BitVec 1) (x : Sum) :
    let cond := s.unitCond c f x.res x.cb
    ∃ n, WordIn (finishWord s cond.2 t x.res cond.1) s t x.res n ∧
      ∀ b, unitBase c x.res x.cb = some b → n = Bool.xor b (isOne f) := by
  intro cond
  refine ⟨cond.1, finishWord_wordIn t x.res _ (unitCond_frame s c f x.res x.cb), fun b defined => ?_⟩
  exact congrArg Prod.fst (unitCond_of_some defined s f)

/-- UXOR: as the others where it defines its condition, a free value elsewhere (R567). -/
theorem finishWord_xorCond (s : State) (t : Reg) (c : BitVec 3) (f : BitVec 1) (res : Word) :
    let cond := s.xorCond c f res
    ∃ n, WordIn (finishWord s cond.2 t res cond.1) s t res n ∧
      ∀ b, c = 0#3 ∨ c = 2#3 ∨ c = 3#3 → unitBase c res 0#8 = some b → n = Bool.xor b (isOne f) := by
  intro cond
  by_cases listed : c = 0#3 ∨ c = 2#3 ∨ c = 3#3
  · have unit : cond = s.unitCond c f res 0#8 := if_pos listed
    obtain ⟨n, completes, defined⟩ := finishWord_unitCond s t c f ⟨res, 0#8, false, false⟩
    exact ⟨n, unit ▸ completes, fun b _ => defined b⟩
  · have free : cond = s.drawBit := if_neg listed
    exact ⟨_, finishWord_wordIn t res _ (by rw [free]; rfl), fun b h => absurd h listed⟩

/-- UADDCMT with a condition that Table 5-6 defines (R569). -/
theorem execUaddcmt_defined (s : State) (r2 r1 t : Reg) (c : BitVec 3) (f : BitVec 1) (b : Bool) :
    let x := adder (s.gr r1) (~~~(s.gr r2)) false
    unitBase c x.res x.cb = some b →
      (Bool.xor b (isOne f) = false → WordIn (execUaddcmt r2 r1 c f t s) s t x.res false) ∧
      (Bool.xor b (isOne f) = true → Traps (execUaddcmt r2 r1 c f t s) s 13) := by
  intro x defined
  have outcome : execUaddcmt r2 r1 c f t s =
      if b ^^ isOne f then trapInstr 13 s else finishWord s s t x.res false := by
    show (if (s.unitCond c f x.res x.cb).1 then _ else _) = _
    rw [unitCond_of_some defined]
    rfl
  rw [outcome]
  refine ⟨fun unmet => ?_, fun met => if_pos met⟩
  rw [unmet, if_neg Bool.false_ne_true]
  exact finishWord_wordIn t x.res false rfl

/-- UADDCMT with a condition that Table 5-6 leaves undefined: a free value decides (R569, U10). -/
theorem execUaddcmt_undefined (s : State) (r2 r1 t : Reg) (c : BitVec 3) (f : BitVec 1) :
    let x := adder (s.gr r1) (~~~(s.gr r2)) false
    unitBase c x.res x.cb = none →
      WordIn (execUaddcmt r2 r1 c f t s) s t x.res false ∨
        ∃ d, Traps (execUaddcmt r2 r1 c f t s) { s with draws := d } 13 := by
  intro x undefined
  have outcome : execUaddcmt r2 r1 c f t s =
      if Config.freeBit s.draws then trapInstr 13 { s with draws := s.draws + 1 }
      else finishWord s { s with draws := s.draws + 1 } t x.res false := by
    show (if (s.unitCond c f x.res x.cb).1 then _ else _) = _
    rw [unitCond_of_none undefined]
    rfl
  rw [outcome]
  split_ifs with free
  · exact .inr ⟨s.draws + 1, rfl⟩
  · exact .inl (finishWord_wordIn t x.res false rfl)

/-! ### The unit conditions on numbers -/

/-- A field is zero exactly when its digits of the number are. -/
theorem field_eq_zero_iff (w : Word) (i n : Nat) :
    field w i n = 0#n ↔ w.toNat / 2 ^ (32 - i - n) % 2 ^ n = 0 := by
  rw [← BitVec.toNat_inj, field, BitVec.extractLsb'_toNat, Nat.shiftRight_eq_div_pow]
  rfl

theorem someByteZero_iff (w : Word) :
    someByteZero w = true ↔ ∃ k : Fin 4, w.toNat / 256 ^ k.val % 256 = 0 := by
  simp only [someByteZero, Bool.or_eq_true, beq_iff_eq, field_eq_zero_iff]
  constructor
  · rintro (((zero | zero) | zero) | zero)
    exacts [⟨3, zero⟩, ⟨2, zero⟩, ⟨1, zero⟩, ⟨0, zero⟩]
  · rintro ⟨k, zero⟩
    fin_cases k
    exacts [.inr zero, .inl (.inr zero), .inl (.inl (.inr zero)), .inl (.inl (.inl zero))]

theorem someHalfZero_iff (w : Word) :
    someHalfZero w = true ↔ ∃ k : Fin 2, w.toNat / 65536 ^ k.val % 65536 = 0 := by
  simp only [someHalfZero, Bool.or_eq_true, beq_iff_eq, field_eq_zero_iff, Fin.exists_fin_two]
  exact Or.comm

/-- Some carry that a mask selects is 1: the mask holds the carries of `n` units, `step` digits wide each,
from the leftmost one on. -/
theorem and_mask_ne_zero_iff {mask : BitVec 8} {n step : Nat}
    (selects : ∀ i : Fin 8, mask.getLsbD i.val = true ↔ ∃ k : Fin n, i.val = 7 - step * k.val)
    (cy : BitVec 8) : (cy &&& mask != 0#8) = true ↔ ∃ k : Fin n, cy.getLsbD (7 - step * k.val) = true := by
  rw [bne_iff_ne]
  constructor
  · intro common
    by_contra none
    refine common (BitVec.eq_of_getLsbD_eq fun i hi => ?_)
    rw [BitVec.getLsbD_and, BitVec.getLsbD_zero, Bool.and_eq_false_iff, or_iff_not_imp_right,
      Bool.not_eq_false]
    intro selected
    obtain ⟨k, place⟩ := (selects ⟨i, hi⟩).1 selected
    exact Bool.eq_false_iff.2 fun set => none ⟨k, place ▸ set⟩
  · rintro ⟨k, set⟩ zero
    have selected := (selects ⟨7 - step * k.val, by omega⟩).2 ⟨k, rfl⟩
    have bit := congrArg (·.getLsbD (7 - step * k.val)) zero
    simp [set, selected] at bit

/-- Table 5-6 on the digits of the result and on the carries of its digits, bytes and halfwords (R336). -/
theorem unitBase_table (res : Word) (cy : BitVec 8) :
    unitBase 0#3 res cy = some false ∧
    unitBase 2#3 res cy = some (decide (∃ k : Fin 4, res.toNat / 256 ^ k.val % 256 = 0)) ∧
    unitBase 3#3 res cy = some (decide (∃ k : Fin 2, res.toNat / 65536 ^ k.val % 65536 = 0)) ∧
    unitBase 4#3 res cy = some (decide (∃ i : Fin 8, cy.getLsbD (7 - i.val) = true)) ∧
    unitBase 6#3 res cy = some (decide (∃ k : Fin 4, cy.getLsbD (7 - 2 * k.val) = true)) ∧
    unitBase 7#3 res cy = some (decide (∃ k : Fin 2, cy.getLsbD (7 - 4 * k.val) = true)) ∧
    unitBase 1#3 res cy = none ∧ unitBase 5#3 res cy = none := by
  have digits := and_mask_ne_zero_iff (mask := 0xFF#8) (n := 8) (step := 1) (by decide) cy
  have bytes := and_mask_ne_zero_iff (mask := 0xAA#8) (n := 4) (step := 2) (by decide) cy
  have halves := and_mask_ne_zero_iff (mask := 0x88#8) (n := 2) (step := 4) (by decide) cy
  have every : cy &&& 0xFF#8 = cy := BitVec.and_allOnes
  simp only [every, Nat.one_mul] at digits
  exact ⟨rfl, congrArg some (eq_decide_of_iff (someByteZero_iff res)),
    congrArg some (eq_decide_of_iff (someHalfZero_iff res)), congrArg some (eq_decide_of_iff digits),
    congrArg some (eq_decide_of_iff bytes), congrArg some (eq_decide_of_iff halves), rfl, rfl⟩

/-- The rightmost digit of a word to which a digit is appended. -/
theorem extractLsb'_append_digit_zero {n : Nat} (x : BitVec n) (d : BitVec 4) :
    (x ++ d).extractLsb' 0 4 = d := BitVec.extractLsb'_append_eq_right ..

/-- The other digits of a word to which a digit is appended. -/
theorem extractLsb'_append_digit_add {n : Nat} (x : BitVec n) (d : BitVec 4) (k : Nat) :
    (x ++ d).extractLsb' (k + 4) 4 = x.extractLsb' k 4 := by
  rw [BitVec.extractLsb'_append_eq_of_le (Nat.le_add_left 4 k), Nat.add_sub_cancel]

/-- The digits of the decimal correction, the leftmost first (R570, R571). -/
theorem field_sixes (cb : BitVec 8) (i : Nat) (hi : i < 8) :
    field (sixes cb) (4 * i) 4 = if cb.getLsbD (7 - i) then 6#4 else 0#4 := by
  interval_cases i <;>
    simp only [field, sixes, Nat.reduceMul, Nat.reduceSub, extractLsb'_append_digit_add,
      extractLsb'_append_digit_zero, BitVec.extractLsb'_eq_self]

/-- Settles O23: each instruction ends in the completion of its table's condition. -/
theorem logicalAndUnitInstructions : Obligations.LogicalAndUnitInstructions := by
  refine ⟨fun s r2 r1 t c f => ?_, fun s r2 r1 t c f => ⟨?_, ?_, ?_, ?_⟩, unitBase_table, field_sixes⟩
  · have logical (res : Word) := finishWord_logicCond s t c f res
    simp only [List.forall_mem_cons]
    exact ⟨logical _, logical _, logical _, logical _, List.forall_mem_nil _⟩
  · exact finishWord_xorCond s t c f _
  · have unit (x : Sum) := finishWord_unitCond s t c f x
    simp only [List.forall_mem_cons]
    exact ⟨unit _, unit _, unit _, List.forall_mem_nil _⟩
  · exact execUaddcmt_undefined s r2 r1 t c f
  · exact execUaddcmt_defined s r2 r1 t c f

end Sys2Proof.Machine
end

/-! ### Return from interruption -/

section
namespace Sys2Proof.Machine

/-- A return leaves the Recovery Counter and the general registers alone. -/
theorem returnFromInterruption_fields (s : State) :
    (returnFromInterruption s).rctr = s.rctr ∧ (returnFromInterruption s).grs = s.grs := by
  cases on : mbit s.ipsw 28 <;> simp [returnFromInterruption, on, State.loseIia]

/-- In `w` the PSW and the queues of `s` are restored: in Level 0 the space queue stays (R632). -/
def Restored (s w : State) : Prop :=
  w.psw = s.ipsw ∧ w.iaoqFront = s.iiaoqFront ∧ w.iaoqBack = s.iiaoqBack ∧
    (s.level0 = false → w.iasqFront = s.iiasqFront ∧ w.iasqBack = s.iiasqBack) ∧
    (s.level0 = true → w.iasqFront = s.iasqFront ∧ w.iasqBack = s.iasqBack)

/-- What a return with PSW Q = 0 restores (R632). -/
theorem returnFromInterruption_restores {s : State} (q : s.pswQ = false) :
    Restored s (returnFromInterruption s) := by
  have offsets : s.iiaOffsets = (s.iiaoqFront, s.iiaoqBack) := by simp [State.iiaOffsets, q]
  have spaces : s.iiaSpaces = (s.iiasqFront, s.iiasqBack) := by simp [State.iiaSpaces, q]
  cases on : mbit s.ipsw 28 <;> cases level : s.level0 <;>
    simp [returnFromInterruption, offsets, spaces, on, level, State.loseIia, Restored]

/-- With IPSW Q = 1, RFI writes the PSW, the queues and the Recovery Counter (R632). -/
theorem returnFromInterruption_keeps {s u : State} (counted : u = { s with rctr := u.rctr })
    (on : mbit s.ipsw 28 = true) :
    let w := returnFromInterruption u
    w = { s with
      psw := w.psw, iaoqFront := w.iaoqFront, iaoqBack := w.iaoqBack, iasqFront := w.iasqFront
      iasqBack := w.iasqBack, rctr := w.rctr } := by
  obtain ⟨rctr, rfl⟩ : ∃ r, u = { s with rctr := r } := ⟨_, counted⟩
  simp [returnFromInterruption, on]

/-- With IPSW Q = 0, RFI also loses the interruption queues (R632, U16). -/
theorem returnFromInterruption_loses {s u : State} (counted : u = { s with rctr := u.rctr })
    (off : mbit s.ipsw 28 = false) :
    let w := returnFromInterruption u
    w = { s with
      psw := w.psw, iaoqFront := w.iaoqFront, iaoqBack := w.iaoqBack, iasqFront := w.iasqFront
      iasqBack := w.iasqBack, rctr := w.rctr, draws := w.draws, iiaoqFront := w.iiaoqFront
      iiaoqBack := w.iiaoqBack, iiasqFront := w.iiasqFront, iiasqBack := w.iiasqBack } := by
  obtain ⟨rctr, rfl⟩ : ∃ r, u = { s with rctr := r } := ⟨_, counted⟩
  simp [returnFromInterruption, off, State.loseIia]

/-- One more general register, written after those of a list that does not name it. -/
theorem grsAre_setGr_append {s u : State} {l : List (Reg × Word)} (g : GrsAre s u l) {t : Reg}
    (new : l.lookup t = none) (v : Word) : GrsAre s (u.setGr t v) (l ++ [(t, v)]) := by
  intro r
  rw [State.gr_setGr, g r, List.lookup_append]
  by_cases h : r = t
  · subst h
    simp [new]
  · rw [if_neg h, show [(t, v)].lookup r = none by simp [List.lookup, beq_false_of_ne h], Option.or_none]
    split_ifs <;> rfl

/-- The shadowed registers come from the shadow registers (R633). -/
theorem restoreShadows_grsAre (s : State) :
    GrsAre s s.restoreShadows [(1, s.shr[0]), (8, s.shr[1]), (9, s.shr[2]), (16, s.shr[3]),
      (17, s.shr[4]), (24, s.shr[5]), (25, s.shr[6])] := by
  have g1 := grsAre_setGr_append (grsAre_refl s) (t := 1) rfl s.shr[0]
  have g8 := grsAre_setGr_append g1 (t := 8) rfl s.shr[1]
  have g9 := grsAre_setGr_append g8 (t := 9) rfl s.shr[2]
  have g16 := grsAre_setGr_append g9 (t := 16) rfl s.shr[3]
  have g17 := grsAre_setGr_append g16 (t := 17) rfl s.shr[4]
  have g24 := grsAre_setGr_append g17 (t := 24) rfl s.shr[5]
  exact grsAre_setGr_append g24 (t := 25) rfl s.shr[6]

/-- Writes of general registers write nothing else. -/
theorem setGr_frame {s u : State} (h : u = { s with grs := u.grs }) (r : Reg) (v : Word) :
    u.setGr r v = { s with grs := (u.setGr r v).grs } := by
  obtain ⟨grs, rfl⟩ : ∃ grs, u = { s with grs := grs } := ⟨_, h⟩
  unfold State.setGr
  split <;> rfl

/-- What RFIR writes before it returns. -/
theorem restoreShadows_frame (s : State) :
    s.restoreShadows = { s with
      grs := s.restoreShadows.grs, shr := s.restoreShadows.shr, draws := s.restoreShadows.draws } := by
  have grs := setGr_frame (setGr_frame (setGr_frame (setGr_frame (setGr_frame (setGr_frame
    (setGr_frame (s := s) (u := s) rfl 1 s.shr[0]) 8 s.shr[1]) 9 s.shr[2]) 16 s.shr[3]) 17 s.shr[4])
    24 s.shr[5]) 25 s.shr[6]
  rw [State.restoreShadows, grs]

theorem count_frame (s s0 : State) : s.count s0 = { s with rctr := (s.count s0).rctr } := by
  unfold State.count
  split <;> rfl

/-- The Recovery Counter after an executed instruction (R86). -/
theorem count_rctr (s s0 : State) :
    (s.count s0).rctr = if s0.pswR then s.rctr - 1#32 else s.rctr := by
  unfold State.count
  split <;> rfl

/-- RFI and RFIR at privilege level 0: `s1` is the state before the return, with the Recovery Counter not
yet counted. -/
theorem completeReturn_outcomes {s s1 : State} {o : Out} (level : s.priv = 0#2) (q : s.pswQ = false)
    (run : o = privileged s (.next (completeReturn s s1)))
    (frame : s1 = { s with grs := s1.grs, shr := s1.shr, draws := s1.draws }) :
    let w := returnFromInterruption (s1.count s)
    o = .next (group4 s w false false) ∧ (s.calm → o = .next w) ∧ Restored s w ∧
      w.rctr = (if s.pswR then s.rctr - 1#32 else s.rctr) ∧ w.grs = s1.grs := by
  rw [privileged_zero level] at run
  obtain ⟨rctr, grs⟩ := returnFromInterruption_fields (s1.count s)
  refine ⟨run, fun calm => run.trans (congrArg _ (group4_calm calm false false)), ?_, ?_, ?_⟩
  · rw [count_frame, frame]
    exact returnFromInterruption_restores q
  · rw [rctr, count_rctr, frame]
  · rw [grs, State.count_grs]

/-- What RFIR changes: with IPSW Q = 0 the interruption queues too (R633, U16). -/
theorem returnFromInterruption_shadows {s u : State}
    (frame : u = { s with grs := u.grs, shr := u.shr, draws := u.draws, rctr := u.rctr }) :
    let w := returnFromInterruption u
    w = { s with
      grs := w.grs, shr := w.shr, psw := w.psw, iaoqFront := w.iaoqFront, iaoqBack := w.iaoqBack
      iasqFront := w.iasqFront, iasqBack := w.iasqBack, rctr := w.rctr, draws := w.draws
      iiaoqFront := if mbit s.ipsw 28 then s.iiaoqFront else w.iiaoqFront
      iiaoqBack := if mbit s.ipsw 28 then s.iiaoqBack else w.iiaoqBack
      iiasqFront := if mbit s.ipsw 28 then s.iiasqFront else w.iiasqFront
      iiasqBack := if mbit s.ipsw 28 then s.iiasqBack else w.iiasqBack } := by
  obtain ⟨grs, shr, draws, rctr, rfl⟩ :
      ∃ g h n r, u = { s with grs := g, shr := h, draws := n, rctr := r } := ⟨_, _, _, _, frame⟩
  cases on : mbit s.ipsw 28 <;> simp [returnFromInterruption, on, State.loseIia]

/-- Settles O14: RFI returns from the state as it is, RFIR from the one with the shadowed registers
restored. (The obligation's own name is that of the model's function.) -/
theorem returnFromInterruption_holds : Obligations.ReturnFromInterruption := by
  refine ⟨fun s level q => ?_, fun s level q => ?_⟩
  · obtain ⟨next, calm, ⟨psw, front, back, spaces, level0⟩, rctr, -⟩ :=
      completeReturn_outcomes (o := exec .rfi s) (s1 := s) level q rfl rfl
    exact ⟨_, next, calm, psw, front, back, spaces, level0, rctr,
      returnFromInterruption_keeps (count_frame s s), returnFromInterruption_loses (count_frame s s)⟩
  · obtain ⟨next, calm, ⟨psw, front, back, spaces, level0⟩, rctr, grs⟩ :=
      completeReturn_outcomes (o := exec .rfir s) level q rfl (restoreShadows_frame s)
    refine ⟨_, next, calm, psw, front, back, spaces, level0, rctr,
      grsAre_congr grs (restoreShadows_grsAre s), returnFromInterruption_shadows ?_⟩
    rw [count_frame, restoreShadows_frame]

end Sys2Proof.Machine
end

/-! ### Space and control register moves -/

section
namespace Sys2Proof.Machine

/-- An instruction whose own effect is all of `base`. -/
theorem done_base_writes {s base : State} (grs : base.grs = s.grs) (psw : base.psw = s.psw)
    (hf : base.iaoqBack = s.iaoqBack) (hs : base.iasqBack = s.iasqBack) :
    Writes (done s base) s base [] :=
  complete_plain (grsAre_congr grs (grsAre_refl s)) (sameBut_refl base) psw psw rfl hf hs

/-- An instruction that changes nothing but the common state. -/
theorem done_null_writes (s : State) : Writes (done s s) s s [] :=
  done_base_writes rfl rfl rfl rfl

/-- In Level 0 the space registers read as zero (R45). -/
theorem sr_level0 {s : State} (level0 : s.level0 = true) (q : BitVec 3) : s.sr q = 0#32 :=
  if_pos level0

/-- In Level 0 a write of a space register is null (R45). -/
theorem setSr_level0 {s : State} (level0 : s.level0 = true) (q : BitVec 3) (v : Word) :
    s.setSr q v = s := if_pos level0

/-- A space register after a write. -/
theorem sr_setSr {s : State} (above : s.level0 = false) (p q : BitVec 3) (v : Word) :
    (s.setSr p v).sr q = if q = p then v else s.sr q := by
  have off : ¬ s.level0 = true := ne_true_of_eq_false above
  rw [State.setSr, if_neg off, State.sr, State.sr, if_neg off, ← readReg8_writeReg8]
  exact if_neg off

theorem setSr_writes (s : State) (q : BitVec 3) (v : Word) :
    Writes (done s (s.setSr q v)) s (s.setSr q v) [] :=
  done_base_writes (by simp) (by simp) (by simp) (by simp)

/-- SRs 5 to 7 are written at privilege level 0 only (R47, R641). -/
theorem execMtsp_traps {s : State} (above : s.level0 = false) (level : s.priv ≠ 0#2) (r : Reg)
    {p : BitVec 3} (kept : 5 ≤ (assemble3 p).toNat) : Traps (execMtsp r p s) s 11 :=
  if_pos ⟨by simp [above], kept, level⟩

theorem execMtsp_writes {s : State} (r : Reg) {p : BitVec 3}
    (free : s.level0 = true ∨ (assemble3 p).toNat < 5 ∨ s.priv = 0#2) :
    Writes (execMtsp r p s) s (s.setSr (assemble3 p) (s.gr r)) [] := by
  have permitted : ¬ (!s.level0 ∧ 5 ≤ (assemble3 p).toNat ∧ s.priv ≠ 0#2) := by
    rintro ⟨above, kept, level⟩
    rcases free with level0 | low | zero
    · simp [level0] at above
    · omega
    · exact level zero
  rw [execMtsp, if_neg permitted]
  exact setSr_writes s _ _

/-- Settles O40: reads write a general register, and MTSP is null, traps or writes a space register. -/
theorem spaceRegisterMoves : Obligations.SpaceRegisterMoves := by
  intro s b t sf p
  refine ⟨done_writes s t _, done_writes s t _, fun level0 => ⟨?_, sr_level0 level0 _⟩,
    fun above => ⟨fun kept level => execMtsp_traps above level b kept,
      fun free => execMtsp_writes b (.inr free), fun v => ?_⟩⟩
  · have null := execMtsp_writes (s := s) b (p := p) (.inl level0)
    rwa [setSr_level0 level0] at null
  · have same : (s.setSr p v).sr p = v := by rw [sr_setSr above, if_pos rfl]
    refine ⟨fun q other => by rw [sr_setSr above, if_neg other], ?_, fun _ => ?_, fun _ => same⟩ <;>
      rw [same]

/-- A permitted write of a control register leaves alone what the completion of an instruction needs. -/
theorem setCr_writes (s : State) (n : Nat) (v : Word) :
    Writes (done s (s.setCr n v)) s (s.setCr n v) [] := by
  have fields : (s.setCr n v).grs = s.grs ∧ (s.setCr n v).psw = s.psw ∧
      (s.setCr n v).iaoqBack = s.iaoqBack ∧ (s.setCr n v).iasqBack = s.iasqBack := by
    unfold State.setCr
    split <;> exact ⟨rfl, rfl, rfl, rfl⟩
  obtain ⟨grs, psw, hf, hs⟩ := fields
  exact done_base_writes grs psw hf hs

/-- The low 11 bits of an interruption vector address (R91). -/
theorem field_low_eleven_iff (v : Word) : field v 21 11 = 0#11 ↔ v &&& 0x7FF#32 = 0#32 := by
  refine ⟨and_low_eleven, fun clear => BitVec.eq_of_getLsbD_eq fun i hi => ?_⟩
  have bit := congrArg (·.getLsbD i) clear
  have low : (0x7FF#32).getLsbD i = true := by
    interval_cases i <;> rfl
  rw [field, BitVec.getLsbD_extractLsb', BitVec.getLsbD_zero]
  simpa [low, hi] using bit

/-- A register number is compared as a number. -/
theorem reg_eq_iff (t : Reg) {n : Nat} (hn : n < 32) : t = BitVec.ofNat 5 n ↔ t.toNat = n := by
  rw [← BitVec.toNat_inj, BitVec.toNat_ofNat, Nat.mod_eq_of_lt hn]

/-- The writes that are undefined at any privilege level (U18). -/
abbrev UndefinedWrite (s : State) (n : Nat) : Prop :=
  (1 ≤ n ∧ n ≤ 7) ∨ n = 0 ∧ s.pswR = true ∨ (n = 17 ∨ n = 18 ∨ n = 22) ∧ s.pswQ = true ∨
    (19 ≤ n ∧ n ≤ 21)

/-- The writes of ones to reserved bits (R91, R74). -/
abbrev ReservedWrite (s : State) (n : Nat) (v : Word) : Prop :=
  n = 14 ∧ field v 21 11 ≠ 0#11 ∨ n = 22 ∧ v &&& pswReserved s.cfg ≠ 0#32

/-- The reads that are undefined at any privilege level (U18). -/
abbrev UndefinedRead (s : State) (n : Nat) : Prop :=
  (1 ≤ n ∧ n ≤ 7) ∨ (17 ≤ n ∧ n ≤ 22) ∧ s.pswQ = true ∨ n = 0 ∧ s.pswR = true

/-- A register that exists is not one that Level 0 lacks (R82). -/
theorem not_absent {s : State} {n : Nat} (present : s.level0 = true → absentInLevel0 n = false) :
    ¬ (s.level0 = true ∧ absentInLevel0 n = true) := by
  rintro ⟨level0, absent⟩
  rw [present level0] at absent
  cases absent

/-- MTCTL of a register that exists, where the privilege test passes (R642). -/
theorem execMtctl_permitted {s : State} {t : Reg}
    (present : s.level0 = true → absentInLevel0 t.toNat = false)
    (allowed : t.toNat = 11 ∨ s.priv = 0#2) (r : Reg) :
    execMtctl t r s =
      if UndefinedWrite s t.toNat then .refused .controlRegisterWrite
      else if ReservedWrite s t.toNat (s.gr r) then .refused .reservedBits
      else done s (s.setCr t.toNat (s.gr r)) := by
  rw [execMtctl, if_neg (not_absent present),
    if_neg fun h => allowed.elim h.1 h.2]
  simp only [UndefinedWrite, ReservedWrite, ite_or]

/-- The tests of MTCTL in their order (R642). -/
theorem execMtctl_outcomes (s : State) (t r : Reg) :
    (s.level0 = true → absentInLevel0 t.toNat = true → Writes (execMtctl t r s) s s []) ∧
    ((s.level0 = true → absentInLevel0 t.toNat = false) →
      (t.toNat ≠ 11 → s.priv ≠ 0#2 → Traps (execMtctl t r s) s 11) ∧
      (t.toNat = 11 ∨ s.priv = 0#2 →
        (UndefinedWrite s t.toNat → execMtctl t r s = .refused .controlRegisterWrite) ∧
        (¬ UndefinedWrite s t.toNat → ReservedWrite s t.toNat (s.gr r) →
          execMtctl t r s = .refused .reservedBits) ∧
        (¬ UndefinedWrite s t.toNat → ¬ ReservedWrite s t.toNat (s.gr r) →
          Writes (execMtctl t r s) s (s.setCr t.toNat (s.gr r)) []))) := by
  refine ⟨fun level0 absent => ?_, fun present => ⟨fun other level => ?_, fun allowed => ?_⟩⟩
  · rw [execMtctl, if_pos ⟨level0, absent⟩]
    exact done_null_writes s
  · rw [execMtctl, if_neg (not_absent present)]
    exact if_pos ⟨other, level⟩
  · rw [execMtctl_permitted present allowed]
    refine ⟨fun undefined => if_pos undefined, fun defined reserved => ?_, fun defined clear => ?_⟩
    · rw [if_neg defined, if_pos reserved]
    · rw [if_neg defined, if_neg clear]
      exact setCr_writes s _ _

/-- A read that is undefined gives a free value (U18). -/
theorem done_drawWord_writes (s : State) (t : Reg) :
    Writes (done s (s.drawWord.2.setGr t s.drawWord.1)) s s [(t, s.drawWord.1)] :=
  finishWord_wordIn t _ false rfl

/-- The registers that MFCTL reads at every privilege level (R644). -/
abbrev ReadableRegister (s : State) (n : Nat) : Prop :=
  n = 11 ∨ n = 26 ∨ n = 27 ∨ n = 16 ∧ s.pswS = false

theorem readableRegister_iff (s : State) (n : Nat) :
    ReadableRegister s n ↔ (n == 11 || n == 26 || n == 27 || (n == 16 && !s.pswS)) = true := by
  simp [ReadableRegister, or_assoc]

/-- MFCTL of a register that exists, where the privilege test passes (R644). -/
theorem execMfctl_permitted {s : State} {r : Reg}
    (present : s.level0 = true → absentInLevel0 r.toNat = false)
    (allowed : s.priv = 0#2 ∨ ReadableRegister s r.toNat) (t : Reg) :
    execMfctl r t s =
      if UndefinedRead s r.toNat then done s (s.drawWord.2.setGr t s.drawWord.1)
      else done s (s.setGr t (s.cr r.toNat)) := by
  rw [execMfctl, if_neg (not_absent present), if_neg]
  · simp only [UndefinedRead, ite_or, and_assoc]
  · rw [readableRegister_iff] at allowed
    rintro ⟨level, unreadable⟩
    rcases allowed with zero | readable
    · exact level zero
    · rw [readable] at unreadable
      exact Bool.false_ne_true unreadable

/-- The tests of MFCTL in their order (R644). -/
theorem execMfctl_outcomes (s : State) (r t : Reg) :
    (s.level0 = true → absentInLevel0 r.toNat = true → Writes (execMfctl r t s) s s [(t, 0#32)]) ∧
    ((s.level0 = true → absentInLevel0 r.toNat = false) →
      (s.priv ≠ 0#2 → ¬ ReadableRegister s r.toNat → Traps (execMfctl r t s) s 11) ∧
      (s.priv = 0#2 ∨ ReadableRegister s r.toNat →
        (UndefinedRead s r.toNat → ∃ v, Writes (execMfctl r t s) s s [(t, v)]) ∧
        (¬ UndefinedRead s r.toNat → Writes (execMfctl r t s) s s [(t, s.cr r.toNat)]))) := by
  refine ⟨fun level0 absent => ?_, fun present => ⟨fun level unreadable => ?_, fun allowed => ?_⟩⟩
  · rw [execMfctl, if_pos ⟨level0, absent⟩]
    exact done_writes s t _
  · rw [execMfctl, if_neg (not_absent present)]
    rw [readableRegister_iff, Bool.not_eq_true] at unreadable
    exact if_pos ⟨level, by rw [unreadable]; rfl⟩
  · rw [execMfctl_permitted present allowed]
    refine ⟨fun undefined => ?_, fun defined => ?_⟩
    · rw [if_pos undefined]
      exact ⟨_, done_drawWord_writes s t⟩
    · rw [if_neg defined]
      exact done_writes s t _

/-- Settles O41: the tests of each instruction in their order, on the numbers of the registers. -/
theorem controlRegisterMoves : Obligations.ControlRegisterMoves := by
  refine ⟨fun s t r => ?_, fun s r t => ?_⟩
  · have outcomes := execMtctl_outcomes s t r
    simp only [UndefinedWrite, ReservedWrite, ne_eq, field_low_eleven_iff, ← reg_eq_iff,
      Nat.reduceLT] at outcomes
    exact outcomes
  · have outcomes := execMfctl_outcomes s r t
    simp only [ReadableRegister, UndefinedRead, ← reg_eq_iff, Nat.reduceLT] at outcomes
    exact outcomes

end Sys2Proof.Machine
end

/-! ### Instructions that translate or write a TLB -/

section
namespace Sys2Proof.Machine

/-- A base update, then a target, after a translation or a write of a TLB. -/
theorem modifyBase_setGr_writes {s u : State} (f : SameButTlb s u) (b : Reg) (x : Option Word) (t : Reg)
    (v : Word) : Writes (done s ((u.modifyBase b x).setGr t v)) s u
      ((t, v) :: (x.map fun y => (b, y)).toList) := by
  obtain ⟨hg, hp, hf, hs, -⟩ := f.fields
  exact complete_plain (grsAre_modify_set hg b t x v)
    (sameBut_setGr t v (sameBut_modifyBase b x (sameBut_refl u))) (by simp [hp]) hp (by simp)
    (by simp [hf]) (by simp [hs])

/-- A target alone. -/
theorem setGr_writes {s u : State} (f : SameButTlb s u) (t : Reg) (v : Word) :
    Writes (done s (u.setGr t v)) s u [(t, v)] := modifyBase_setGr_writes f 0#5 none t v

/-- A base update alone; free values may have been used. -/
theorem modifyBase_writes {s base u : State} (f : SameButTlb s base)
    (drawn : u = { base with draws := u.draws }) (b : Reg) (x : Option Word) :
    Writes (done s (u.modifyBase b x)) s base (x.map fun y => (b, y)).toList := by
  obtain ⟨hg, hp, hf, hs, -⟩ := f.fields
  rw [drawn]
  exact complete_plain (grsAre_modify (u := { base with draws := u.draws }) hg b x)
    (sameBut_modifyBase b x (sameBut_draws _ (sameBut_refl base))) (by simp [hp]) hp (by simp)
    (by simp [hf]) (by simp [hs])

/-- A write of a TLB that ends the reliance on a data translation. -/
theorem setTlb_frame (s : State) (instr : Bool) (l : List (Option TlbEntry)) :
    SameButTlb s { s.setTlb instr l with relied := none } := by
  unfold State.setTlb
  split <;> rfl

theorem unrely_setTlb (s : State) (instr : Bool) (l : List (Option TlbEntry)) :
    s.unrely.setTlb instr l = { s.setTlb instr l with relied := none } := by
  unfold State.setTlb State.unrely
  split <;> rfl

theorem draws_setTlb (s : State) (n : Nat) (instr : Bool) (l : List (Option TlbEntry)) :
    { s with draws := n }.setTlb instr l = { s.setTlb instr l with draws := n } := by
  unfold State.setTlb
  split <;> rfl

/-- The TLB that was written. -/
@[simp] theorem tlb_setTlb (s : State) (instr : Bool) (l : List (Option TlbEntry)) :
    (s.setTlb instr l).tlb instr = l := by
  unfold State.tlb State.setTlb
  split <;> simp_all

theorem tlb_congr {s u : State} (cfg : u.cfg = s.cfg) (itlb : u.itlb = s.itlb) (dtlb : u.dtlb = s.dtlb)
    (instr : Bool) : u.tlb instr = s.tlb instr := by
  rw [State.tlb, State.tlb, cfg, itlb, dtlb]

/-! ### The TLB instructions -/

/-- An insertion is a write of the TLB and uses a free value. -/
theorem tlbInsert_setTlb (s : State) (instr : Bool) (e : TlbEntry) :
    s.tlbInsert instr e =
      { s with draws := s.draws + 1 }.setTlb instr ((s.tlbInsert instr e).tlb instr) := by
  unfold State.tlbInsert
  dsimp only
  rw [← draws_setTlb, tlb_setTlb]

/-- A write of a TLB, with a base update. -/
theorem done_setTlb_writes (s : State) (n : Nat) (instr : Bool) (l : List (Option TlbEntry)) (b : Reg)
    (x : Option Word) :
    Writes (done s (({ s.unrely with draws := n }.setTlb instr l).modifyBase b x)) s
      { s.setTlb instr l with relied := none } (x.map fun y => (b, y)).toList := by
  rw [draws_setTlb, unrely_setTlb]
  exact modifyBase_writes (setTlb_frame s instr l) rfl b x

/-- In Level 0 an operation on a TLB is null (R660 to R670). -/
theorem tlbOperation_level0 {s : State} (level0 : s.level0 = true) (act : Out) :
    Writes (tlbOperation s act) s s [] := by
  rw [tlbOperation, if_pos level0]
  exact done_null_writes s

/-- An operation on a TLB where there is virtual memory, at privilege level 0. -/
theorem tlbOperation_permitted {s : State} (above : s.level0 = false) (level : s.priv = 0#2) (act : Out) :
    tlbOperation s act = act := by
  rw [tlbOperation, if_neg (ne_true_of_eq_false above), privileged_zero level]

/-- PDTLB and PITLB (R660, R661). -/
theorem purge_writes {s : State} (above : s.level0 = false) (level : s.priv = 0#2) (instr : Bool) (ea : Ea)
    (b : Reg) :
    Writes (purge s instr ea b) s
      { s.setTlb instr (tlbInvalidate s.cfg (s.tlb instr) ea.space (vpnOf ea.offset)) with relied := none }
      (ea.base.map fun v => (b, v)).toList := by
  rw [purge, tlbOperation_permitted above level]
  exact done_setTlb_writes s s.draws instr _ b ea.base

/-- PDTLBE and PITLBE (R662, R663). -/
theorem purgeSlot_writes {s : State} (above : s.level0 = false) (level : s.priv = 0#2) (instr : Bool)
    (ea : Ea) (b : Reg) :
    ∃ l, Writes (purgeSlot s instr ea b) s { s.setTlb instr l with relied := none }
      (ea.base.map fun v => (b, v)).toList := by
  rw [purgeSlot, tlbOperation_permitted above level]
  exact ⟨_, done_setTlb_writes s (s.draws + 1) instr _ b ea.base⟩

/-- The invalid entry that IDTLBA and IITLBA insert (R667, R669). -/
def addressEntry (space offset data : Word) : TlbEntry :=
  { space := space, vpn := vpnOf offset, ppn := field data 7 20, accessRights := 0
    accessId := 0, e := false, u := false, t := false, d := false, b := false }

/-- IDTLBA and IITLBA (R667, R669). -/
theorem insertAddress_writes {s : State} (above : s.level0 = false) (level : s.priv = 0#2) (instr : Bool)
    (space offset data : Word) :
    Writes (insertAddress s instr space offset data) s
      { s.setTlb instr ((s.unrely.tlbInsert instr (addressEntry space offset data)).tlb instr) with
        relied := none } [] := by
  rw [insertAddress, tlbOperation_permitted above level, tlbInsert_setTlb]
  exact done_setTlb_writes s (s.draws + 1) instr _ 0#5 none

/-- The slots after IDTLBP or IITLBP for the page (R668, R670). -/
def protectSlots (c : Config) (l : List (Option TlbEntry)) (instr : Bool) (space offset data : Word) :
    List (Option TlbEntry) :=
  match tlbSearch c l space (vpnOf offset) with
  | some i => l.modify i fun slot => slot.map (protectEntry c instr data)
  | none => l

/-- IDTLBP and IITLBP (R668, R670). -/
theorem insertProtection_writes {s : State} (above : s.level0 = false) (level : s.priv = 0#2)
    (instr : Bool) (space offset data : Word) :
    Writes (insertProtection s instr space offset data) s
      { s.setTlb instr (protectSlots s.cfg (s.tlb instr) instr space offset data) with relied := none }
      [] := by
  rw [insertProtection, tlbOperation_permitted above level]
  exact done_setTlb_writes s s.draws instr _ 0#5 none

/-! ### Which entry translates a page -/

/-- The slot holds a valid entry for the page. -/
def slotValid (c : Config) (space : Word) (vpn : BitVec 20) (slot : Option TlbEntry) : Bool :=
  slot.any fun e => e.e && tlbMatches c space vpn e

/-- The translation of a page is the first valid entry for it. -/
theorem tlbValid_eq (c : Config) (l : List (Option TlbEntry)) (space : Word) (vpn : BitVec 20) :
    tlbValid c l space vpn = (l.find? (slotValid c space vpn)).join := by
  have first : ∀ p, p = slotValid c space vpn →
      (match l.find? p with
        | some (some e) => some e
        | _ => none) = (l.find? (slotValid c space vpn)).join := by
    rintro _ rfl
    rcases l.find? (slotValid c space vpn) with _ | _ | e <;> rfl
  exact first _ (funext fun slot => by cases slot <;> rfl)

theorem slotMatches_of_slotValid {c : Config} {space : Word} {vpn : BitVec 20} {slot : Option TlbEntry}
    (valid : slotValid c space vpn slot = true) : slotMatches c space vpn slot = true := by
  cases slot with
  | none => cases valid
  | some e => exact (Bool.and_eq_true_iff.1 valid).2

/-- A page with no valid entry in any slot has no translation. -/
theorem tlbValid_eq_none {c : Config} {l : List (Option TlbEntry)} {space : Word} {vpn : BitVec 20}
    (invalid : ∀ slot ∈ l, slotValid c space vpn slot = false) : tlbValid c l space vpn = none := by
  rw [tlbValid_eq, List.find?_eq_none.2 fun slot mem => ne_true_of_eq_false (invalid slot mem)]
  rfl

/-- A change of the slots that makes none valid or invalid for a page, and leaves the valid ones as they are,
keeps the translation of the page. -/
theorem tlbValid_map {c : Config} {space : Word} {vpn : BitVec 20} {f : Option TlbEntry → Option TlbEntry}
    (valid : ∀ slot, slotValid c space vpn (f slot) = slotValid c space vpn slot)
    (kept : ∀ slot, slotValid c space vpn slot = true → f slot = slot) (l : List (Option TlbEntry)) :
    tlbValid c (l.map f) space vpn = tlbValid c l space vpn := by
  have same : slotValid c space vpn ∘ f = slotValid c space vpn := funext valid
  rw [tlbValid_eq, tlbValid_eq, List.find?_map, same]
  cases found : l.find? (slotValid c space vpn) with
  | none => rfl
  | some slot => rw [Option.map_some, kept slot (List.find?_some found)]

/-- A purge of a page leaves no valid entry for it (R197). -/
theorem tlbValid_tlbInvalidate_same (c : Config) (l : List (Option TlbEntry)) (space : Word)
    (vpn : BitVec 20) : tlbValid c (tlbInvalidate c l space vpn) space vpn = none := by
  refine tlbValid_eq_none fun slot mem => ?_
  obtain ⟨old, -, rfl⟩ := List.mem_map.1 mem
  cases old with
  | none => rfl
  | some e =>
    dsimp only
    split
    · rfl
    · rename_i other
      simp [slotValid, other]

/-- A purge of a page leaves the entries of pages with another page number. -/
theorem tlbValid_tlbInvalidate_other (c : Config) (l : List (Option TlbEntry)) (space sp : Word)
    {vpn vpn' : BitVec 20} (other : vpn' ≠ vpn) :
    tlbValid c (tlbInvalidate c l space vpn) sp vpn' = tlbValid c l sp vpn' := by
  have unmatched {e : TlbEntry} (same : tlbMatches c space vpn e = true) :
      tlbMatches c sp vpn' e = false := by
    simp only [tlbMatches, Bool.and_eq_true, beq_iff_eq] at same
    simp [tlbMatches, same.2, other.symm]
  refine tlbValid_map (fun slot => ?_) (fun slot valid => ?_) l
  · cases slot with
    | none => rfl
    | some e =>
      dsimp only
      split
      · rename_i same
        simp [slotValid, unmatched same]
      · rfl
  · cases slot with
    | none => rfl
    | some e =>
      refine if_neg fun same => ?_
      have matched := slotMatches_of_slotValid valid
      rw [slotMatches, unmatched same] at matched
      cases matched

/-- Settles O45: each instruction writes the slots of its TLB; a purge is read off the slots it leaves. -/
theorem tlbInstructions : Obligations.TlbInstructions := by
  intro s b x r sf p m ed ei wrote all
  have null (act : Out) (level0 : s.level0 = true) := tlbOperation_level0 level0 act
  refine ⟨?_, fun above level => ?_⟩
  · simp only [all, List.forall_mem_cons]
    refine ⟨⟨null _, fun above level => ⟨_, purge_writes above level false ed b⟩⟩,
      ⟨null _, fun above level => purgeSlot_writes above level false ed b⟩,
      ⟨null _, fun above level => ⟨_, purge_writes above level true ei b⟩⟩,
      ⟨null _, fun above level => purgeSlot_writes above level true ei b⟩,
      ⟨null _, fun above level => ⟨_, insertAddress_writes above level false _ _ _⟩⟩,
      ⟨null _, fun above level => ⟨_, insertProtection_writes above level false _ _ _⟩⟩,
      ⟨null _, fun above level => ⟨_, insertAddress_writes above level true _ _ _⟩⟩,
      ⟨null _, fun above level => ⟨_, insertProtection_writes above level true _ _ _⟩⟩,
      List.forall_mem_nil _⟩
  · have purged (instr : Bool) (ea : Ea) := tlbValid_tlbInvalidate_same s.cfg (s.tlb instr) ea.space
      (vpnOf ea.offset)
    have others (instr : Bool) (ea : Ea) (sp : Word) (vpn : BitVec 20) (other : vpn ≠ vpnOf ea.offset) :=
      tlbValid_tlbInvalidate_other s.cfg (s.tlb instr) ea.space sp other
    simp only [List.forall_mem_cons]
    exact ⟨⟨_, purge_writes above level false ed b, purged _ _, others _ _⟩,
      ⟨_, purge_writes above level true ei b, purged _ _, others _ _⟩, List.forall_mem_nil _⟩

end Sys2Proof.Machine
end

/-! ### Inserting a translation -/

section
namespace Sys2Proof.Machine

/-! A list in which one element satisfies a predicate -/

theorem find?_set_of_forall {α : Type} {p : α → Bool} {l : List α} {i : Nat} {x : α}
    (others : ∀ y ∈ l, p y = false) (hi : i < l.length) (hx : p x = true) :
    (l.set i x).find? p = some x := by
  refine List.find?_eq_some_iff_getElem.2 ⟨hx, i, by simpa using hi, by simp, fun j hj => ?_⟩
  rw [List.getElem_set_ne (by omega), others _ (List.getElem_mem _)]
  rfl

theorem findIdx?_set_of_forall {α : Type} {p : α → Bool} {l : List α} {i : Nat} {x : α}
    (others : ∀ y ∈ l, p y = false) (hi : i < l.length) (hx : p x = true) :
    (l.set i x).findIdx? p = some i := by
  refine List.findIdx?_eq_some_iff_getElem.2 ⟨by simpa using hi, by simpa using hx, fun j hj => ?_⟩
  rw [List.getElem_set_ne (by omega), others _ (List.getElem_mem _)]
  exact Bool.false_ne_true

theorem modify_set_same {α : Type} {l : List α} {i : Nat} (hi : i < l.length) (x : α) (f : α → α) :
    (l.set i x).modify i f = l.set i (f x) := by
  rw [List.modify_eq_set_getElem?, List.getElem?_set_self hi]
  exact List.set_set x

/-! The slot that an insertion takes -/

/-- No slot of the TLB matches a page once its entries are removed (R196). -/
theorem slotMatches_tlbRemove {c : Config} {l : List (Option TlbEntry)} {space : Word} {vpn : BitVec 20} :
    ∀ slot ∈ tlbRemove c l space vpn, slotMatches c space vpn slot = false := by
  intro slot mem
  obtain ⟨old, -, rfl⟩ := List.mem_map.1 mem
  split
  · rfl
  · rename_i other
    exact Bool.eq_false_iff.2 other

/-- An insertion takes the slot of the page's old entry, else an allocated one (R196). -/
def State.InsertsAt (s : State) (instr : Bool) (entry : TlbEntry) (i : Nat) : Prop :=
  tlbSearch s.cfg (s.tlb instr) entry.space entry.vpn = some i ∨
    tlbSearch s.cfg (s.tlb instr) entry.space entry.vpn = none ∧ s.tlbAlloc instr = some i

theorem tlb_tlbInsert {s : State} {instr : Bool} {entry : TlbEntry} {i : Nat}
    (slot : s.InsertsAt instr entry i) :
    (s.tlbInsert instr entry).tlb instr =
      (tlbRemove s.cfg (s.tlb instr) entry.space entry.vpn).set i (some entry) := by
  unfold State.tlbInsert
  dsimp only
  rw [← draws_setTlb, tlb_setTlb]
  rcases slot with old | ⟨new, allocated⟩
  · rw [old]
  · rw [new, allocated]

/-- Where no slot can be allocated, an insertion leaves the TLB. -/
theorem tlb_tlbInsert_full {s : State} {instr : Bool} {entry : TlbEntry}
    (full : ∀ i, ¬ s.InsertsAt instr entry i) : (s.tlbInsert instr entry).tlb instr = s.tlb instr := by
  have new : tlbSearch s.cfg (s.tlb instr) entry.space entry.vpn = none :=
    Option.eq_none_iff_forall_ne_some.2 fun i old => full i (.inl old)
  have unallocated : s.tlbAlloc instr = none :=
    Option.eq_none_iff_forall_ne_some.2 fun i allocated => full i (.inr ⟨new, allocated⟩)
  unfold State.tlbInsert
  dsimp only
  rw [← draws_setTlb, tlb_setTlb, new, unallocated]

/-- With nothing relied upon every slot is a candidate, so one can be allocated (R196, D6 (a)). -/
theorem exists_tlbAlloc {s : State} {instr : Bool} (free : s.relied = none)
    (full : (s.tlb instr).length = s.tlbSlots instr) :
    ∃ i < (s.tlb instr).length, s.tlbAlloc instr = some i := by
  have lt {p : Option TlbEntry → Bool} {i : Nat} (found : (s.tlb instr).findIdx? p = some i) :
      i < (s.tlb instr).length := (List.findIdx?_eq_some_iff_getElem.1 found).1
  have candidates : (List.range (s.tlbSlots instr)).filter
      (fun i => !s.heldSlot instr ((s.tlb instr).getD i none)) = List.range (s.tlbSlots instr) := by
    simp [State.heldSlot, free]
  have some_slot : 0 < s.tlbSlots instr := by
    unfold State.tlbSlots
    split <;> exact Nat.succ_pos _
  unfold State.tlbAlloc
  dsimp only
  split
  · rename_i i empty
    exact ⟨i, lt empty, rfl⟩
  · split
    · rename_i i invalid
      exact ⟨i, lt invalid, rfl⟩
    · rw [candidates, List.length_range, full]
      have choice := Nat.mod_lt (Config.freeIndex s.draws) some_slot
      exact ⟨_, choice, by simp [choice]⟩

/-- An insertion with nothing relied upon finds a slot. -/
theorem exists_insertsAt {s : State} {instr : Bool} (free : s.relied = none)
    (full : (s.tlb instr).length = s.tlbSlots instr) (entry : TlbEntry) :
    ∃ i < (s.tlb instr).length, s.InsertsAt instr entry i := by
  cases found : tlbSearch s.cfg (s.tlb instr) entry.space entry.vpn with
  | some i => exact ⟨i, (List.findIdx?_eq_some_iff_getElem.1 found).1, .inl found⟩
  | none =>
    obtain ⟨i, hi, allocated⟩ := exists_tlbAlloc free full
    exact ⟨i, hi, .inr ⟨found, allocated⟩⟩

/-! The page's only entry -/

/-- Slot `i` holds `e`, an entry for the page, and no other slot matches the page. -/
def HoldsOnly (c : Config) (l : List (Option TlbEntry)) (space : Word) (vpn : BitVec 20)
    (e : TlbEntry) : Prop :=
  ∃ (r : List (Option TlbEntry)) (i : Nat), l = r.set i (some e) ∧ i < r.length ∧
    tlbMatches c space vpn e = true ∧ ∀ slot ∈ r, slotMatches c space vpn slot = false

theorem tlbMatches_self (c : Config) (e : TlbEntry) : tlbMatches c e.space e.vpn e = true := by
  simp [tlbMatches]

/-- After an insertion that finds a slot, the entry is the page's only one. -/
theorem tlbInsert_holdsOnly {s : State} {instr : Bool} (free : s.relied = none)
    (full : (s.tlb instr).length = s.tlbSlots instr) (entry : TlbEntry) :
    HoldsOnly s.cfg ((s.tlbInsert instr entry).tlb instr) entry.space entry.vpn entry := by
  obtain ⟨i, hi, slot⟩ := exists_insertsAt free full entry
  exact ⟨_, i, tlb_tlbInsert slot, by simpa [tlbRemove] using hi, tlbMatches_self _ _,
    slotMatches_tlbRemove⟩

theorem slotValid_of_unmatched {c : Config} {space : Word} {vpn : BitVec 20} {slot : Option TlbEntry}
    (unmatched : slotMatches c space vpn slot = false) : slotValid c space vpn slot = false :=
  Bool.eq_false_iff.2 fun valid => by simp [slotMatches_of_slotValid valid] at unmatched

/-- An invalid only entry does not translate the page (R180, R192). -/
theorem HoldsOnly.invalid {c : Config} {l : List (Option TlbEntry)} {space : Word} {vpn : BitVec 20}
    {e : TlbEntry} (h : HoldsOnly c l space vpn e) (off : e.e = false) :
    tlbValid c l space vpn = none := by
  obtain ⟨r, i, rfl, -, -, others⟩ := h
  refine tlbValid_eq_none fun slot mem => ?_
  rcases List.mem_or_eq_of_mem_set mem with other | rfl
  · exact slotValid_of_unmatched (others slot other)
  · simp [slotValid, off]

/-- A valid only entry translates the page. -/
theorem HoldsOnly.valid {c : Config} {l : List (Option TlbEntry)} {space : Word} {vpn : BitVec 20}
    {e : TlbEntry} (h : HoldsOnly c l space vpn e) (on : e.e = true) :
    tlbValid c l space vpn = some e := by
  obtain ⟨r, i, rfl, hi, matched, others⟩ := h
  rw [tlbValid_eq, find?_set_of_forall (fun slot mem => slotValid_of_unmatched (others slot mem)) hi]
  · rfl
  · simp [slotValid, on, matched]

/-- Protection goes into the page's only entry (R668, R670). -/
theorem HoldsOnly.protect {c : Config} {l : List (Option TlbEntry)} {space offset : Word} {e : TlbEntry}
    (h : HoldsOnly c l space (vpnOf offset) e) (instr : Bool) (data : Word) :
    HoldsOnly c (protectSlots c l instr space offset data) space (vpnOf offset)
      (protectEntry c instr data e) := by
  obtain ⟨r, i, rfl, hi, matched, others⟩ := h
  refine ⟨r, i, ?_, hi, matched, others⟩
  rw [protectSlots, tlbSearch, findIdx?_set_of_forall (x := some e) others hi matched]
  exact modify_set_same hi _ _

/-! Two insertions in sequence -/

/-- The privileges, the armed traps, the registers and the parameters after an instruction of one word that
neither branches nor writes a general or a space register. -/
structure Continues (s w : State) : Prop where
  cfg : w.cfg = s.cfg
  srs : w.srs = s.srs
  gr : ∀ r, w.gr r = s.gr r
  priv : w.priv = privOf s.iaoqBack
  calm : s.calm → w.calm

theorem Completes.continues {o : Out} {s base w : State}
    (h : Completes o s base w [] false none s.pswCB s.pswV) (cfg : base.cfg = s.cfg)
    (srs : base.srs = s.srs) (psw : base.psw = s.psw) : Continues s w where
  cfg := (congrArg State.cfg h.rest).trans cfg
  srs := (congrArg State.srs h.rest).trans srs
  gr r := (h.grs r).trans (grsAre_refl s r).symm
  priv := congrArg privOf h.iaoqFront
  calm := by
    have same (i : Nat) (hi : i < 10) (front : 2 ≤ i) : mbit w.psw i = mbit s.psw i := by
      rw [h.psw i (by omega), psw, if_neg (by omega), if_neg (by omega), if_neg (by omega),
        if_neg (by omega), if_neg (by omega)]
    rintro ⟨hH, hL, hT⟩
    exact ⟨(same 8 (by omega) (by omega)).trans hH, (same 9 (by omega) (by omega)).trans hL,
      (same 7 (by omega) (by omega)).trans hT⟩

/-- A write of a TLB with no trap of group 4 armed. -/
theorem Writes.next_setTlb {o : Out} {s : State} {instr : Bool} {l : List (Option TlbEntry)}
    (h : Writes o s { s.setTlb instr l with relied := none } []) (calm : s.calm) :
    ∃ w, o = .next w ∧ w.tlb instr = l ∧ Continues s w := by
  obtain ⟨w, hw⟩ := h
  refine ⟨w, hw.calm calm, ?_, hw.continues (by simp) (by simp) (by simp)⟩
  rw [tlb_congr (congrArg State.cfg hw.rest) (congrArg State.itlb hw.rest) (congrArg State.dtlb hw.rest)]
  exact tlb_setTlb s instr l

theorem Continues.level0 {s w : State} (h : Continues s w) : w.level0 = s.level0 := by
  rw [State.level0, State.level0, h.cfg]

theorem Continues.sr {s w : State} (h : Continues s w) (q : BitVec 3) : w.sr q = s.sr q := by
  rw [State.sr, State.sr, h.level0, h.srs]

theorem Continues.space {s w : State} (h : Continues s w) (sf : BitVec 2) (base : Word) :
    w.space sf base = s.space sf base := h.sr _

/-- The fields that address and protection give the entry of the page (R667 to R670). -/
theorem protectEntry_addressEntry (c : Config) (instr : Bool) (space offset data prot : Word) :
    let e := protectEntry c instr prot (addressEntry space offset data)
    e.ppn = field data 7 20 ∧ e.accessRights = field prot 5 7 ∧
      e.accessId = field prot 13 18 &&& accessIdMask c ∧
      (instr = false ∨ c.tlbCombined = true →
        e.t = mbit prot 2 ∧ e.d = mbit prot 3 ∧ e.b = mbit prot 4 ∧ e.u = mbit prot 12) := by
  refine ⟨rfl, rfl, rfl, fun h => ?_⟩
  have flags : (!instr || c.tlbCombined) = true := by
    rcases h with data | combined
    · simp [data]
    · simp [combined]
  simp [protectEntry, flags]

/-- Inserting address, then protection: `protect` is the second instruction. -/
theorem insertions_translate {s : State} (above : s.level0 = false) (level : s.priv = 0#2)
    (back : privOf s.iaoqBack = 0#2) (calm : s.calm) {instr : Bool}
    (full : (s.tlb instr).length = s.tlbSlots instr) (space offset data prot : Word)
    {protect : State → Out}
    (second : ∀ w, Continues s w → protect w = insertProtection w instr space offset prot) :
    ∃ s1 s2 e, insertAddress s instr space offset data = .next s1 ∧
      tlbValid s1.cfg (s1.tlb instr) space (vpnOf offset) = none ∧
      protect s1 = .next s2 ∧ tlbValid s2.cfg (s2.tlb instr) space (vpnOf offset) = some e ∧
      e.ppn = field data 7 20 ∧ e.accessRights = field prot 5 7 ∧
      e.accessId = field prot 13 18 &&& accessIdMask s.cfg ∧
      (instr = false ∨ s.cfg.tlbCombined = true →
        e.t = mbit prot 2 ∧ e.d = mbit prot 3 ∧ e.b = mbit prot 4 ∧ e.u = mbit prot 12) := by
  obtain ⟨s1, run1, slots1, next1⟩ :=
    (insertAddress_writes above level instr space offset data).next_setTlb calm
  have address : HoldsOnly s1.cfg (s1.tlb instr) space (vpnOf offset) (addressEntry space offset data) := by
    rw [slots1, next1.cfg]
    exact tlbInsert_holdsOnly (s := s.unrely) rfl full (addressEntry space offset data)
  obtain ⟨s2, run2, slots2, next2⟩ :=
    (insertProtection_writes (s := s1) (next1.level0.trans above) (next1.priv.trans back) instr space
      offset prot).next_setTlb (next1.calm calm)
  have translated := (address.protect instr prot).valid rfl
  rw [← slots2, ← next2.cfg] at translated
  refine ⟨s1, s2, _, run1, address.invalid rfl, (second s1 next1).trans run2, translated, ?_⟩
  rw [next2.cfg, next1.cfg]
  exact protectEntry_addressEntry s.cfg instr space offset data prot

/-- Settles O44: the address leaves an invalid entry, the page's only one, which the protection completes. -/
theorem tlbInsertTranslates : Obligations.TlbInsertTranslates := by
  intro s b r q sf p3 above level back calm p hp
  rcases List.mem_pair.1 hp with rfl | rfl <;> intro full
  · refine insertions_translate above level back calm full _ (s.gr b) (s.gr r) (s.gr q)
      (protect := exec (.idtlbp b q sf)) fun w next => ?_
    show insertProtection w false (w.space sf (w.gr b)) (w.gr b) (w.gr q) = _
    rw [next.gr, next.gr, next.space]
  · refine insertions_translate above level back calm full _ (s.gr b) (s.gr r) (s.gr q)
      (protect := exec (.iitlbp b q p3)) fun w next => ?_
    show insertProtection w true (w.sr (assemble3 p3)) (w.gr b) (w.gr q) = _
    rw [next.gr, next.gr, next.sr]

end Sys2Proof.Machine
end

/-! ### The translation that is relied upon -/

section
namespace Sys2Proof.Machine

/-- The first element that satisfies a predicate, after a change from and to an element that does not. -/
theorem find?_set_of_not {α : Type} {p : α → Bool} {l : List α} {i : Nat} {x : α}
    (new : p x = false) (old : ∀ y, l[i]? = some y → p y = false) : (l.set i x).find? p = l.find? p := by
  induction l generalizing i with
  | nil => rfl
  | cons y l ih =>
    cases i with
    | zero => rw [List.set_cons_zero, List.find?_cons, List.find?_cons, new, old y rfl]
    | succ i => rw [List.set_cons_succ, List.find?_cons, List.find?_cons, ih old]

/-- Two pages with an entry in common are the same page. -/
theorem tlbMatches_congr {c : Config} {sp sp' : Word} {vpn vpn' : BitVec 20} {e : TlbEntry}
    (h : tlbMatches c sp vpn e = true) (h' : tlbMatches c sp' vpn' e = true) (f : TlbEntry) :
    tlbMatches c sp vpn f = tlbMatches c sp' vpn' f := by
  simp only [tlbMatches, Bool.and_eq_true, beq_iff_eq] at h h'
  rw [tlbMatches, tlbMatches, ← h.1, ← h.2, h'.1, h'.2]

/-- No entry is for a page that is translated and for one that is not. -/
theorem tlbMatches_of_miss {c : Config} {l : List (Option TlbEntry)} {sp sp' : Word}
    {vpn vpn' : BitVec 20} {held e : TlbEntry} (translated : tlbValid c l sp vpn = some held)
    (miss : tlbValid c l sp' vpn' = none) (h' : tlbMatches c sp' vpn' e = true) :
    tlbMatches c sp vpn e = false := by
  rw [← Bool.not_eq_true]
  intro h
  have same : slotValid c sp vpn = slotValid c sp' vpn' := by
    funext slot
    simp only [slotValid, tlbMatches_congr h h']
  rw [tlbValid_eq, same, ← tlbValid_eq, miss] at translated
  cases translated

/-- A slot that does not hold the translation relied upon is not valid for its page. -/
theorem slotValid_of_not_held {s : State} {sp : Word} {vpn : BitVec 20} {slot : Option TlbEntry}
    (relied : s.relied = some (sp, vpn)) (free : s.heldSlot false slot = false) :
    slotValid s.cfg sp vpn slot = false := by
  cases slot with
  | none => rfl
  | some e => simpa [State.heldSlot, relied, slotValid] using free

/-- The slot that an insertion takes is one of its page, or does not hold the translation relied upon. -/
theorem slotValid_of_insertsAt {s : State} {entry : TlbEntry} {sp : Word} {vpn : BitVec 20} {i : Nat}
    {old : Option TlbEntry} (relied : s.relied = some (sp, vpn)) (slot : s.InsertsAt false entry i)
    (found : (s.tlb false)[i]? = some old)
    (unmatched : slotMatches s.cfg entry.space entry.vpn old = false) :
    slotValid s.cfg sp vpn old = false := by
  rcases slot with searched | ⟨-, allocated⟩
  · obtain ⟨hi, matched, -⟩ := List.findIdx?_eq_some_iff_getElem.1 searched
    rw [List.getElem?_eq_getElem hi, Option.some.injEq] at found
    rw [found, unmatched] at matched
    cases matched
  · have free := tlbAlloc_spares allocated
    rw [List.getD, found] at free
    exact slotValid_of_not_held relied free

/-- An insertion for a page that missed keeps the data translation relied upon (R201, D6 (a)). -/
theorem tlbInsert_keeps_relied {s : State} {entry held : TlbEntry} {sp : Word} {vpn : BitVec 20}
    (relied : s.relied = some (sp, vpn)) (translated : tlbValid s.cfg (s.tlb false) sp vpn = some held)
    (miss : tlbValid s.cfg (s.tlb false) entry.space entry.vpn = none) :
    tlbValid s.cfg ((s.tlbInsert false entry).tlb false) sp vpn = some held := by
  have other {e : TlbEntry} (h : tlbMatches s.cfg entry.space entry.vpn e = true) :
      tlbMatches s.cfg sp vpn e = false := tlbMatches_of_miss translated miss h
  have removed : tlbValid s.cfg (tlbRemove s.cfg (s.tlb false) entry.space entry.vpn) sp vpn = some held := by
    rw [← translated]
    refine tlbValid_map (fun slot => ?_) (fun slot valid => ?_) _
    · split
      · rename_i matched
        cases slot with
        | none => rfl
        | some e => simp [slotValid, other matched]
      · rfl
    · refine if_neg fun matched => ?_
      cases slot with
      | none => cases matched
      | some e => simp [slotValid, other matched] at valid
  by_cases full : ∀ i, ¬ s.InsertsAt false entry i
  · rw [tlb_tlbInsert_full full]
    exact translated
  · obtain ⟨i, slot⟩ := not_forall_not.1 full
    rw [tlb_tlbInsert slot, tlbValid_eq, find?_set_of_not, ← tlbValid_eq, removed]
    · simp [slotValid, other (tlbMatches_self s.cfg entry)]
    · intro y found
      rw [tlbRemove, List.getElem?_map, Option.map_eq_some_iff] at found
      obtain ⟨old, found, rfl⟩ := found
      split
      · rfl
      · rename_i unmatched
        exact slotValid_of_insertsAt relied slot found (Bool.eq_false_iff.2 unmatched)

/-- A translation keeps the state, or inserts an entry for the page that missed (R182, R183). -/
theorem translate_inserts {s s' : State} {instr : Bool} {space offset : Word} {e : TlbEntry}
    (h : s.translate instr space offset = some (e, s')) :
    s' = s ∨ ∃ entry, s' = s.tlbInsert instr entry ∧
      tlbValid s.cfg (s.tlb instr) entry.space entry.vpn = none := by
  unfold State.translate at h
  split at h
  · cases h
    exact .inl rfl
  · rename_i miss
    split at h
    · split at h
      · cases h
        exact .inr ⟨_, rfl, miss⟩
      · cases h
    · cases h

/-- A data translation keeps what is relied upon, and its entry (R201). -/
theorem translate_keeps_relied {s s' : State} {space offset : Word} {e : TlbEntry}
    (h : s.translate false space offset = some (e, s')) :
    s'.relied = s.relied ∧
      ∀ sp vpn held, s.relied = some (sp, vpn) → tlbValid s.cfg (s.tlb false) sp vpn = some held →
        tlbValid s.cfg (s'.tlb false) sp vpn = some held := by
  rcases translate_inserts h with rfl | ⟨entry, rfl, miss⟩
  · exact ⟨rfl, fun _ _ _ _ held => held⟩
  · refine ⟨by rw [tlbInsert_eq], fun _ _ _ relied held => tlbInsert_keeps_relied relied held miss⟩

/-! ### Probes, LPA and LCI -/

/-- A non-access translation that misses (R649). -/
theorem nonAccess_miss {s s0 : State} {instr : Bool} {space offset : Word}
    (miss : s0.translate instr space offset = none) (n : Nat) (k : TlbEntry → State → Out) :
    TrapsAt (nonAccess s s0 instr n space offset k) s n space offset := by
  rw [nonAccess, miss]
  rfl

/-- A non-access translation that succeeds goes on. -/
theorem nonAccess_translated {s s0 s' : State} {instr : Bool} {space offset : Word} {e : TlbEntry}
    (found : s0.translate instr space offset = some (e, s')) (n : Nat) (k : TlbEntry → State → Out) :
    nonAccess s s0 instr n space offset k = k e s' := by
  rw [nonAccess, found]

/-- A probe asks the access rights and, while PSW P is 1, the protection identifiers (R210). -/
theorem probeAllowed_iff (s : State) (e : TlbEntry) (write : Bool) (pl : BitVec 2) :
    s.probeAllowed e write pl = true ↔
      (if write then writeAllowed e pl.toNat else readAllowed e pl.toNat) = true ∧
        (s.pswP = true → s.pidCheck e write = true) := by
  rw [State.probeAllowed, Bool.and_eq_true, Bool.or_eq_true, Bool.not_eq_true', ← Bool.not_eq_true,
    imp_iff_not_or]

/-- A probe in Level 0, of a page that misses, and of a translated page (R650 to R653). -/
theorem probe_outcomes (s : State) (b : Reg) (sf : BitVec 2) (t : Reg) (write : Bool) (pl : BitVec 2) :
    (s.level0 = true → Writes (probe s b sf t write pl) s s [(t, 1#32)]) ∧
    (s.level0 = false →
      (s.unrely.translate false (s.space sf (s.gr b)) (s.gr b) = none →
        TrapsAt (probe s b sf t write pl) s 17 (s.space sf (s.gr b)) (s.gr b)) ∧
      ∀ e s', s.unrely.translate false (s.space sf (s.gr b)) (s.gr b) = some (e, s') →
        ∃ ok : Bool, Writes (probe s b sf t write pl) s s' [(t, if ok then 1#32 else 0#32)] ∧
          (ok = true ↔ (if write then writeAllowed e pl.toNat else readAllowed e pl.toNat) = true ∧
            (s.pswP = true → s.pidCheck e write = true))) := by
  refine ⟨fun level0 => ?_, fun above => ?_⟩
  · rw [probe, if_pos level0]
    exact done_writes s t 1#32
  · rw [probe, if_neg (ne_true_of_eq_false above)]
    refine ⟨fun miss => nonAccess_miss miss 17 _, fun e s' found => ⟨s.probeAllowed e write pl, ?_,
      probeAllowed_iff s e write pl⟩⟩
    rw [nonAccess_translated found]
    exact setGr_writes ((unrely_frame s).trans (translate_frame found)) t _

/-- LPA at privilege level 0 where there is virtual memory (R655). -/
theorem execLpa_outcomes {s : State} (above : s.level0 = false) (level : s.priv = 0#2) (b x : Reg)
    (sf : BitVec 2) (m : BitVec 1) (t : Reg) :
    let ea := dataEa s b x sf m
    (s.translate false ea.space ea.offset = none →
      TrapsAt (execLpa b x sf m t s) s 17 ea.space ea.offset) ∧
    ∀ e s', s.translate false ea.space ea.offset = some (e, s') →
      Writes (execLpa b x sf m t s) s s'
        ((t, absoluteOf e ea.offset) :: (ea.base.map fun v => (b, v)).toList) := by
  rw [execLpa, if_neg (ne_true_of_eq_false above)]
  dsimp only
  rw [privileged_zero level]
  refine ⟨fun miss => nonAccess_miss miss 17 _, fun e s' found => ?_⟩
  rw [nonAccess_translated found]
  exact modifyBase_setGr_writes (translate_frame found) b _ t _

/-- LCI at privilege level 0 on a machine with virtual memory and coherent I/O (R656). -/
theorem execLci_writes {s : State} (above : s.level0 = false) (coherent : s.cfg.coherentIo = true)
    (level : s.priv = 0#2) (b x : Reg) (sf : BitVec 2) (t : Reg) :
    ∃ i, Writes (execLci b x sf t s) s s.unrely [(t, i)] := by
  rw [execLci, above, coherent, if_neg (by decide)]
  dsimp only
  rw [privileged_zero level]
  exact ⟨_, setGr_writes (unrely_frame s) t _⟩

/-- LCI is undefined in Level 0 and without coherent I/O (U20). -/
theorem execLci_undefined {s : State} (lacks : s.level0 = true ∨ s.cfg.coherentIo = false) (b x : Reg)
    (sf : BitVec 2) (t : Reg) : Traps (execLci b x sf t s) s.unrely 8 :=
  if_pos (lacks.imp_right fun incoherent => by simp [incoherent])

/-- Settles O43: the probes are one function; LPA and LCI by the cases of their translation. -/
theorem probesAndAddresses : Obligations.ProbesAndAddresses := by
  refine ⟨fun s b r t sf i => ?_, fun s b x t sf m => ⟨fun level0 => if_pos level0,
    fun above level => ?_, fun lacks => execLci_undefined lacks b x sf t,
    fun above coherent level => execLci_writes above coherent level b x sf t⟩⟩
  · have outcomes := probe_outcomes s b sf t
    simp only [List.forall_mem_cons]
    exact ⟨outcomes _ _, outcomes _ _, outcomes _ _, outcomes _ _, List.forall_mem_nil _⟩
  · obtain ⟨missed, translated⟩ := execLpa_outcomes above level b x sf m t
    exact ⟨missed, fun e s' found => ⟨translated e s' found, translate_keeps_relied found⟩⟩

end Sys2Proof.Machine
end

/-! ### Cache and null instructions -/

section
namespace Sys2Proof.Machine

/-- A flush or purge of a line: in the I/O address space undefined (U38); elsewhere a translation, where
PSW D is 1, and a base update (R675, R676, R679). -/
theorem flush_outcomes {s : State} {instr : Bool} {n : Nat} {ea : Ea} {b : Reg} {o : Out}
    (run : o = flush s instr n ea b) :
    (s.pswD = false → isIo ea.offset = true → o = .refused .uncacheable) ∧
    (s.pswD = false → isIo ea.offset = false →
      Writes o s s.unrely (ea.base.map fun v => (b, v)).toList) ∧
    (s.pswD = true →
      (s.unrely.translate instr ea.space ea.offset = none →
        TrapsAt o s n ea.space ea.offset) ∧
      ∀ e s', s.unrely.translate instr ea.space ea.offset = some (e, s') →
        (isIo (absoluteOf e ea.offset) = true → o = .refused .uncacheable) ∧
        (isIo (absoluteOf e ea.offset) = false →
          Writes o s s' (ea.base.map fun v => (b, v)).toList)) := by
  subst run
  have finish {u : State} (f : SameButTlb s u) : ∀ a : Word, isIo a = false →
      Writes (if isIo a then .refused .uncacheable else done s (u.modifyBase b ea.base)) s u
        (ea.base.map fun v => (b, v)).toList := by
    intro a memory
    rw [if_neg (ne_true_of_eq_false memory)]
    exact modifyBase_writes f rfl b ea.base
  refine ⟨fun off io => ?_, fun off memory => ?_, fun on => ?_⟩
  · rw [flush, if_neg (ne_true_of_eq_false off)]
    exact if_pos io
  · rw [flush, if_neg (ne_true_of_eq_false off)]
    exact finish (unrely_frame s) _ memory
  · rw [flush, if_pos on]
    refine ⟨fun miss => nonAccess_miss miss n _, fun e s' found => ?_⟩
    rw [nonAccess_translated found]
    exact ⟨fun io => if_pos io,
      fun memory => finish ((unrely_frame s).trans (translate_frame found)) _ memory⟩

/-- FIC goes through the data TLB where the machine does so, else through the instruction TLB (R679, D6). -/
theorem execFic_eq (s : State) (b x : Reg) (p : BitVec 3) (m : BitVec 1) :
    let fic := !(s.cfg.ficUsesDtlb || s.cfg.tlbCombined)
    execFic b x p m s = flush s fic (if fic then 16 else 17) (instrEa s b x p m) b := by
  unfold execFic
  cases s.cfg.ficUsesDtlb <;> cases s.cfg.tlbCombined <;> rfl

/-- FDCE and FICE modify their base register (R680, R681). -/
theorem done_unrely_modifyBase_writes (s : State) (b : Reg) (x : Option Word) :
    Writes (done s (s.unrely.modifyBase b x)) s s.unrely (x.map fun v => (b, v)).toList :=
  modifyBase_writes (unrely_frame s) rfl b x

/-- DIAG at privilege level 0 is null or an illegal instruction (R690, D13). -/
theorem execDiag_outcomes {s : State} (level : s.priv = 0#2) (i : BitVec 26) :
    (s.cfg.diagSemantics = .null → Writes (execDiag i s) s s.unrely []) ∧
    (s.cfg.diagSemantics = .illegal → Traps (execDiag i s) s.unrely 8) := by
  rw [execDiag, privileged_zero level]
  refine ⟨fun null => ?_, fun illegal => ?_⟩
  · rw [null]
    exact done_base_writes rfl rfl rfl rfl
  · rw [illegal]
    rfl

/-- Settles O46: PDC, FDC and FIC are one flush; the others complete with nothing but a base update. -/
theorem cacheAndNullInstructions : Obligations.CacheAndNullInstructions := by
  refine ⟨fun s b x sf p m => ⟨?_, done_unrely_modifyBase_writes s b _,
    done_unrely_modifyBase_writes s b _⟩, fun s i => ⟨done_null_writes s, done_null_writes s,
    fun level => (execDiag_outcomes level i).1, fun level => (execDiag_outcomes level i).2⟩⟩
  have data {o : Out} (run : o = flush s false 17 (dataEa s b x sf m) b) := flush_outcomes run
  simp only [List.forall_mem_cons]
  exact ⟨data rfl, data rfl, flush_outcomes (execFic_eq s b x p m), List.forall_mem_nil _⟩

end Sys2Proof.Machine
end

/-! ### The completion of an assist instruction -/

section
namespace Sys2Proof.Machine

/-- `base` is `s` in the fields that the completion of an instruction reads; an assist unit's own state may
differ. -/
structure KeepsCommon (s base : State) : Prop where
  grs : base.grs = s.grs
  psw : base.psw = s.psw
  iaoqBack : base.iaoqBack = s.iaoqBack
  iasqBack : base.iasqBack = s.iasqBack

/-- An instruction completes whose own effect is `base`, general registers and free values used. -/
theorem KeepsCommon.completes {s base u : State} (keeps : KeepsCommon s base)
    (frame : u = { base with grs := u.grs, draws := u.draws }) {regs : List (Reg × Word)}
    (grs : GrsAre s u regs) (nullify : Bool) :
    ∃ w, Completes (doneNullify s u nullify) s base w regs nullify none s.pswCB s.pswV := by
  refine complete_plain grs ?_ ?_ keeps.psw ?_ ?_ ?_
  all_goals rw [frame]
  · rfl
  · exact keeps.psw
  · exact keeps.iaoqBack
  · exact keeps.iasqBack

/-- An instruction completes whose own effect is all of `base`. -/
theorem KeepsCommon.completes_base {s base : State} (keeps : KeepsCommon s base) (nullify : Bool) :
    ∃ w, Completes (doneNullify s base nullify) s base w [] nullify none s.pswCB s.pswV :=
  keeps.completes rfl (grsAre_congr keeps.grs (grsAre_refl s)) nullify

/-- An instruction completes whose own effect is `base` and a base update. -/
theorem KeepsCommon.modifyBase_writes {s base : State} (keeps : KeepsCommon s base) (b : Reg)
    (x : Option Word) :
    Writes (done s (base.modifyBase b x)) s base (x.map fun v => (b, v)).toList := by
  have frame : base.modifyBase b x = { base with grs := (base.modifyBase b x).grs } := by
    cases x with
    | none => rfl
    | some v => exact setGr_frame rfl b v
  refine keeps.completes ?_ (grsAre_modify keeps.grs b x) false
  rw [frame]

/-- An instruction completes whose own effect is `base` and one general register; free values may have been
used. -/
theorem KeepsCommon.setGr_writes {s base u : State} (keeps : KeepsCommon s base)
    (drawn : u = { base with draws := u.draws }) (t : Reg) (v : Word) :
    Writes (done s (u.setGr t v)) s base [(t, v)] := by
  have written : GrsAre s (u.setGr t v) [(t, v)] := by
    rw [drawn]
    exact grsAre_modify_set (u := { base with draws := u.draws }) keeps.grs t t none v
  refine keeps.completes ?_ written false
  rw [setGr_frame (s := u) rfl t v, drawn]

/-- A store into memory completes, with a base update. -/
theorem KeepsCommon.storeBytes_stores {s base : State} (keeps : KeepsCommon s base)
    (mem : base.mem = s.mem) (wf : s.mem.wf = true) (b : Reg) (x : Option Word) (a : Nat)
    (bytes : List Byte) :
    Stores (done s ((base.storeBytes a bytes).modifyBase b x)) s base b x a bytes := by
  have stored : KeepsCommon s (base.storeBytes a bytes) :=
    ⟨keeps.grs, keeps.psw, keeps.iaoqBack, keeps.iasqBack⟩
  obtain ⟨w, completes⟩ := stored.modifyBase_writes b x
  have written : w.mem = base.mem.setBytes a bytes := completes.rest.mem
  refine ⟨w, ?_, storesAt_setBytes wf (mem ▸ written)⟩
  rw [written]
  exact completes

end Sys2Proof.Machine
end

/-! ### Special function units -/

section
namespace Sys2Proof.Machine

/-- An instruction of a unit whose SCR bit is 0 (R700). -/
theorem sfuGate_disabled {s : State} {u : BitVec 3} (off : s.scrBit u = false) (act : Out) :
    Traps (sfuGate s u act) s 22 := by
  rw [sfuGate, off]
  rfl

/-- An instruction of an unarchitected unit whose SCR bit is 1. -/
theorem sfuGate_enabled {s : State} {u : BitVec 3} (on : s.scrBit u = true) (other : u ≠ 1#3)
    (act : Out) : sfuGate s u act = act := by
  rw [sfuGate, on, if_neg (by decide), if_neg other]

theorem execSpop1_disabled {s : State} {u : BitVec 3} (off : s.scrBit u = false) (sop : BitVec 15)
    (n : BitVec 1) (t : Reg) : Traps (execSpop1 sop u n t s) s 22 := by
  unfold execSpop1
  split
  · exact sfuGate_disabled off _
  · exact sfuGate_disabled off _

/-- A special function unit in the state `st`. -/
def State.setSfuState (s : State) (u : BitVec 3) (st : Nat) : State :=
  { s with sfuStates := writeReg8 s.sfuStates u st }

theorem setSfuState_keeps (s : State) (u : BitVec 3) (st : Nat) : KeepsCommon s (s.setSfuState u st) :=
  ⟨rfl, rfl, rfl, rfl⟩

/-- SPOP1 with sop 0 and n 0 identifies the unit, whose state is a free value afterwards (R710). -/
theorem execSpop1_identifies {s : State} {u : BitVec 3} (on : s.scrBit u = true) (other : u ≠ 1#3)
    (t : Reg) :
    ∃ st, Writes (execSpop1 0#15 u 0#1 t s) s (s.setSfuState u st) [(t, Config.sfuId u)] := by
  rw [execSpop1, if_pos ⟨rfl, rfl⟩, sfuGate_enabled on other]
  exact ⟨Config.freeIndex s.draws, (setSfuState_keeps s u _).setGr_writes rfl t _⟩

/-- The end of a unit's operation puts its result into the general registers `targets`, and changes nothing
else. -/
def DeliversTo (finish : Word → State → State) (targets : List Reg) : Prop :=
  ∀ v u, finish v u = { u with grs := (finish v u).grs } ∧
    GrsAre u (finish v u) (targets.map fun t => (t, v))

theorem deliversTo_nothing : DeliversTo (fun _ u => u) [] := fun _ u => ⟨rfl, grsAre_refl u⟩

theorem deliversTo_setGr (t : Reg) : DeliversTo (fun v u => u.setGr t v) [t] :=
  fun v _ => ⟨setGr_frame rfl t v, grsAre_setGr t v⟩

/-- An operation of an unarchitected unit: its exception where the instruction has one, else its new state,
its result and its nullification (R702, R704). -/
theorem sfuOperation_outcomes {s : State} {u : BitVec 3} (on : s.scrBit u = true) (other : u ≠ 1#3)
    (form sop : Nat) (n : BitVec 1) (a b : Word) {mayRaise raises : Bool}
    {finish : Word → State → State} {targets : List Reg} (delivers : DeliversTo finish targets)
    (reports : raises =
      (Config.sfuRaises u form sop s.priv a b (readReg8 s.sfuStates u) && mayRaise)) :
    let old := readReg8 s.sfuStates u
    let o := sfuOperation s u form sop n a b mayRaise finish
    (raises = true → Traps o s 14) ∧
    (raises = false →
      ∃ w, Completes o s (s.setSfuState u (Config.sfuState u form sop s.priv a b old)) w
        (targets.map fun t => (t, Config.sfuResult u form sop s.priv a b old))
        (isOne n && Config.sfuCond u form sop s.priv a b old) none s.pswCB s.pswV) := by
  rw [Bool.and_comm] at reports
  subst reports
  intro old o
  have runs : o = _ := sfuGate_enabled on other _
  rw [runs]
  refine ⟨fun raised => if_pos raised, fun quiet => ?_⟩
  obtain ⟨frame, grs⟩ := delivers (Config.sfuResult u form sop s.priv a b old)
    (s.setSfuState u (Config.sfuState u form sop s.priv a b old))
  rw [if_neg (ne_true_of_eq_false quiet)]
  refine (setSfuState_keeps s u _).completes ?_ grs _
  rw [frame]

/-- SPOP1 that does not identify the unit is an operation, which with sop 0 has no exception (R707). -/
theorem execSpop1_operates {sop : BitVec 15} {n : BitVec 1} (operates : ¬ (sop = 0#15 ∧ n = 0#1))
    (u : BitVec 3) (t : Reg) (s : State) :
    execSpop1 sop u n t s =
      sfuOperation s u 1 (sop ++ u ++ n : BitVec 19).toNat n 0#32 0#32 (decide (sop ≠ 0#15))
        fun v s => s.setGr t v :=
  if_neg operates

/-- Settles O58: the four forms are one operation behind one gate; SPOP1 alone identifies and has a
target. -/
theorem sfuInstructions : Obligations.SfuInstructions := by
  intro s r2 r1 t o15 o10 o5 z u n
  refine ⟨?_, fun on other => ⟨execSpop1_identifies on other t, ?_⟩⟩
  · have gate {act : Out} (off : s.scrBit u = false) := sfuGate_disabled off act
    simp only [List.forall_mem_cons]
    exact ⟨gate, fun off => execSpop1_disabled off o15 n t, gate, gate, List.forall_mem_nil _⟩
  · have runs {form sop : Nat} {a b : Word} :=
      sfuOperation_outcomes on other form sop n a b deliversTo_nothing (mayRaise := true) rfl
    simp only [List.forall_mem_cons]
    refine ⟨fun _ => ?_, fun operates => ?_, fun _ => ?_, fun _ => ?_, List.forall_mem_nil _⟩
    · exact runs
    · rw [show exec (.spop1 o15 u n t) s = _ from execSpop1_operates (operates trivial) u t s]
      exact sfuOperation_outcomes on other 1 _ n 0#32 0#32 (deliversTo_setGr t) (by simp)
    · exact runs
    · exact runs

end Sys2Proof.Machine
end

/-! ### Operations of an unarchitected coprocessor -/

section
namespace Sys2Proof.Machine

theorem setCprFile_keeps (s : State) (u : BitVec 3) (regs : Vector Dword 32) :
    KeepsCommon s (s.setCprFile u regs) := ⟨rfl, rfl, rfl, rfl⟩

theorem cprFile_setCprFile (s : State) (u : BitVec 3) (regs : Vector Dword 32) :
    (s.setCprFile u regs).cprFile u = regs :=
  (readReg8_writeReg8 s.cprs u u regs).trans (if_pos rfl)

theorem setCprFile_setCprFile (s : State) (u : BitVec 3) (old new : Vector Dword 32) :
    (s.setCprFile u old).setCprFile u new = s.setCprFile u new := by
  simp only [State.setCprFile, writeReg8, Vector.set_set]

/-- COPR of a disabled coprocessor other than the floating-point one (R700). -/
theorem execCopr_disabled {s : State} {u : BitVec 3} (fp : u ≠ 0#3) (fpAlso : u ≠ 1#3)
    (off : s.ccrBit u = false) (o1 : BitVec 17) (n : BitVec 1) (o2 : BitVec 5) :
    Traps (execCopr o1 u n o2 s) s 22 := by
  rw [execCopr, if_neg fp, if_neg fpAlso, off]
  rfl

/-- COPR of an unarchitected coprocessor is its operation (R715). -/
theorem execCopr_enabled {s : State} {u : BitVec 3} (fp : u ≠ 0#3) (fpAlso : u ≠ 1#3)
    (perfmon : u ≠ 2#3) (on : s.ccrBit u = true) (o1 : BitVec 17) (n : BitVec 1) (o2 : BitVec 5) :
    execCopr o1 u n o2 s = coprOperation s u (o1 ++ o2 : BitVec 22) n := by
  rw [execCopr, if_neg fp, if_neg fpAlso, on, if_neg (by decide), if_neg perfmon]

/-- IDENTIFY COPROCESSOR puts the identification into register 0 (R716). -/
theorem coprOperation_identifies {s : State} {u : BitVec 3} {sop : BitVec 22} {n : BitVec 1}
    (identify : sop = 0#22 ∧ n = 0#1 ∧ 4 ≤ u.toNat) :
    Writes (coprOperation s u sop n) s
      (s.setCprFile u (writeReg (s.cprFile u) 0#5 (Config.coprId u))) [] := by
  rw [coprOperation, if_pos identify]
  exact (setCprFile_keeps s u _).completes_base false

/-- Any other operation: its exception, or the unit's new registers and the nullification by a condition on
them (R702, R711, R715). -/
theorem coprOperation_outcomes {s : State} {u : BitVec 3} {sop : BitVec 22} {n : BitVec 1}
    (operates : ¬ (sop = 0#22 ∧ n = 0#1 ∧ 4 ≤ u.toNat)) :
    let old := s.cprFile u
    let new := Config.coprOp u sop n s.priv old
    let o := coprOperation s u sop n
    (Config.coprRaises u sop n s.priv old = true → Traps o s 14) ∧
    (Config.coprRaises u sop n s.priv old = false →
      ∃ w, Completes o s (s.setCprFile u new) w [] (isOne n && Config.coprCond u sop n new) none
        s.pswCB s.pswV) := by
  intro old new o
  have runs : o = _ := if_neg operates
  rw [runs]
  refine ⟨fun raised => if_pos raised, fun quiet => ?_⟩
  rw [if_neg (ne_true_of_eq_false quiet)]
  exact (setCprFile_keeps s u new).completes_base _

/-- The reserved identifications, all zeros and all ones, are never what a word store of register 0 stores
(R716). -/
theorem coprId_not_reserved (u : BitVec 3) :
    (Config.coprId u).setWidth 32 ≠ 0#32 ∧ (Config.coprId u).setWidth 32 ≠ BitVec.allOnes 32 := by
  rw [Config.coprId]
  split
  · rw [BitVec.setWidth_append_eq_right]
    decide
  · rename_i low
    exact not_or.1 low

end Sys2Proof.Machine
end

/-! ### Loads and stores of an unarchitected coprocessor -/

section
namespace Sys2Proof.Machine

/-- The checks of a reference leave the byte order. -/
theorem SameButTlb.pswE {s s' : State} (h : SameButTlb s s') : s'.pswE = s.pswE := by
  obtain ⟨_, _, _, _, rfl⟩ := h.exists
  rfl

theorem SameButTlb.cprFile {s s' : State} (h : SameButTlb s s') (u : BitVec 3) :
    s'.cprFile u = s.cprFile u := by
  obtain ⟨_, _, _, _, rfl⟩ := h.exists
  rfl

/-- The checks of a reference, and what a unit was told, leave the fields that a completion reads. -/
theorem SameButTlb.setCprFile_keeps {s s' : State} (h : SameButTlb s s') (u : BitVec 3)
    (regs : Vector Dword 32) : KeepsCommon s (s'.setCprFile u regs) := by
  obtain ⟨grs, psw, iaoqBack, iasqBack, -⟩ := h.fields
  exact ⟨grs, psw, iaoqBack, iasqBack⟩

/-- The assist emulation trap of a coprocessor reference, after its checks; an unaligned untranslated
address is compared with the data breakpoints first (R700, R893). -/
theorem emulateReference_outcomes (s s' : State) (addr : Nat) (ref : DataRef) (space offset : Word) :
    let o := emulateReference s ref space offset
    let check := s.dataCheck ref space offset
    (check = .ok (s', addr) → TrapsRef o s 22 ref space offset offset) ∧
    (check = .refused .unaligned →
      (s.dataBreakpoint ref.kind offset = .hit → TrapsRef o s 31 ref space offset offset) ∧
      (s.dataBreakpoint ref.kind offset = .none → TrapsRef o s 22 ref space offset offset)) ∧
    ∀ n, check = .trap n → TrapsRef o s n ref space offset offset := by
  intro o check
  refine ⟨fun checked => ?_, fun unaligned => ⟨fun hit => ?_, fun clear => ?_⟩, fun n trapped => ?_⟩
  · simp only [o, emulateReference, show s.dataCheck ref space offset = _ from checked]
    rfl
  · simp only [o, emulateReference, show s.dataCheck ref space offset = _ from unaligned, hit]
    rfl
  · simp only [o, emulateReference, show s.dataCheck ref space offset = _ from unaligned, clear]
    rfl
  · simp only [o, emulateReference, show s.dataCheck ref space offset = _ from trapped]
    rfl

theorem coprReference_disabled {s : State} {u : BitVec 3} (fp : u ≠ 0#3) (fpAlso : u ≠ 1#3)
    (off : s.ccrBit u = false) (ref : DataRef) (ea : Ea) (reg : Reg) (store : Bool)
    (k : State → Nat → Out) :
    coprReference s ref ea u reg store k = emulateReference s ref ea.space ea.offset := by
  rw [coprReference, if_neg (not_or.2 ⟨fp, fpAlso⟩), off]
  rfl

/-- The unit may report an exception, ahead of the checks of the reference (R702, R717). -/
theorem coprReference_enabled {s : State} {u : BitVec 3} (fp : u ≠ 0#3) (fpAlso : u ≠ 1#3)
    (perfmon : u ≠ 2#3) (on : s.ccrBit u = true) (ref : DataRef) (ea : Ea) (reg : Reg) (store : Bool)
    (k : State → Nat → Out) :
    coprReference s ref ea u reg store k =
      if Config.coprSendRaises u store reg (s.cprFile u) then trapInstr 14 s
      else s.access ref ea.space ea.offset fun s a =>
        k (s.setCprFile u (Config.coprSend u store reg (s.cprFile u))) a := by
  rw [coprReference, if_neg (not_or.2 ⟨fp, fpAlso⟩), on, if_neg (by decide), if_neg perfmon]

/-- With a reference that passes its checks the unit is told the register, then the datum is moved
(R711). -/
theorem coprReference_sends {s s' : State} {addr : Nat} {u : BitVec 3} (fp : u ≠ 0#3) (fpAlso : u ≠ 1#3)
    (perfmon : u ≠ 2#3) (on : s.ccrBit u = true) {reg : Reg} {store : Bool}
    (quiet : Config.coprSendRaises u store reg (s.cprFile u) = false) {ref : DataRef} {ea : Ea}
    (checked : s.dataCheck ref ea.space ea.offset = .ok (s', addr)) (k : State → Nat → Out) :
    coprReference s ref ea u reg store k =
      k (s'.setCprFile u (Config.coprSend u store reg (s.cprFile u))) addr := by
  rw [coprReference_enabled fp fpAlso perfmon on, if_neg (ne_true_of_eq_false quiet), State.access,
    access_ok checked, (dataCheck_frame checked).cprFile]

/-- What a coprocessor load or store does where it moves no datum (R700, R702, R893). -/
theorem coprReference_outcomes {u : BitVec 3} (fp : u ≠ 0#3) (fpAlso : u ≠ 1#3) (s s' : State)
    (addr : Nat) (ref : DataRef) (ea : Ea) (reg : Reg) (store : Bool) {k : State → Nat → Out} {o : Out}
    (run : o = coprReference s ref ea u reg store k) :
    let check := s.dataCheck ref ea.space ea.offset
    let raises := Config.coprSendRaises u store reg (s.cprFile u)
    (s.ccrBit u = false → check = .ok (s', addr) → TrapsRef o s 22 ref ea.space ea.offset ea.offset) ∧
    (s.ccrBit u = false → check = .refused .unaligned →
      (s.dataBreakpoint ref.kind ea.offset = .hit →
        TrapsRef o s 31 ref ea.space ea.offset ea.offset) ∧
      (s.dataBreakpoint ref.kind ea.offset = .none →
        TrapsRef o s 22 ref ea.space ea.offset ea.offset)) ∧
    (s.ccrBit u = true → u ≠ 2#3 → raises = true → Traps o s 14) ∧
    (s.ccrBit u = false ∨ u ≠ 2#3 ∧ raises = false → ∀ n, check = .trap n →
      TrapsRef o s n ref ea.space ea.offset ea.offset) := by
  subst run
  intro check raises
  obtain ⟨passed, unaligned, trapped⟩ := emulateReference_outcomes s s' addr ref ea.space ea.offset
  refine ⟨fun off => ?_, fun off => ?_, fun on perfmon raised => ?_, fun goes n trap => ?_⟩
  · rw [coprReference_disabled fp fpAlso off]
    exact passed
  · rw [coprReference_disabled fp fpAlso off]
    exact unaligned
  · rw [coprReference_enabled fp fpAlso perfmon on]
    exact if_pos raised
  · cases ccr : s.ccrBit u with
    | false =>
      rw [coprReference_disabled fp fpAlso ccr]
      exact trapped n trap
    | true =>
      obtain ⟨perfmon, quiet⟩ := goes.resolve_left (by simp [ccr])
      rw [coprReference_enabled fp fpAlso perfmon ccr, if_neg (ne_true_of_eq_false quiet)]
      exact access_trap trap _

/-- A coprocessor load writes the register of the unit that it told of the load (R711, R717). -/
theorem coprLoad_writes {s s' : State} {addr : Nat} {u : BitVec 3} (fp : u ≠ 0#3) (fpAlso : u ≠ 1#3)
    (perfmon : u ≠ 2#3) (on : s.ccrBit u = true) {r : Reg}
    (quiet : Config.coprSendRaises u false r (s.cprFile u) = false) (n : Nat) (ea : Ea) (b : Reg)
    (value : State → Nat → Dword)
    (checked : s.dataCheck (.coprocessor .load n) ea.space ea.offset = .ok (s', addr)) :
    let sent := Config.coprSend u false r (s.cprFile u)
    Writes (coprLoad s n ea u b r value) s
      (s'.setCprFile u (writeReg sent r (value (s'.setCprFile u sent) addr)))
      (ea.base.map fun v => (b, v)).toList := by
  intro sent
  rw [coprLoad, coprReference_sends fp fpAlso perfmon on quiet checked, cprFile_setCprFile,
    setCprFile_setCprFile]
  exact ((dataCheck_frame checked).setCprFile_keeps u _).modifyBase_writes b ea.base

/-- A coprocessor store stores the register of the unit that it told of the store, in the order of PSW E
(R711, R717). -/
theorem coprStore_stores {s s' : State} {addr : Nat} {u : BitVec 3} (fp : u ≠ 0#3) (fpAlso : u ≠ 1#3)
    (perfmon : u ≠ 2#3) (on : s.ccrBit u = true) {r : Reg}
    (quiet : Config.coprSendRaises u true r (s.cprFile u) = false) (wf : s.mem.wf = true) (n : Nat)
    (layout : Bool → Dword → List Byte) (ea : Ea) (b : Reg)
    (checked : s.dataCheck (.coprocessor .store n) ea.space ea.offset = .ok (s', addr)) :
    let sent := Config.coprSend u true r (s.cprFile u)
    Stores (coprStore s n ea u b r fun t v => layout t.pswE v) s (s'.setCprFile u sent) b ea.base addr
      (layout s.pswE (readReg sent r)) := by
  intro sent
  have frame := dataCheck_frame checked
  have order : (s'.setCprFile u sent).pswE = s.pswE := frame.pswE
  obtain ⟨-, -, -, -, mem⟩ := frame.fields
  rw [coprStore, coprReference_sends fp fpAlso perfmon on quiet checked, cprFile_setCprFile, order]
  exact (frame.setCprFile_keeps u sent).storeBytes_stores mem wf b ea.base addr _

/-- Settles O59: COPR by its cases; every load and store is a shared one, behind the same reference. -/
theorem coprocessorInstructions : Obligations.CoprocessorInstructions := by
  refine ⟨fun s o1 u n o2 fp fpAlso => ⟨fun off => execCopr_disabled fp fpAlso off o1 n o2,
    fun on perfmon => ?_⟩, coprId_not_reserved, fun s s' addr b x r sf i5 u m a cc uid fp fpAlso => ?_⟩
  · have runs : exec (.copr o1 u n o2) s = _ := execCopr_enabled fp fpAlso perfmon on o1 n o2
    rw [runs]
    exact ⟨fun sop unset unit => coprOperation_identifies ⟨sop, unset, unit⟩, coprOperation_outcomes⟩
  · refine ⟨?_, fun on perfmon quiet => ?_, fun on perfmon quiet wf => ?_⟩
    · have load (n : Nat) (ea : Ea) (value : State → Nat → Dword) :=
        coprReference_outcomes (o := coprLoad s n ea uid b r value) fp fpAlso s s' addr _ ea r false rfl
      have store (n : Nat) (ea : Ea) (bytes : State → Dword → List Byte) :=
        coprReference_outcomes (o := coprStore s n ea uid b r bytes) fp fpAlso s s' addr _ ea r true rfl
      simp only [List.forall_mem_cons]
      exact ⟨load 4 _ _, load 4 _ _, load 8 _ _, load 8 _ _, store 4 _ _, store 4 _ _, store 8 _ _,
        store 8 _ _, List.forall_mem_nil _⟩
    · have word (ea : Ea) := coprLoad_writes (s' := s') (addr := addr) fp fpAlso perfmon on quiet 4 ea b
        State.loadCoprWord
      have dword (ea : Ea) := coprLoad_writes (s' := s') (addr := addr) fp fpAlso perfmon on quiet 8 ea b
        State.loadDword
      simp only [List.forall_mem_cons]
      exact ⟨word _, word _, dword _, dword _, List.forall_mem_nil _⟩
    · have word (ea : Ea) := coprStore_stores (s' := s') (addr := addr) fp fpAlso perfmon on quiet wf 4
        (fun le v => wordBytes le (v.setWidth 32)) ea b
      have dword (ea : Ea) := coprStore_stores (s' := s') (addr := addr) fp fpAlso perfmon on quiet wf 8
        dwordBytes ea b
      simp only [List.forall_mem_cons]
      exact ⟨word _, word _, dword _, dword _, List.forall_mem_nil _⟩

end Sys2Proof.Machine
end

/-! ### Floating-point operations that may not run -/

section
namespace Sys2Proof.Machine

/-- The tests before every floating-point operation, whatever the operation is (R770, R784, R823). -/
theorem fpStart_notReady (s : State) (act : Out) :
    let o := fpStart s act
    (s.ccrBit 0#3 = false → s.ccrBit 1#3 = false → Traps o s 22) ∧
    (s.ccrBit 0#3 = true → s.ccrBit 1#3 = true → s.fpT = true → Traps o s 14) ∧
    (s.ccrBit 0#3 ≠ s.ccrBit 1#3 → o = .refused .fpConfiguration) ∧
    (s.ccrBit 0#3 = true → s.ccrBit 1#3 = true → s.fpT = false → s.fpQueued = true →
      o = .refused .fpExceptionQueue) := by
  intro o
  refine ⟨fun off0 off1 => ?_, fun on0 on1 armed => ?_, fun differ => if_pos differ,
    fun on0 on1 clear queued => ?_⟩
  · simp [o, fpStart, fpEnable, off0, off1, Traps, trapInstr]
  · simp [o, fpStart, fpEnable, on0, on1, armed, Traps, trapInstr]
  · simp [o, fpStart, fpEnable, on0, on1, clear, queued]

/-- Settles O52: every floating-point instruction but the loads and stores begins with the same tests. -/
theorem fpNotReady : Obligations.FpNotReady := by
  intro s r1 r2 r3 r4 t x y c g h1 h2 th
  have start {act : Out} := fpStart_notReady s act
  iterate 31 refine List.forall_mem_cons.2 ⟨start, ?_⟩
  exact List.forall_mem_nil _

end Sys2Proof.Machine
end

/-! ### The words of the floating-point registers -/

section
namespace Sys2Proof.Machine

theorem extractLsb'_left_word (a b : Word) : (a ++ b : Dword).extractLsb' 32 32 = a :=
  BitVec.extractLsb'_append_eq_left

theorem extractLsb'_right_word (a b : Word) : (a ++ b : Dword).extractLsb' 0 32 = b :=
  BitVec.extractLsb'_append_eq_right

/-- A word of a register after a write of a whole register. -/
theorem State.fpHalf_setFpr (s : State) (n m : Reg) (v : Dword) (k : Bool) :
    (s.setFpr n v).fpHalf m k =
      if m = n then if k then v.extractLsb' 0 32 else v.extractLsb' 32 32 else s.fpHalf m k := by
  unfold State.fpHalf State.setFpr
  rw [readReg_writeReg]
  by_cases same : m = n <;> simp [same]

/-- A word of a register after a write of one word (R746). -/
theorem State.fpHalf_setFpHalf (s : State) (n m : Reg) (h k : Bool) (v : Word) :
    (s.setFpHalf n h v).fpHalf m k = if (m, k) = (n, h) then v else s.fpHalf m k := by
  unfold State.setFpHalf
  rw [State.fpHalf_setFpr]
  by_cases same : m = n
  · subst same
    cases h <;> cases k <;> simp [extractLsb'_left_word, extractLsb'_right_word]
  · simp [same]

/-- A word of a register after a write of the Status Register. -/
theorem State.fpHalf_setFpsr (s : State) (m : Reg) (k : Bool) (v : Word) :
    (s.setFpsr v).fpHalf m k = if (m, k) = (0#5, false) then v else s.fpHalf m k :=
  s.fpHalf_setFpHalf 0#5 m false k v

@[simp] theorem State.fpsr_setFpsr (s : State) (v : Word) : (s.setFpsr v).fpsr = v := by
  simp [State.fpsr, State.fpHalf_setFpsr]

/-- A register is its two words. -/
theorem readReg_fprs (s : State) (n : Reg) : readReg s.fprs n = s.fpHalf n false ++ s.fpHalf n true :=
  (extractLsb'_append_self (n := 32) (m := 32) _).symm

/-- A destination is none of registers 0 to 3 (R821). -/
theorem reg_of_fpWords {t : FpReg} {f : FpFmt} (ok : fpDestOk t f = true) {n : Reg} {h : Bool}
    (named : (n, h) ∈ fpWords t f) : 3 < n.toNat := by
  unfold fpDestOk at ok
  unfold fpWords at named
  cases f <;> simp at ok named <;> bv_omega

/-- An operand is read from the words that its specifier names. -/
theorem fpRead_congr {s u : State} {t : FpReg} {f : FpFmt}
    (same : ∀ n h, (n, h) ∈ fpWords t f → u.fpHalf n h = s.fpHalf n h) : u.fpRead t f = s.fpRead t f := by
  unfold fpWords at same
  cases f <;> simp [State.fpRead, readReg_fprs, same]

/-- A destination reads as what was written to it (R821). -/
theorem fpRead_fpWrite (s : State) {t : FpReg} {f : FpFmt} (ok : fpDestOk t f = true) {v : Nat}
    (fits : v < 2 ^ f.width) : (s.fpWrite t f v).fpRead t f = v := by
  have nonzero : t.n ≠ 0#5 := by
    unfold fpDestOk at ok
    intro zero
    simp [zero] at ok
  unfold State.fpRead State.fpWrite
  rw [if_neg nonzero]
  cases f with
  | sgl =>
    simp only [State.fpHalf_setFpHalf, if_true, BitVec.toNat_ofNat]
    exact Nat.mod_eq_of_lt fits
  | dbl =>
    simp only [State.setFpr, readReg_writeReg, if_true, BitVec.toNat_ofNat]
    exact Nat.mod_eq_of_lt fits
  | quad =>
    have next : t.n ≠ t.n + 1#5 := by bv_omega
    simp only [State.setFpr, readReg_writeReg, if_true, if_neg next, BitVec.toNat_append,
      BitVec.toNat_ofNat]
    have fits : v < 2 ^ 128 := fits
    rw [Nat.mod_eq_of_lt (show v >>> 64 < 2 ^ 64 by omega),
      ← Nat.shiftLeft_add_eq_or_of_lt (Nat.mod_lt _ (by decide))]
    omega

/-- A result changes the words of its destination only (R746). -/
theorem fpHalf_fpWrite (s : State) {t : FpReg} {f : FpFmt} (v : Nat) {n : Reg} {h : Bool}
    (other : (n, h) ∉ fpWords t f) : (s.fpWrite t f v).fpHalf n h = s.fpHalf n h := by
  unfold fpWords at other
  unfold State.fpWrite
  cases f with
  | sgl =>
    rw [State.fpHalf_setFpHalf, if_neg (by simpa using other)]
  | dbl =>
    have away : n ≠ t.n := by rintro rfl; cases h <;> simp at other
    rw [State.fpHalf_setFpr, if_neg away]
  | quad =>
    have away : n ≠ t.n ∧ n ≠ t.n + 1#5 := by
      constructor <;> (rintro rfl; cases h <;> simp at other)
    rw [State.fpHalf_setFpr, if_neg away.2, State.fpHalf_setFpr, if_neg away.1]

theorem fpWrite_frame (s : State) (t : FpReg) (f : FpFmt) (v : Nat) :
    s.fpWrite t f v = { s with fprs := (s.fpWrite t f v).fprs } := by
  cases f <;> rfl

/-! ### Free values and recorded exceptions -/

/-- The free values of a preserved operation go to no source and to no other register (R792). -/
theorem fpHalf_fpLose (s : State) (sources dest : List (Reg × Bool)) {n : Reg} {h : Bool}
    (kept : (n, h) ∈ sources ∨ (n, h) ∉ dest) : (s.fpLose sources dest).fpHalf n h = s.fpHalf n h := by
  induction dest generalizing s with
  | nil => rfl
  | cons w rest ih =>
    have keptRest : (n, h) ∈ sources ∨ (n, h) ∉ rest := kept.imp_right fun away => by simp_all
    unfold State.fpLose
    split
    · exact ih s keptRest
    next free =>
      have away : (n, h) ≠ w := by rintro rfl; simp_all
      rw [ih _ keptRest, State.fpHalf_setFpHalf, if_neg away]
      rfl

theorem fpLose_frame (s : State) (sources dest : List (Reg × Bool)) :
    s.fpLose sources dest = { s with
      fprs := (s.fpLose sources dest).fprs, draws := (s.fpLose sources dest).draws } := by
  induction dest generalizing s with
  | nil => rfl
  | cons w rest ih =>
    unfold State.fpLose
    split
    · exact ih s
    · rw [ih]; rfl

/-- Exception Register 1 holds the exception (R780, R791). -/
theorem fpRecord_exception (s : State) (code : BitVec 6) :
    (s.fpRecord code).fpHalf 0#5 true = code ++ field s.iword 6 26 := by
  simp [State.fpRecord, State.fpHalf_setFpsr, State.fpHalf_setFpHalf]

theorem fpRecord_fpsr (s : State) (code : BitVec 6) :
    (s.fpRecord code).fpsr = setMbit s.fpsr fpTBit true := by
  simp [State.fpRecord]

/-- A recorded exception changes register 0 only. -/
theorem fpHalf_fpRecord (s : State) (code : BitVec 6) {n : Reg} (h : Bool) (other : n ≠ 0#5) :
    (s.fpRecord code).fpHalf n h = s.fpHalf n h := by
  simp [State.fpRecord, State.fpHalf_setFpsr, State.fpHalf_setFpHalf, other]

/-! ### What an outcome leaves -/

theorem ne_zero_of_fpWords {t : FpReg} {f : FpFmt} (ok : fpDestOk t f = true) {n : Reg} {h : Bool}
    (named : (n, h) ∈ fpWords t f) : n ≠ 0#5 := by
  rintro rfl
  simpa using reg_of_fpWords ok named

/-- A result and its flags (R746, R760). -/
def State.fpPut (s : State) (t : FpReg) (f : FpFmt) (bits : Nat) (flags : Word) : State :=
  (s.fpWrite t f bits).setFpsr (s.fpsr ||| flags)

theorem fpFinish_result (s : State) (unimp : BitVec 6) (src : List (Reg × Bool)) (t : FpReg) (f : FpFmt)
    (bits : Nat) (flags : Word) (code : BitVec 6) :
    s.fpFinish unimp src t f (.result bits flags code) =
      if code = 0#6 then s.fpPut t f bits flags else (s.fpPut t f bits flags).fpRecord code := rfl

theorem fpRead_fpPut (s : State) {t : FpReg} {f : FpFmt} (ok : fpDestOk t f = true) {bits : Nat}
    (fits : bits < 2 ^ f.width) (flags : Word) : (s.fpPut t f bits flags).fpRead t f = bits := by
  refine (fpRead_congr fun n h named => ?_).trans (fpRead_fpWrite s ok fits)
  have notStatus : (n, h) ≠ (0#5, false) := fun e => ne_zero_of_fpWords ok named (Prod.ext_iff.1 e).1
  rw [State.fpPut, State.fpHalf_setFpsr, if_neg notStatus]

theorem fpsr_fpPut (s : State) (t : FpReg) (f : FpFmt) (bits : Nat) (flags : Word) :
    (s.fpPut t f bits flags).fpsr = s.fpsr ||| flags := State.fpsr_setFpsr _ _

theorem fpHalf_fpPut (s : State) {t : FpReg} {f : FpFmt} (bits : Nat) (flags : Word) {n : Reg} {h : Bool}
    (other : (n, h) ∉ fpWords t f) (notStatus : (n, h) ≠ (0#5, false)) :
    (s.fpPut t f bits flags).fpHalf n h = s.fpHalf n h := by
  rw [State.fpPut, State.fpHalf_setFpsr, if_neg notStatus, fpHalf_fpWrite s bits other]

theorem fpPut_frame (s : State) (t : FpReg) (f : FpFmt) (bits : Nat) (flags : Word) :
    s.fpPut t f bits flags = { s with fprs := (s.fpPut t f bits flags).fprs } := by
  rw [State.fpPut, fpWrite_frame]; rfl

/-- Settles O50: the words of the destination are none of register 0. -/
theorem fpResultWritten : Obligations.FpResultWritten := by
  intro s unimp src t f bits flags ok fits
  rw [fpFinish_result, if_pos rfl]
  exact ⟨fpRead_fpPut s ok fits flags, fpsr_fpPut s t f bits flags, fun n h => fpHalf_fpPut s bits flags,
    fpPut_frame s t f bits flags⟩

theorem mbit_setMbit_T (w : Word) {i : Nat} (hi : i < 32) :
    mbit (setMbit w fpTBit true) i = (mbit w i || i == 25) := by
  rw [mbit_setMbit w fpTBit i true (by decide) hi]
  by_cases last : i = 25 <;> simp [fpTBit, last]

/-- A trap with a result: the exception is recorded over what the result leaves (R792, R794). -/
theorem fpPut_fpRecord (s : State) (code : BitVec 6) {t : FpReg} {f : FpFmt} (ok : fpDestOk t f = true)
    {bits : Nat} (fits : bits < 2 ^ f.width) (flags : Word) :
    let u := (s.fpPut t f bits flags).fpRecord code
    u.fpRead t f = bits ∧ u.fpHalf 0#5 true = code ++ field s.iword 6 26 ∧
    (∀ i, i < 32 → mbit u.fpsr i = (mbit s.fpsr i || mbit flags i || i == 25)) ∧
    (∀ n h, n ≠ 0#5 → (n, h) ∉ fpWords t f → u.fpHalf n h = s.fpHalf n h) ∧
    u = { s with fprs := u.fprs } := by
  intro u
  have recorded : u = (s.fpPut t f bits flags).fpRecord code := rfl
  have frame := fpPut_frame s t f bits flags
  refine ⟨?_, ?_, fun i hi => ?_, fun n h other away => ?_, ?_⟩
  · exact (fpRead_congr fun n h named => fpHalf_fpRecord _ _ _ (ne_zero_of_fpWords ok named)).trans
      (fpRead_fpPut s ok fits flags)
  · rw [fpRecord_exception, frame]
  · rw [fpRecord_fpsr, mbit_setMbit_T _ hi, fpsr_fpPut]
    simp [mbit]
  · rw [fpHalf_fpRecord _ _ _ other, fpHalf_fpPut s bits flags away (by simp [other])]
  · rw [recorded, frame]; rfl

/-- A trap without a result: the sources and everything outside the destination are preserved, and the
exception is recorded (R780, R791, R792). -/
theorem fpLose_fpRecord (s : State) (code : BitVec 6) (src : List (Reg × Bool)) {t : FpReg} {f : FpFmt}
    (ok : fpDestOk t f = true) :
    let u := (s.fpLose src (fpWords t f)).fpRecord code
    u.fpT = true ∧ u.fpHalf 0#5 true = code ++ field s.iword 6 26 ∧
    (∀ i, i < 32 → i ≠ 25 → mbit u.fpsr i = mbit s.fpsr i) ∧
    (∀ n h, n ≠ 0#5 → (n, h) ∈ src ∨ (n, h) ∉ fpWords t f → u.fpHalf n h = s.fpHalf n h) ∧
    u = { s with fprs := u.fprs, draws := u.draws } := by
  intro u
  have recorded : u = (s.fpLose src (fpWords t f)).fpRecord code := rfl
  have frame := fpLose_frame s src (fpWords t f)
  have status : (s.fpLose src (fpWords t f)).fpsr = s.fpsr :=
    fpHalf_fpLose s src _ (.inr fun named => ne_zero_of_fpWords ok named rfl)
  refine ⟨?_, ?_, fun i hi notT => ?_, fun n h other kept => ?_, ?_⟩
  · rw [State.fpT, fpRecord_fpsr, mbit_setMbit_T _ (by decide)]
    simp [fpTBit]
  · rw [fpRecord_exception, frame]
  · rw [fpRecord_fpsr, status, mbit_setMbit_T _ hi]
    simp [notT]
  · rw [fpHalf_fpRecord _ _ _ other, fpHalf_fpLose s src _ kept]
  · rw [recorded, frame]; rfl

/-- Settles O51. -/
theorem fpTrapRecorded : Obligations.FpTrapRecorded := by
  intro s unimp code src t f ok
  constructor
  · intro bits flags trap fits
    rw [fpFinish_result, if_neg trap]
    exact fpPut_fpRecord s code ok fits flags
  · simp only [List.forall_mem_cons]
    exact ⟨fpLose_fpRecord s code src ok, fpLose_fpRecord s unimp src ok, List.forall_mem_nil _⟩

end Sys2Proof.Machine
end

/-! ### The bits of NaNs, zeros and infinities -/

section
namespace Sys2Proof

theorem FpFmt.two_lt_fbits (f : FpFmt) : 2 < f.fbits := by cases f <;> decide

theorem FpFmt.width_pred (f : FpFmt) : f.width - 1 = f.fbits + f.ebits := by
  unfold FpFmt.width; omega

theorem FpFmt.emask_lt (f : FpFmt) : f.emask < 2 ^ f.ebits := Nat.sub_lt (by positivity) one_pos

end Sys2Proof

namespace Sys2Proof.Machine

theorem testBit_eq_false {x n i : Nat} (small : x < 2 ^ n) (high : n ≤ i) : x.testBit i = false :=
  Nat.testBit_lt_two_pow (lt_of_lt_of_le small (Nat.pow_le_pow_right two_pos high))

/-- Joined bits, field by field (R751). -/
theorem testBit_fpJoin (f : FpFmt) (neg : Bool) {e frac : Nat} (he : e < 2 ^ f.ebits)
    (hf : frac < 2 ^ f.fbits) (i : Nat) :
    (fpJoin f neg e frac).testBit i =
      if i < f.fbits then frac.testBit i
      else if i < f.width - 1 then e.testBit (i - f.fbits)
      else decide (i = f.width - 1) && neg := by
  have width := f.width_pred
  unfold fpJoin
  simp only [Nat.testBit_or, Nat.testBit_shiftLeft]
  by_cases fraction : i < f.fbits
  · simp [fraction, show ¬ f.width - 1 ≤ i by omega]
  rw [if_neg fraction, testBit_eq_false hf (by omega)]
  by_cases exponent : i < f.width - 1
  · simp [exponent, show ¬ f.width - 1 ≤ i by omega, show f.fbits ≤ i by omega]
  rw [if_neg exponent, testBit_eq_false he (show f.ebits ≤ i - f.fbits by omega)]
  by_cases last : i = f.width - 1
  · cases neg <;> simp [last]
  · have beyond := testBit_eq_false neg.toNat_lt (show 1 ≤ i - (f.width - 1) by omega)
    simp [last, beyond]

theorem testBit_emask (f : FpFmt) (i : Nat) : f.emask.testBit i = decide (i < f.ebits) :=
  Nat.testBit_two_pow_sub_one _ _

/-- Bits with an exponent of ones, as those of NaNs and infinities. -/
theorem testBit_fpJoin_emask (f : FpFmt) (neg : Bool) {frac : Nat} (hf : frac < 2 ^ f.fbits) (i : Nat) :
    (fpJoin f neg f.emask frac).testBit i =
      if i < f.fbits then frac.testBit i
      else if i < f.width - 1 then true
      else decide (i = f.width - 1) && neg := by
  have width := f.width_pred
  rw [testBit_fpJoin f neg f.emask_lt hf, testBit_emask]
  split_ifs
  · rfl
  · simp; omega
  · rfl

/-- The bits of a NaN above its fraction. -/
theorem testBit_nan {f : FpFmt} {a : Nat} (small : a < 2 ^ f.width) (nan : fpIsNan f a = true) {i : Nat}
    (high : f.fbits ≤ i) :
    a.testBit i = if i < f.width - 1 then true else decide (i = f.width - 1) && fpSign f a := by
  have width := f.width_pred
  split_ifs with exponent
  · have ones : fpExpField f a = f.emask := by simp_all [fpIsNan]
    have bit := congrArg (Nat.testBit · (i - f.fbits)) ones
    simp only [fpExpField, Nat.testBit_mod_two_pow, Nat.testBit_shiftRight, testBit_emask,
      show i - f.fbits < f.ebits by omega, show f.fbits + (i - f.fbits) = i by omega] at bit
    simpa using bit
  · by_cases last : i = f.width - 1
    · simp [last, fpSign]
    · simp [last, testBit_eq_false small (show f.width ≤ i by omega)]

/-- `fpQuiet` (R778 (e)). -/
theorem testBit_fpQuiet {f : FpFmt} {a : Nat} (small : a < 2 ^ f.width) (nan : fpIsNan f a = true) (i : Nat) :
    (fpQuiet f a).testBit i =
      if i = f.fbits - 1 then false
      else if i = f.fbits - 2 then a.testBit i || decide (a % 2 ^ (f.fbits - 1) = 0)
      else a.testBit i := by
  have two := f.two_lt_fbits
  have rest : fpFrac f a % 2 ^ (f.fbits - 1) = a % 2 ^ (f.fbits - 1) :=
    Nat.mod_mod_of_dvd a (Nat.pow_dvd_pow 2 (by omega))
  have kept : (a % 2 ^ (f.fbits - 1)).testBit i = (decide (i < f.fbits - 1) && a.testBit i) :=
    Nat.testBit_mod_two_pow ..
  have fits : (if a % 2 ^ (f.fbits - 1) = 0 then 2 ^ (f.fbits - 2) else a % 2 ^ (f.fbits - 1)) <
      2 ^ f.fbits := by
    split_ifs
    · exact Nat.pow_lt_pow_right one_lt_two (by omega)
    · exact lt_of_lt_of_le (Nat.mod_lt _ (by positivity)) (Nat.pow_le_pow_right two_pos (by omega))
  unfold fpQuiet
  simp only [rest]
  rw [testBit_fpJoin_emask f _ fits]
  by_cases fraction : i < f.fbits
  · rw [if_pos fraction]
    by_cases none : a % 2 ^ (f.fbits - 1) = 0
    · simp only [none, Nat.zero_testBit] at kept
      simp only [none, if_true, Nat.testBit_two_pow]
      grind
    · rw [if_neg none, kept]
      grind
  · rw [if_neg fraction, ← testBit_nan small nan (by omega), if_neg (by omega), if_neg (by omega)]

/-- `fpResizeNan` (R778 (h)). -/
theorem testBit_fpResizeNan {f : FpFmt} (g : FpFmt) {a : Nat} (nan : fpIsNan f a = true) (i : Nat) :
    (fpResizeNan f g a).testBit i =
      if i < g.fbits then
        if f.fbits ≤ g.fbits then decide (g.fbits ≤ i + f.fbits) && a.testBit (i + f.fbits - g.fbits)
        else a.testBit (i + (f.fbits - g.fbits))
          || decide (i = g.fbits - 2 ∧ a % 2 ^ f.fbits < 2 ^ (f.fbits - g.fbits))
      else if i < g.width - 1 then true
      else decide (i = g.width - 1) && fpSign f a := by
  have two := g.two_lt_fbits
  have nonzero : fpFrac f a ≠ 0 := by simp_all [fpIsNan]
  have small : fpFrac f a < 2 ^ f.fbits := Nat.mod_lt _ (by positivity)
  have bit (j : Nat) : (fpFrac f a).testBit j = (decide (j < f.fbits) && a.testBit j) :=
    Nat.testBit_mod_two_pow ..
  unfold fpResizeNan
  dsimp only
  by_cases wider : f.fbits ≤ g.fbits
  · have some : fpFrac f a <<< (g.fbits - f.fbits) ≠ 0 := by simpa [Nat.shiftLeft_eq] using nonzero
    have fits : fpFrac f a <<< (g.fbits - f.fbits) < 2 ^ g.fbits := by
      calc fpFrac f a <<< (g.fbits - f.fbits) = fpFrac f a * 2 ^ (g.fbits - f.fbits) := Nat.shiftLeft_eq ..
        _ < 2 ^ f.fbits * 2 ^ (g.fbits - f.fbits) := Nat.mul_lt_mul_of_pos_right small (by positivity)
        _ = 2 ^ g.fbits := by rw [← pow_add]; congr 1; omega
    rw [if_pos wider, if_neg some, testBit_fpJoin_emask g _ fits]
    refine ite_congr rfl (fun fraction => ?_) fun _ => rfl
    rw [if_pos wider, Nat.testBit_shiftLeft, bit]
    by_cases inside : g.fbits ≤ i + f.fbits
    · simp [inside, show i - (g.fbits - f.fbits) = i + f.fbits - g.fbits by omega,
        show i + f.fbits - g.fbits < f.fbits by omega]
    · simp [inside, show ¬ g.fbits - f.fbits ≤ i by omega]
  · have kept (j : Nat) : (fpFrac f a >>> (f.fbits - g.fbits)).testBit j =
        (decide (j < g.fbits) && a.testBit (j + (f.fbits - g.fbits))) := by
      rw [Nat.testBit_shiftRight, bit, Nat.add_comm]
      congr 2
      exact propext (by omega)
    have fits : (if fpFrac f a >>> (f.fbits - g.fbits) = 0 then 2 ^ (g.fbits - 2)
        else fpFrac f a >>> (f.fbits - g.fbits)) < 2 ^ g.fbits := by
      split_ifs
      · exact Nat.pow_lt_pow_right one_lt_two (by omega)
      · exact Nat.lt_pow_two_of_testBit _ fun j high => by simp [kept, show ¬ j < g.fbits by omega]
    rw [if_neg wider, testBit_fpJoin_emask g _ fits]
    refine ite_congr rfl (fun fraction => ?_) fun _ => rfl
    have nothing : fpFrac f a >>> (f.fbits - g.fbits) = 0 ↔ a % 2 ^ f.fbits < 2 ^ (f.fbits - g.fbits) := by
      rw [Nat.shiftRight_eq_div_pow, Nat.div_eq_zero_iff_lt (by positivity)]
      rfl
    by_cases none : fpFrac f a >>> (f.fbits - g.fbits) = 0
    · have clear : a.testBit (i + (f.fbits - g.fbits)) = false := by
        simpa [none, fraction] using (kept i).symm
      simp only [none, if_true, Nat.testBit_two_pow, if_neg wider, nothing.1 none, clear, and_true,
        Bool.false_or]
      exact decide_eq_decide.2 eq_comm
    · simp [none, if_neg wider, kept, fraction, mt nothing.2 none]

/-! ### Operations of NaNs -/

theorem fpIsNan_of_fpIsSnan {f : FpFmt} {a : Nat} (signaling : fpIsSnan f a = true) : fpIsNan f a = true :=
  (Bool.and_eq_true_iff.1 signaling).1

/-- The operations of two operands answer for NaNs with `fpNanResult` (R806). -/
theorem arithmetic_nan {op : Word → FpFmt → Nat → Nat → FpOutcome}
    (arith : op ∈ [fpAdd, fpSub, fpMul, fpDiv]) (sr : Word) {f : FpFmt} {a b : Nat}
    (nan : fpIsNan f a = true ∨ fpIsNan f b = true) :
    op sr f a b = fpNanResult sr f a b := by
  have some : (fpIsNan f a || fpIsNan f b) = true := by simpa using nan
  simp only [List.mem_cons, List.not_mem_nil, or_false] at arith
  obtain rfl | rfl | rfl | rfl := arith <;> exact if_pos some

theorem fpNanResult_first_signaling (sr : Word) {f : FpFmt} {a : Nat} (b : Nat) (h : fpIsSnan f a = true) :
    fpNanResult sr f a b = fpInvalid sr (fpQuiet f a) := if_pos h

theorem fpNanResult_second_signaling (sr : Word) {f : FpFmt} {a b : Nat} (ha : fpIsSnan f a = false)
    (hb : fpIsSnan f b = true) : fpNanResult sr f a b = fpInvalid sr (fpQuiet f b) := by
  simp [fpNanResult, ha, hb]

theorem fpNanResult_first_quiet (sr : Word) {f : FpFmt} {a b : Nat} (ha : fpIsSnan f a = false)
    (hb : fpIsSnan f b = false) (nan : fpIsNan f a = true) : fpNanResult sr f a b = fpExactly a := by
  simp [fpNanResult, ha, hb, nan]

theorem fpNanResult_second_quiet (sr : Word) {f : FpFmt} {a b : Nat} (ha : fpIsSnan f a = false)
    (hb : fpIsSnan f b = false) (number : fpIsNan f a = false) : fpNanResult sr f a b = fpExactly b := by
  simp [fpNanResult, ha, hb, number]

theorem fpSqrt_nan (sr : Word) {f : FpFmt} {a : Nat} (nan : fpIsNan f a = true) :
    fpSqrt sr f a = fpNanResult sr f a a := if_pos nan

theorem fpRound_nan (sr : Word) {f : FpFmt} {a : Nat} (nan : fpIsNan f a = true) :
    fpRound sr f a = fpNanResult sr f a a := if_pos nan

theorem fpConvert_quiet (sr : Word) {f : FpFmt} (g : FpFmt) {a : Nat} (nan : fpIsNan f a = true)
    (quiet : fpIsSnan f a = false) : fpConvert sr f g a = fpExactly (fpResizeNan f g a) := by
  simp [fpConvert, nan, quiet]

/-- Settles O49. -/
theorem nanOperands : Obligations.NanOperands := by
  refine ⟨?_, ?_, ?_, ?_⟩
  · intro sr f a b op arith
    refine ⟨fun ha => ?_, fun ha hb => ?_, fun ha hb => ⟨fun nan => ?_, fun number nan => ?_⟩⟩
    · rw [arithmetic_nan arith sr (.inl (fpIsNan_of_fpIsSnan ha)), fpNanResult_first_signaling sr b ha]
      rfl
    · rw [arithmetic_nan arith sr (.inr (fpIsNan_of_fpIsSnan hb)), fpNanResult_second_signaling sr ha hb]
      rfl
    · rw [arithmetic_nan arith sr (.inl nan), fpNanResult_first_quiet sr ha hb nan]
      rfl
    · rw [arithmetic_nan arith sr (.inr nan), fpNanResult_second_quiet sr ha hb number]
      rfl
  · exact fun f g a small nan => ⟨fun _ => testBit_fpQuiet small nan, fun _ => testBit_fpResizeNan g nan⟩
  · intro f neg i
    have two := f.two_lt_fbits
    have width := f.width_pred
    refine ⟨?_, ?_, ?_⟩
    · rw [fpDefaultNan, testBit_fpJoin_emask f _ (Nat.pow_lt_pow_right one_lt_two (by omega)),
        Nat.testBit_two_pow]
      grind
    · rw [fpZero, testBit_fpJoin f neg (by positivity) (by positivity)]
      simp only [Nat.zero_testBit]
      grind
    · rw [fpInf, testBit_fpJoin_emask f neg (by positivity), Nat.zero_testBit]
      grind
  · intro sr f g a
    refine ⟨fun signaling => ⟨?_, if_pos signaling⟩, fun nan quiet => ⟨?_, ?_, ?_⟩, fun nan rm => if_pos nan⟩
    · have nan := fpIsNan_of_fpIsSnan signaling
      have invalid := fpNanResult_first_signaling sr a signaling
      simp only [List.forall_mem_cons]
      exact ⟨(fpSqrt_nan sr nan).trans invalid, (fpRound_nan sr nan).trans invalid, List.forall_mem_nil _⟩
    · exact (fpSqrt_nan sr nan).trans (fpNanResult_first_quiet sr quiet quiet nan)
    · exact (fpRound_nan sr nan).trans (fpNanResult_first_quiet sr quiet quiet nan)
    · exact fpConvert_quiet sr g nan quiet

end Sys2Proof.Machine
end

/-! ### Rounding and delivering a number -/

section
namespace Sys2Proof.Machine

/-- Whether a number of sign `neg` with a remainder `low` of `unit` above `quo` is rounded up (R776). -/
def roundsUp (rm : BitVec 2) (neg : Bool) (quo low unit : Nat) : Bool :=
  match rm.toNat with
  | 0 => decide (unit < low * 2) || (low * 2 == unit && quo % 2 == 1)
  | 1 => false
  | 2 => low != 0 && !neg
  | _ => low != 0 && neg

/-- Rounding that drops `k` bits, in terms of the quotient and the remainder. -/
theorem roundAt_drops (rm : BitVec 2) (neg : Bool) (m : Nat) (e : Int) {k : Nat} (some : 0 < k) :
    roundAt rm ⟨neg, m, e, false⟩ (e + k) =
      (if roundsUp rm neg (m / 2 ^ k) (m % 2 ^ k) (2 ^ k) then m / 2 ^ k + 1 else m / 2 ^ k,
        m % 2 ^ k != 0) := by
  obtain ⟨j, rfl⟩ := Nat.exists_eq_succ_of_ne_zero some.ne'
  have below (low : Nat) : decide (2 ^ (j + 1) < low * 2) = decide (2 ^ j < low) :=
    decide_eq_decide.2 (by rw [pow_succ]; omega)
  have equal (low : Nat) : (low * 2 == 2 ^ (j + 1)) = (low == 2 ^ j) :=
    decide_eq_decide.2 (by rw [pow_succ]; omega)
  unfold roundAt roundsUp
  obtain rfl | rfl | rfl | rfl : rm = 0#2 ∨ rm = 1#2 ∨ rm = 2#2 ∨ rm = 3#2 := by bv_omega
  all_goals simp [Nat.shiftRight_eq_div_pow, below, equal]

/-- The neighbour that each mode chooses (R776). -/
theorem roundAt_neighbours (neg : Bool) (m : Nat) (e : Int) {k : Nat} (some : 0 < k) :
    let x : FpExact := ⟨neg, m, e, false⟩
    let q := e + k
    let low := m / 2 ^ k
    (∀ rm, (roundAt rm x q).2 = true ↔ m % 2 ^ k ≠ 0) ∧
    (∀ rm, m % 2 ^ k = 0 → (roundAt rm x q).1 = low) ∧
    (m % 2 ^ k ≠ 0 →
      (m % 2 ^ k * 2 < 2 ^ k → (roundAt 0#2 x q).1 = low) ∧
      (2 ^ k < m % 2 ^ k * 2 → (roundAt 0#2 x q).1 = low + 1) ∧
      (m % 2 ^ k * 2 = 2 ^ k → (roundAt 0#2 x q).1 = low + low % 2) ∧
      (roundAt 1#2 x q).1 = low ∧
      (roundAt 2#2 x q).1 = (if neg then low else low + 1) ∧
      (roundAt 3#2 x q).1 = (if neg then low + 1 else low)) := by
  have positive : 0 < 2 ^ k := by positivity
  simp only [roundAt_drops _ neg m e some]
  generalize 2 ^ k = unit at positive ⊢
  generalize m % unit = rest, m / unit = low
  refine ⟨fun rm => bne_iff_ne, fun rm exact => ?_, fun inexact => ⟨fun small => ?_, fun large => ?_,
    fun tie => ?_, ?_, ?_, ?_⟩⟩
  · have stays : roundsUp rm neg low rest unit = false := by
      unfold roundsUp
      split
      · simp [exact]; omega
      all_goals simp [exact]
    rw [stays]; rfl
  · simp [roundsUp]; omega
  · simp [roundsUp, large]
  · simp [roundsUp, tie]; split <;> omega
  · rfl
  · cases neg <;> simp [roundsUp, inexact]
  · cases neg <;> simp [roundsUp, inexact]

theorem ne_zero_of_two_pow_le {n k : Nat} (low : 2 ^ k ≤ n) : n ≠ 0 :=
  (lt_of_lt_of_le (by positivity) low).ne'

/-- A magnitude rounded to the precision of the format, at an exponent of its normal range. -/
theorem fpPack_rounded (f : FpFmt) (neg : Bool) {n : Nat} {k : Int} (low : 2 ^ f.fbits ≤ n)
    (high : n ≤ 2 ^ (f.fbits + 1)) (bottom : f.emin ≤ k + n.log2) (top : k + n.log2 ≤ f.bias) :
    FpHas f (fpPack f neg n k) neg (n * (2 : ℝ) ^ k) := by
  have nonzero := ne_zero_of_two_pow_le low
  refine fpPack_has f neg n k nonzero top ?_
  rw [if_neg (not_lt.2 bottom)]
  obtain short | carry := Nat.lt_or_ge n (2 ^ (f.fbits + 1))
  · exact .inl (Nat.lt_succ_iff.1 ((Nat.log2_lt nonzero).2 short))
  · obtain rfl := le_antisymm high carry
    exact .inr (Nat.pow_dvd_pow 2 (by rw [Nat.log2_two_pow]; omega))

/-- A magnitude rounded to a multiple of the smallest denormal number, below the normal range. -/
theorem fpPack_denormal (f : FpFmt) (neg : Bool) {d : Nat} (small : d ≤ 2 ^ f.fbits) :
    FpHas f (if d = 0 then fpZero f neg else fpPack f neg d (f.emin - f.fbits)) neg
      (d * (2 : ℝ) ^ (f.emin - f.fbits)) := by
  split_ifs with zero
  · have has := fpJoin_has f neg (e := 0) (frac := 0) (by cases f <;> decide) (by positivity)
    simpa [fpZero, zero] using has
  · have bits : d.log2 ≤ f.fbits := by
      have := (Nat.log2_lt zero).2 (lt_of_le_of_lt small (Nat.pow_lt_pow_succ one_lt_two))
      omega
    have range : f.emin ≤ f.bias := by cases f <;> decide
    refine fpPack_has f neg d _ zero (by omega) ?_
    split_ifs
    · rfl
    · exact .inl bits

/-- A magnitude that stands for more than itself has more bits than the format keeps. -/
theorem FpExact.Spans.exp_lt {x : FpExact} {f : FpFmt} {v : ℝ} (h : x.Spans f v) (sticky : x.sticky = true) :
    x.exp < x.msb - f.fbits := by
  have wide : 2 ^ (f.fbits + 2) ≤ x.mant := by
    have := h.2
    rw [if_pos sticky] at this
    exact this.2.2
  have := (Nat.le_log2 h.1).2 wide
  unfold FpExact.msb
  omega

/-- A magnitude between two powers of two, rounded to the precision of the format, stays between them. -/
theorem RoundsTo.bounds {rm : BitVec 2} {neg : Bool} {v : ℝ} {q : Int} {n p : Nat}
    (h : RoundsTo rm neg (v / (2 : ℝ) ^ q) n) (low : (2 : ℝ) ^ (q + p) ≤ v)
    (high : v < (2 : ℝ) ^ (q + p + 1)) : 2 ^ p ≤ n ∧ n ≤ 2 ^ (p + 1) := by
  have unit : (0 : ℝ) < (2 : ℝ) ^ q := by positivity
  rw [zpow_add₀ two_ne_zero, zpow_natCast] at low
  rw [add_assoc, ← Nat.cast_succ, zpow_add₀ two_ne_zero, zpow_natCast] at high
  refine ⟨h.ge _ ?_, h.le _ ?_⟩
  · rw [le_div_iff₀ unit]; push_cast; linarith
  · rw [div_lt_iff₀ unit, mul_comm]; exact_mod_cast high

section
variable {sr : Word} {f : FpFmt} {x : FpExact} {q : Int} {n : Nat} {inexact : Bool}

/-- The rounded number is in the normal range (R805). -/
theorem fpDeliver_normal (conv : Bool) (hq : x.msb - f.fbits = q) (hr : roundAt (fpRm sr) x q = (n, inexact))
    (low : f.emin ≤ q + n.log2) (high : q + n.log2 ≤ f.bias) :
    fpDeliver sr f conv x = fpInexact sr (fpPack f x.neg n q) 0#32 inexact := by
  unfold fpDeliver
  simp only [hq, hr]
  rw [if_neg (by omega), if_neg (by omega)]

/-- The rounded number is above the normal range (R801). -/
theorem fpDeliver_overflow (conv : Bool) (hq : x.msb - f.fbits = q)
    (hr : roundAt (fpRm sr) x q = (n, inexact)) (high : f.bias < q + n.log2) :
    fpDeliver sr f conv x =
      if fpEnabled sr 2 then
        if conv ∧ f.bias + f.adjust + 1 ≤ q + n.log2 then .unimplemented
        else fpAdjusted sr (fpPack f x.neg n (q - f.adjust)) inexact 0b001000#6 0b001010#6
      else fpInexact sr (fpOverflow f (fpRm sr) x.neg) (fpFlag 2) true := by
  unfold fpDeliver
  simp only [hq, hr]
  rw [if_pos high]

/-- The rounded number is below the normal range (R802). -/
theorem fpDeliver_underflow (conv : Bool) (hq : x.msb - f.fbits = q)
    (hr : roundAt (fpRm sr) x q = (n, inexact)) (low : q + n.log2 < f.emin) :
    fpDeliver sr f conv x =
      if fpEnabled sr 3 then
        if conv ∧ q + n.log2 < f.emin - f.adjust then .unimplemented
        else fpAdjusted sr (fpPack f x.neg n (q + f.adjust)) inexact 0b000100#6 0b000110#6
      else
        let d := roundAt (fpRm sr) x (f.emin - f.fbits)
        fpInexact sr (if d.1 = 0 then fpZero f x.neg else fpPack f x.neg d.1 (f.emin - f.fbits))
          (if d.2 then fpFlag 3 else 0#32) d.2 := by
  have range : f.emin ≤ f.bias := by cases f <;> decide
  unfold fpDeliver
  simp only [hq, hr]
  rw [if_neg (by omega), if_pos low]

end

/-- `fpDeliver` delivers the number that its operand stands for (R805). -/
theorem fpDeliver_delivers (sr : Word) (f : FpFmt) (conv : Bool) {x : FpExact} {v : ℝ} (h : x.Spans f v) :
    FpDelivers (fpDeliver sr f conv x) sr f conv x.neg v := by
  obtain ⟨above, below⟩ := h.bounds
  generalize hq : x.msb - f.fbits = q
  rw [show x.msb = q + f.fbits by omega] at above below
  have many : x.sticky = true → x.exp < q := fun sticky => hq ▸ h.exp_lt sticky
  obtain ⟨rounds, exact⟩ := roundAt_rounds (fpRm sr) x f v q h many
  generalize hr : roundAt (fpRm sr) x q = r at rounds exact
  obtain ⟨n, inexact⟩ := r
  dsimp only at rounds exact
  obtain ⟨low, high⟩ := rounds.bounds above below
  have lt_iff := log2_lt_iff_zpow n (ne_zero_of_two_pow_le low) q
  have le_iff (a : ℤ) : a ≤ q + n.log2 ↔ (2 : ℝ) ^ a ≤ n * (2 : ℝ) ^ q := by
    rw [← not_lt, lt_iff, not_lt]
  have shift (a : ℤ) : (n : ℝ) * (2 : ℝ) ^ q * (2 : ℝ) ^ a = n * (2 : ℝ) ^ (q + a) := by
    rw [zpow_add₀ two_ne_zero, mul_assoc]
  have range : f.emin + f.adjust ≤ f.bias + 1 := by cases f <;> decide
  refine ⟨q, n, above, below, rounds, fun normal inside => ?_, fun large => ?_, fun small => ?_⟩
  · rw [← le_iff] at normal
    rw [← lt_iff, Int.lt_add_one_iff] at inside
    have gives := fpInexact_gives sr (fpPack f x.neg n q) 0#32 inexact _ exact
    rw [ite_self] at gives
    rw [fpDeliver_normal conv hq hr normal inside]
    exact ⟨_, fpPack_rounded f x.neg low high normal inside, gives⟩
  · rw [← le_iff, Int.add_one_le_iff] at large
    rw [fpDeliver_overflow conv hq hr large]
    refine ⟨fun off => ?_, fun on near => ?_, fun on isConv far => ?_⟩
    · rw [if_neg (by simp [off])]
      exact fpInexact_gives sr (fpOverflow f (fpRm sr) x.neg) (fpFlag 2) true False (by simp)
    · rw [← lt_iff] at near
      rw [if_pos on, if_neg (by omega), div_eq_mul_inv, ← zpow_neg, shift]
      exact ⟨_, fpPack_rounded f x.neg low high (by omega) (by omega),
        fpAdjusted_gives sr _ _ _ inexact _ exact⟩
    · rw [← le_iff] at far
      rw [if_pos on, if_pos ⟨isConv, far⟩]
  · rw [← lt_iff] at small
    rw [fpDeliver_underflow conv hq hr small]
    refine ⟨fun off => ?_, fun on near => ?_, fun on isConv far => ?_⟩
    · have coarser : q < f.emin - f.fbits := by
        have := (Nat.le_log2 (ne_zero_of_two_pow_le low)).2 low
        omega
      obtain ⟨rounds, exact⟩ := roundAt_rounds (fpRm sr) x f v (f.emin - f.fbits) h
        fun sticky => (many sticky).trans coarser
      rw [if_neg (by simp [off])]
      refine ⟨_, _, rounds, fpPack_denormal f x.neg (rounds.le _ ?_), fpInexact_gives sr _ _ _ _ exact⟩
      have small : v < (2 : ℝ) ^ f.emin :=
        below.trans_le (zpow_le_zpow_right₀ one_le_two (by omega))
      rw [div_lt_iff₀ (by positivity), Nat.cast_pow, ← zpow_natCast, Nat.cast_ofNat, ← zpow_add₀ two_ne_zero]
      simpa using small
    · rw [← le_iff] at near
      rw [if_pos on, if_neg (by omega), shift]
      exact ⟨_, fpPack_rounded f x.neg low high (by omega) (by omega),
        fpAdjusted_gives sr _ _ _ inexact _ exact⟩
    · rw [← lt_iff] at far
      rw [if_pos on, if_pos ⟨isConv, far⟩]

/-- The result of an overflow that does not trap (R801). -/
theorem fpOverflow_eq (f : FpFmt) (rm : BitVec 2) (neg : Bool) :
    fpOverflow f rm neg =
      if rm = 0#2 ∨ rm = 2#2 ∧ neg = false ∨ rm = 3#2 ∧ neg = true then fpInf f neg
      else fpMaxFinite f neg := by
  obtain rfl | rfl | rfl | rfl : rm = 0#2 ∨ rm = 1#2 ∨ rm = 2#2 ∨ rm = 3#2 := by bv_omega
  all_goals cases neg <;> rfl

theorem fpValue_fpInf (f : FpFmt) (neg : Bool) : fpValue f (fpInf f neg) = .inf neg := by
  obtain ⟨sign, exponent, -, -⟩ := fpJoin_fields f neg f.emask_lt (frac := 0) (by positivity)
  unfold fpValue fpInf
  rw [sign, exponent]
  exact if_pos rfl

theorem fpMaxFinite_has (f : FpFmt) (neg : Bool) :
    FpHas f (fpMaxFinite f neg) neg ((2 : ℝ) ^ (f.bias + 1) - (2 : ℝ) ^ (f.bias - f.fbits)) := by
  have range : 1 < f.emask := by cases f <;> decide
  have has := fpJoin_has f neg (e := f.emask - 1) (frac := 2 ^ f.fbits - 1) (by omega)
    (Nat.sub_lt (by positivity) one_pos)
  rw [if_neg (by omega)] at has
  have exponent : f.emin - f.fbits + (f.emask - 1 : Nat) - 1 = f.bias - f.fbits := by
    have := FpFmt.emask_eq f
    unfold FpFmt.emin
    omega
  have value : (2 : ℝ) ^ (f.bias + 1) - (2 : ℝ) ^ (f.bias - f.fbits) =
      (2 ^ f.fbits + (2 ^ f.fbits - 1 : Nat)) * (2 : ℝ) ^ (f.bias - f.fbits) := by
    rw [Nat.cast_sub Nat.one_le_two_pow, show f.bias + 1 = f.fbits + 1 + (f.bias - f.fbits) by ring,
      zpow_add₀ two_ne_zero, zpow_add_one₀ two_ne_zero, zpow_natCast]
    push_cast
    ring
  rw [value, ← exponent]
  exact has

/-- Settles O47. -/
theorem roundingModes : Obligations.RoundingModes := by
  refine ⟨fun neg m e q k hq some => ?_, fun sr f conv x v => fpDeliver_delivers sr f conv, fun f rm neg =>
    ⟨fpOverflow_eq f rm neg, fpValue_fpInf f neg, fpMaxFinite_has f neg⟩⟩
  subst hq
  exact roundAt_neighbours neg m e some

end Sys2Proof.Machine
end

/-! ### A number of the format is delivered as it is -/

section
namespace Sys2Proof.Machine

/-- Bits are their sign, exponent field and fraction joined (R751). -/
theorem fpJoin_fields_self {f : FpFmt} {x : Nat} (small : x < 2 ^ f.width) :
    fpJoin f (fpSign f x) (fpExpField f x) (fpFrac f x) = x := by
  have width := f.width_pred
  refine Nat.eq_of_testBit_eq fun i => ?_
  have exponent : fpExpField f x < 2 ^ f.ebits := Nat.mod_lt _ (by positivity)
  have fraction : fpFrac f x < 2 ^ f.fbits := Nat.mod_lt _ (by positivity)
  rw [testBit_fpJoin f _ exponent fraction]
  split_ifs with low middle
  · simp [fpFrac, Nat.testBit_mod_two_pow, low]
  · simp [fpExpField, Nat.testBit_mod_two_pow, show i - f.fbits < f.ebits by omega,
      show f.fbits + (i - f.fbits) = i by omega]
  · by_cases last : i = f.width - 1
    · simp [last, fpSign]
    · simp [last, testBit_eq_false small (show f.width ≤ i by omega)]

/-- The significand and exponent of a number are those of a denormal number, or those of a normalized
number with the leading bit in front of its fraction (R752). -/
theorem fpValue_num {f : FpFmt} {x m : Nat} {neg : Bool} {e : Int} (value : fpValue f x = .num neg m e) :
    neg = fpSign f x ∧ m ≠ 0 ∧
    (fpExpField f x = 0 ∧ m = fpFrac f x ∧ m.log2 < f.fbits ∧ e = f.emin - f.fbits ∨
      m = 2 ^ f.fbits + fpFrac f x ∧ m.log2 = f.fbits ∧ e + f.fbits + f.bias = fpExpField f x ∧
      f.emin ≤ e + f.fbits ∧ e + f.fbits ≤ f.bias) := by
  have fraction : fpFrac f x < 2 ^ f.fbits := Nat.mod_lt _ (by positivity)
  have exponent : fpExpField f x < 2 ^ f.ebits := Nat.mod_lt _ (by positivity)
  have emask := FpFmt.emask_eq f
  have emin : f.emin = 1 - f.bias := rfl
  unfold fpValue at value
  dsimp only at value
  split_ifs at value with inf denormal zero
  · obtain ⟨rfl, rfl, rfl⟩ := FpVal.num.inj value
    exact ⟨rfl, zero, .inl ⟨denormal, rfl, (Nat.log2_lt zero).2 fraction, rfl⟩⟩
  · obtain ⟨rfl, rfl, rfl⟩ := FpVal.num.inj value
    have below : fpExpField f x < f.emask := by unfold FpFmt.emask at inf ⊢; omega
    have nonzero : 2 ^ f.fbits + fpFrac f x ≠ 0 := ne_zero_of_two_pow_le (Nat.le_add_right _ _)
    refine ⟨rfl, nonzero, .inr ⟨rfl, (Nat.log2_eq_iff nonzero).2 ⟨by omega, ?_⟩, by omega, by omega, by omega⟩⟩
    rw [pow_succ]; omega

/-- The number that bits spell, packed, is those bits. -/
theorem fpPack_fpValue {f : FpFmt} {x m : Nat} {neg : Bool} {e : Int} (small : x < 2 ^ f.width)
    (value : fpValue f x = .num neg m e) : fpPack f neg m e = x := by
  obtain ⟨rfl, -, ⟨exponent, rfl, log, rfl⟩ | ⟨fraction, log, exponent, bottom, -⟩⟩ := fpValue_num value
  all_goals
    refine Eq.trans ?_ (fpJoin_fields_self small)
    unfold fpPack
    dsimp only
  · rw [if_pos (by omega), exponent]
  · rw [if_neg (by omega), log, if_pos le_rfl, exponent, Nat.sub_self, Nat.shiftLeft_zero, fraction,
      Nat.add_sub_cancel_left, Int.toNat_natCast]

/-- A number is a multiple of every power of two below its lowest bit. -/
theorem roundAt_exact (rm : BitVec 2) (neg : Bool) (m : Nat) {e q : Int} (below : q ≤ e) :
    roundAt rm ⟨neg, m, e, false⟩ q = (m <<< (e - q).toNat, false) := if_pos below

theorem log2_shiftLeft {m : Nat} (nonzero : m ≠ 0) (k : Nat) : (m <<< k).log2 = m.log2 + k := by
  rw [Nat.shiftLeft_eq, Nat.log2_eq_iff (by positivity), pow_add, Nat.add_right_comm, pow_add]
  exact ⟨Nat.mul_le_mul_right _ (Nat.log2_self_le nonzero),
    Nat.mul_lt_mul_of_pos_right Nat.lt_log2_self (by positivity)⟩

/-- A number of the format is delivered without rounding, flag or exception (R776, R805). -/
theorem fpDeliver_fpValue (sr : Word) {f : FpFmt} (conv : Bool) {x m : Nat} {neg : Bool} {e : Int}
    (small : x < 2 ^ f.width) (value : fpValue f x = .num neg m e) (off : fpEnabled sr 3 = false) :
    fpDeliver sr f conv ⟨neg, m, e, false⟩ = .result x 0#32 0#6 := by
  have packed := fpPack_fpValue small value
  obtain ⟨-, nonzero, ⟨-, -, log, rfl⟩ | ⟨-, log, -, bottom, top⟩⟩ := fpValue_num value
  · obtain ⟨q, hq⟩ : ∃ q, q = f.emin - f.fbits + (m.log2 : Int) - f.fbits := ⟨_, rfl⟩
    have rounded := roundAt_exact (fpRm sr) neg m (show q ≤ f.emin - f.fbits by omega)
    have tiny : q + ((m <<< (f.emin - f.fbits - q).toNat).log2 : Int) < f.emin := by
      rw [log2_shiftLeft nonzero]; omega
    rw [fpDeliver_underflow (x := ⟨neg, m, _, false⟩) conv hq.symm rounded tiny, if_neg (by simp [off])]
    simp [roundAt_exact, fpInexact, nonzero, packed]
  · have rounded := roundAt_exact (fpRm sr) neg m (le_refl e)
    rw [sub_self, Int.toNat_zero, Nat.shiftLeft_zero] at rounded
    rw [fpDeliver_normal conv (by simp [FpExact.msb, log]) rounded (by omega) (by omega), packed]
    rfl

/-! ### The operations on values -/

/-- The value of an operand as a number; an infinity counts as 0, as in `fpRat`. -/
def FpVal.rat : FpVal → ℚ
  | .num neg m e => (if neg then -1 else 1) * m * 2 ^ e
  | _ => 0

@[simp] theorem FpVal.rat_inf (neg : Bool) : (FpVal.inf neg).rat = 0 := rfl

@[simp] theorem FpVal.rat_zero (neg : Bool) : (FpVal.zero neg).rat = 0 := rfl

def FpVal.sign : FpVal → Bool
  | .inf neg => neg
  | .zero neg => neg
  | .num neg _ _ => neg

def FpVal.finite : FpVal → Prop
  | .inf _ => False
  | _ => True

@[simp] theorem FpVal.sign_inf (neg : Bool) : (FpVal.inf neg).sign = neg := rfl
@[simp] theorem FpVal.sign_zero (neg : Bool) : (FpVal.zero neg).sign = neg := rfl
@[simp] theorem FpVal.sign_num (neg : Bool) (m : Nat) (e : Int) : (FpVal.num neg m e).sign = neg := rfl
@[simp] theorem FpVal.finite_inf (neg : Bool) : ¬ (FpVal.inf neg).finite := id
@[simp] theorem FpVal.finite_zero (neg : Bool) : (FpVal.zero neg).finite := trivial
@[simp] theorem FpVal.finite_num (neg : Bool) (m : Nat) (e : Int) : (FpVal.num neg m e).finite := trivial

/-- A number other than zero has a significand other than zero. -/
def FpVal.sound : FpVal → Prop
  | .num _ m _ => m ≠ 0
  | _ => True

theorem fpRat_eq (f : FpFmt) (x : Nat) : fpRat f x = (fpValue f x).rat := by
  unfold fpRat
  cases fpValue f x <;> rfl

theorem fpFinite_iff (f : FpFmt) (x : Nat) : fpFinite f x ↔ (fpValue f x).finite := by
  unfold fpFinite fpValue
  dsimp only
  split_ifs with ones denormal zero <;> simp [ones]

theorem fpSign_eq (f : FpFmt) (x : Nat) : fpSign f x = (fpValue f x).sign := by
  unfold fpValue
  dsimp only
  split_ifs <;> rfl

theorem fpValue_sound (f : FpFmt) (x : Nat) : (fpValue f x).sound := by
  cases value : fpValue f x with
  | num neg m e => exact (fpValue_num value).2.1
  | _ => trivial

@[simp] theorem FpVal.sign_negate (x : FpVal) : x.negate.sign = !x.sign := by cases x <;> rfl

@[simp] theorem FpVal.finite_negate (x : FpVal) : x.negate.finite ↔ x.finite := by cases x <;> rfl

@[simp] theorem FpVal.sound_negate (x : FpVal) : x.negate.sound ↔ x.sound := by cases x <;> rfl

@[simp] theorem FpVal.rat_negate (x : FpVal) : x.negate.rat = -x.rat := by
  cases x with
  | num neg m e => cases neg <;> simp [FpVal.negate, FpVal.rat]
  | _ => simp [FpVal.negate, FpVal.rat]

/-- A number is its sign and a positive magnitude. -/
theorem decide_neg_and_abs_of_sign {neg : Bool} {v r : ℚ} (positive : 0 < r)
    (value : v = (if neg then -1 else 1) * r) : decide (v < 0) = neg ∧ |(v : ℝ)| = r := by
  subst value
  have real : (0 : ℝ) < r := by exact_mod_cast positive
  cases neg
  · simp [positive.le, abs_of_pos real]
  · simp [positive, abs_of_pos real]

/-- A number given by sign, significand and exponent is delivered. -/
theorem fpDeliver_number (sr : Word) (f : FpFmt) (conv neg : Bool) {m : Nat} (e : Int) (nonzero : m ≠ 0)
    {v : ℚ} (value : v = (if neg then -1 else 1) * m * 2 ^ e) :
    FpDelivers (fpDeliver sr f conv ⟨neg, m, e, false⟩) sr f conv (decide (v < 0)) |(v : ℝ)| := by
  have positive : (0 : ℚ) < m * 2 ^ e := by positivity
  obtain ⟨sign, magnitude⟩ := decide_neg_and_abs_of_sign positive (value.trans (mul_assoc ..))
  rw [sign, magnitude]
  exact fpDeliver_delivers sr f conv ⟨nonzero, by simp⟩

theorem FpVal.rat_ne_zero {neg : Bool} {m : Nat} {e : Int} (nonzero : m ≠ 0) :
    (FpVal.num neg m e).rat ≠ 0 := by
  cases neg <;> simp [FpVal.rat, nonzero, zpow_ne_zero]

theorem fpScaled_rat (neg : Bool) (m : Nat) {e q : Int} (below : q ≤ e) :
    (fpScaled neg m e q : ℚ) * 2 ^ q = (if neg then -1 else 1) * m * 2 ^ e := by
  have scale : (2 : ℚ) ^ e = 2 ^ (e - q).toNat * 2 ^ q := by
    rw [← zpow_natCast, ← zpow_add₀ two_ne_zero]
    congr 1
    omega
  unfold fpScaled
  rw [scale]
  cases neg <;> simp [Nat.shiftLeft_eq] <;> ring

/-- A sum as an integer multiple of a power of two below both operands. -/
theorem fpScaled_sum (s t : Bool) (m n : Nat) (e d : Int) :
    ((fpScaled s m e (min e d) + fpScaled t n d (min e d) : ℤ) : ℚ) * 2 ^ min e d =
      (FpVal.num s m e).rat + (FpVal.num t n d).rat := by
  rw [Int.cast_add, add_mul, fpScaled_rat s m (min_le_left e d), fpScaled_rat t n (min_le_right e d)]
  rfl

/-- What `fpSum` answers for two numbers other than zero. -/
theorem fpSum_num (sr : Word) (f : FpFmt) (s t : Bool) (m n : Nat) (e d : Int) :
    let v := (FpVal.num s m e).rat + (FpVal.num t n d).rat
    (v ≠ 0 → FpDelivers (fpSum sr f (.num s m e) (.num t n d)) sr f false (decide (v < 0)) |(v : ℝ)|) ∧
    (v = 0 → fpSum sr f (.num s m e) (.num t n d) = fpExactly (fpZero f (fpRm sr == 3#2))) := by
  dsimp only
  rw [← fpScaled_sum]
  unfold fpSum
  dsimp only
  generalize fpScaled s m e (min e d) + fpScaled t n d (min e d) = w
  have unit : (2 : ℚ) ^ min e d ≠ 0 := by positivity
  constructor
  · intro nonzero
    have some : w ≠ 0 := by rintro rfl; simp at nonzero
    rw [if_neg some]
    refine fpDeliver_number sr f false _ _ (by simpa using some) ?_
    rw [Nat.cast_natAbs]
    obtain below | above := lt_or_gt_of_ne some
    · simp [below, abs_of_neg]
    · simp [above.not_gt, abs_of_pos above]
  · intro zero
    exact if_pos (by simpa [unit] using zero)

/-- The sum of two numbers or zeros (R777, R850). -/
theorem fpSum_finite (sr : Word) (f : FpFmt) {x y : FpVal} (hx : x.sound) (hy : y.sound) (fx : x.finite)
    (fy : y.finite) :
    (x.rat + y.rat ≠ 0 → FpDelivers (fpSum sr f x y) sr f false (decide (x.rat + y.rat < 0))
      |((x.rat + y.rat : ℚ) : ℝ)|) ∧
    (x.rat + y.rat = 0 → fpSum sr f x y =
      fpExactly (fpZero f (if x.sign = y.sign then x.sign else decide (fpRm sr = 3#2)))) := by
  match x, y with
  | .zero s, .zero t =>
    refine ⟨fun nonzero => absurd (add_zero 0) nonzero, fun _ => ?_⟩
    exact congrArg fpExactly (apply_ite (fpZero f) (s = t) s _).symm
  | .zero s, .num t n d =>
    have number : (FpVal.zero s).rat + (FpVal.num t n d).rat = (FpVal.num t n d).rat := zero_add _
    rw [number]
    exact ⟨fun _ => fpDeliver_number sr f false t d hy rfl, fun zero => absurd zero (FpVal.rat_ne_zero hy)⟩
  | .num s m e, .zero t =>
    have number : (FpVal.num s m e).rat + (FpVal.zero t).rat = (FpVal.num s m e).rat := add_zero _
    rw [number]
    exact ⟨fun _ => fpDeliver_number sr f false s e hx rfl, fun zero => absurd zero (FpVal.rat_ne_zero hx)⟩
  | .num s m e, .num t n d =>
    obtain ⟨delivers, cancels⟩ := fpSum_num sr f s t m n e d
    refine ⟨delivers, fun zero => (cancels zero).trans ?_⟩
    have opposite : s ≠ t := by
      rintro rfl
      have positive : (0 : ℚ) < m * 2 ^ e + n * 2 ^ d := by
        have := Nat.pos_of_ne_zero hx
        positivity
      cases s <;> simp [FpVal.rat] at zero <;> linarith
    exact congrArg (fun sign => fpExactly (fpZero f sign)) (if_neg opposite).symm

/-- The sum where an operand is an infinity (R779, R850). -/
theorem fpSum_infinite (sr : Word) (f : FpFmt) (x y : FpVal) :
    (¬ x.finite → y.finite ∨ x.sign = y.sign → fpSum sr f x y = fpExactly (fpInf f x.sign)) ∧
    (x.finite → ¬ y.finite → fpSum sr f x y = fpExactly (fpInf f y.sign)) ∧
    (¬ x.finite → ¬ y.finite → x.sign ≠ y.sign → fpSum sr f x y = fpInvalidNoNan sr f) := by
  cases x with
  | inf s => cases y <;> simp +contextual [fpSum]
  | _ => cases y <;> simp [fpSum]

theorem fpAdd_eq (sr : Word) {f : FpFmt} {a b : Nat} (ha : fpIsNan f a = false) (hb : fpIsNan f b = false) :
    fpAdd sr f a b = fpSum sr f (fpValue f a) (fpValue f b) := if_neg (by simp [ha, hb])

theorem fpSub_eq (sr : Word) {f : FpFmt} {a b : Nat} (ha : fpIsNan f a = false) (hb : fpIsNan f b = false) :
    fpSub sr f a b = fpSum sr f (fpValue f a) (fpValue f b).negate := if_neg (by simp [ha, hb])

/-- The sign of a product of two numbers. -/
theorem ite_bne_eq_mul (s t : Bool) :
    (if s != t then -1 else 1 : ℚ) = (if s then -1 else 1) * (if t then -1 else 1) := by
  cases s <;> cases t <;> norm_num

/-- The sign of a quotient of two numbers. -/
theorem ite_bne_eq_div (s t : Bool) :
    (if s != t then -1 else 1 : ℚ) = (if s then -1 else 1) / (if t then -1 else 1) := by
  cases s <;> cases t <;> norm_num

/-- What FMPY answers for operands that are no NaNs (R777, R779, R852). -/
theorem fpMul_outcomes (sr : Word) {f : FpFmt} {a b : Nat} (ha : fpIsNan f a = false)
    (hb : fpIsNan f b = false) :
    (fpFinite f a → fpFinite f b →
      (fpRat f a * fpRat f b ≠ 0 → FpDelivers (fpMul sr f a b) sr f false (decide (fpRat f a * fpRat f b < 0))
        |((fpRat f a * fpRat f b : ℚ) : ℝ)|) ∧
      (fpRat f a * fpRat f b = 0 → fpMul sr f a b = fpExactly (fpZero f (fpSign f a != fpSign f b)))) ∧
    (¬ fpFinite f a → (fpFinite f b → fpRat f b = 0 → fpMul sr f a b = fpInvalidNoNan sr f) ∧
      (¬ fpFinite f b ∨ fpRat f b ≠ 0 → fpMul sr f a b = fpExactly (fpInf f (fpSign f a != fpSign f b)))) ∧
    (fpFinite f a → ¬ fpFinite f b → (fpRat f a = 0 → fpMul sr f a b = fpInvalidNoNan sr f) ∧
      (fpRat f a ≠ 0 → fpMul sr f a b = fpExactly (fpInf f (fpSign f a != fpSign f b)))) := by
  have hx := fpValue_sound f a
  have hy := fpValue_sound f b
  simp only [fpRat_eq, fpSign_eq, fpFinite_iff]
  unfold fpMul
  rw [if_neg (by simp [ha, hb])]
  generalize fpValue f a = x at *
  generalize fpValue f b = y at *
  cases x with
  | num s m e =>
    cases y with
    | num t n d =>
      have product : (FpVal.num s m e).rat * (FpVal.num t n d).rat =
          (if s != t then -1 else 1) * (m * n : Nat) * 2 ^ (e + d) := by
        unfold FpVal.rat
        rw [ite_bne_eq_mul, zpow_add₀ two_ne_zero]
        push_cast
        ring
      refine ⟨fun _ _ => ⟨fun _ => ?_, fun zero => ?_⟩, fun inf => absurd trivial inf,
        fun _ inf => absurd trivial inf⟩
      · exact fpDeliver_number sr f false _ _ (mul_ne_zero hx hy) product
      · exact absurd zero (mul_ne_zero (FpVal.rat_ne_zero hx) (FpVal.rat_ne_zero hy))
    | _ => simp [FpVal.rat_ne_zero hx]
  | _ =>
    cases y with
    | num t n d => simp [FpVal.rat_ne_zero hy]
    | _ => simp

/-- A quotient to more bits than the format keeps, and whether a remainder is left. -/
theorem quotient_spans (f : FpFmt) (neg : Bool) {m n : Nat} (hm : m ≠ 0) (hn : n ≠ 0) (e : Int) :
    let k := f.fbits + 4 + n.log2
    FpExact.Spans ⟨neg, m <<< k / n, e - k, m <<< k % n != 0⟩ f (m / n * (2 : ℝ) ^ e) := by
  intro k
  have divisor : (0 : ℝ) < n := by exact_mod_cast Nat.pos_of_ne_zero hn
  have unit : (0 : ℝ) < (2 : ℝ) ^ (e - k) := by positivity
  have wide : 2 ^ (f.fbits + 2) ≤ m <<< k / n := by
    rw [Nat.le_div_iff_mul_le (Nat.pos_of_ne_zero hn), Nat.shiftLeft_eq]
    calc 2 ^ (f.fbits + 2) * n ≤ 2 ^ (f.fbits + 2) * 2 ^ (n.log2 + 1) :=
          Nat.mul_le_mul_left _ Nat.lt_log2_self.le
      _ = 2 ^ (f.fbits + 2 + (n.log2 + 1)) := (pow_add ..).symm
      _ ≤ 2 ^ k := Nat.pow_le_pow_right two_pos (by omega)
      _ ≤ m * 2 ^ k := Nat.le_mul_of_pos_left _ (Nat.pos_of_ne_zero hm)
  have value : (m / n : ℝ) * (2 : ℝ) ^ e = (m <<< k : Nat) / n * (2 : ℝ) ^ (e - k) := by
    rw [Nat.shiftLeft_eq, zpow_sub₀ two_ne_zero, zpow_natCast]
    push_cast
    field_simp
  have parts : ((m <<< k : Nat) : ℝ) = (m <<< k / n : Nat) * n + (m <<< k % n : Nat) := by
    exact_mod_cast (Nat.div_add_mod' (m <<< k) n).symm
  have rest : ((m <<< k % n : Nat) : ℝ) < n := by exact_mod_cast Nat.mod_lt _ (Nat.pos_of_ne_zero hn)
  refine ⟨ne_zero_of_two_pow_le wide, ?_⟩
  rw [value]
  dsimp only
  split_ifs with sticky
  · have some : (0 : ℝ) < (m <<< k % n : Nat) := by
      exact_mod_cast Nat.pos_of_ne_zero (by simpa using sticky)
    refine ⟨mul_lt_mul_of_pos_right ?_ unit, mul_lt_mul_of_pos_right ?_ unit, wide⟩
    · rw [lt_div_iff₀ divisor]; linarith
    · rw [div_lt_iff₀ divisor]; linarith
  · have none : m <<< k % n = 0 := by simpa using sticky
    rw [parts, none, Nat.cast_zero, add_zero, mul_div_cancel_right₀ _ divisor.ne']

/-- What FDIV answers for operands that are no NaNs (R777, R779, R799, R853). -/
theorem fpDiv_outcomes (sr : Word) {f : FpFmt} {a b : Nat} (ha : fpIsNan f a = false)
    (hb : fpIsNan f b = false) :
    (fpFinite f a → fpFinite f b →
      (fpRat f b ≠ 0 →
        (fpRat f a ≠ 0 → FpDelivers (fpDiv sr f a b) sr f false (decide (fpRat f a / fpRat f b < 0))
          |((fpRat f a / fpRat f b : ℚ) : ℝ)|) ∧
        (fpRat f a = 0 → fpDiv sr f a b = fpExactly (fpZero f (fpSign f a != fpSign f b)))) ∧
      (fpRat f b = 0 →
        (fpRat f a ≠ 0 → fpDiv sr f a b = if fpEnabled sr 1 then .preserved 0b010000#6
          else .result (fpInf f (fpSign f a != fpSign f b)) (fpFlag 1) 0#6) ∧
        (fpRat f a = 0 → fpDiv sr f a b = fpInvalidNoNan sr f))) ∧
    (¬ fpFinite f a →
      (fpFinite f b → fpDiv sr f a b = fpExactly (fpInf f (fpSign f a != fpSign f b))) ∧
      (¬ fpFinite f b → fpDiv sr f a b = fpInvalidNoNan sr f)) ∧
    (fpFinite f a → ¬ fpFinite f b → fpDiv sr f a b = fpExactly (fpZero f (fpSign f a != fpSign f b))) := by
  have hx := fpValue_sound f a
  have hy := fpValue_sound f b
  simp only [fpRat_eq, fpSign_eq, fpFinite_iff]
  unfold fpDiv
  rw [if_neg (by simp [ha, hb])]
  generalize fpValue f a = x at *
  generalize fpValue f b = y at *
  cases x with
  | num s m e =>
    cases y with
    | num t n d =>
      have positive : (0 : ℚ) < m / n * 2 ^ (e - d) := by
        have := Nat.pos_of_ne_zero hx
        have := Nat.pos_of_ne_zero hy
        positivity
      have quotient : (FpVal.num s m e).rat / (FpVal.num t n d).rat =
          (if s != t then -1 else 1) * (m / n * 2 ^ (e - d)) := by
        unfold FpVal.rat
        rw [ite_bne_eq_div, zpow_sub₀ two_ne_zero, mul_div_mul_comm, mul_div_mul_comm, mul_assoc]
      obtain ⟨sign, magnitude⟩ := decide_neg_and_abs_of_sign positive quotient
      refine ⟨fun _ _ => ⟨fun _ => ⟨fun _ => ?_, fun zero => ?_⟩, fun zero => ?_⟩,
        fun inf => absurd trivial inf, fun _ inf => absurd trivial inf⟩
      · rw [sign, magnitude]
        push_cast
        exact fpDeliver_delivers sr f false (quotient_spans f (s != t) hx hy (e - d))
      · exact absurd zero (FpVal.rat_ne_zero hx)
      · exact absurd zero (FpVal.rat_ne_zero hy)
    | _ => simp [FpVal.rat_ne_zero hx]
  | _ =>
    cases y with
    | num t n d => simp [FpVal.rat_ne_zero hy]
    | _ => simp

end Sys2Proof.Machine
end

/-! ### The operations of one operand on numbers -/

section
namespace Sys2Proof.Machine

/-- `sqrtBits` finds the square root, its lower bits one by one from the left. -/
theorem sqrtBits_eq {n : Nat} (bits root : Nat) (low : root * root ≤ n)
    (high : n < (root + 2 ^ bits) * (root + 2 ^ bits)) : sqrtBits n bits root = n.sqrt := by
  induction bits generalizing root with
  | zero => exact Nat.eq_sqrt.2 ⟨low, high⟩
  | succ k ih =>
    unfold sqrtBits
    dsimp only
    split_ifs with fits
    · exact ih _ fits (by rwa [Nat.add_assoc, ← two_mul, ← pow_succ'])
    · exact ih _ low (by omega)

theorem sqrtBits_log2 (n : Nat) : sqrtBits n (n.log2 / 2 + 1) 0 = n.sqrt := by
  refine sqrtBits_eq _ 0 (Nat.zero_le n) ?_
  rw [Nat.zero_add, ← pow_add]
  exact lt_of_lt_of_le Nat.lt_log2_self (Nat.pow_le_pow_right two_pos (by omega))

/-- The square root to more bits than the format keeps, and whether it is not exact (R838). -/
theorem sqrtExact_spans (f : FpFmt) {m : Nat} (nonzero : m ≠ 0) (e : Int) :
    (sqrtExact f m e).Spans f (Real.sqrt (m * (2 : ℝ) ^ e)) := by
  generalize hshift : 2 * (f.fbits + 3) + (if e % 2 = 0 then 0 else 1) = shift
  generalize hn : m <<< shift = n
  obtain ⟨half, even⟩ : ∃ half : Int, e - shift = 2 * half :=
    ⟨(e - shift) / 2, by split_ifs at hshift <;> omega⟩
  have exact : sqrtExact f m e = ⟨false, n.sqrt, half, n.sqrt * n.sqrt != n⟩ := by
    unfold sqrtExact
    simp only [hshift, hn, sqrtBits_log2, even]
    rw [Int.mul_ediv_cancel_left _ two_ne_zero]
  have wide : 2 ^ (f.fbits + 2) ≤ n.sqrt := by
    rw [Nat.le_sqrt', ← hn, Nat.shiftLeft_eq, ← pow_mul]
    calc 2 ^ ((f.fbits + 2) * 2) ≤ 2 ^ shift := Nat.pow_le_pow_right two_pos (by omega)
      _ ≤ m * 2 ^ shift := Nat.le_mul_of_pos_left _ (Nat.pos_of_ne_zero nonzero)
  have unit : (0 : ℝ) < (2 : ℝ) ^ half := by positivity
  have root : Real.sqrt (m * (2 : ℝ) ^ e) = Real.sqrt n * (2 : ℝ) ^ half := by
    have square : (m : ℝ) * (2 : ℝ) ^ e = n * ((2 : ℝ) ^ half) ^ 2 := by
      rw [← hn, Nat.shiftLeft_eq, show e = shift + half * 2 by omega, zpow_add₀ two_ne_zero, zpow_mul,
        zpow_natCast, zpow_ofNat]
      push_cast
      ring
    rw [square, Real.sqrt_mul (Nat.cast_nonneg n), Real.sqrt_sq unit.le]
  rw [exact, root]
  refine ⟨ne_zero_of_two_pow_le wide, ?_⟩
  dsimp only
  split_ifs with sticky
  · refine ⟨mul_lt_mul_of_pos_right ?_ unit,
      mul_lt_mul_of_pos_right Real.real_sqrt_lt_nat_sqrt_succ unit, wide⟩
    refine lt_of_le_of_ne Real.nat_sqrt_le_real_sqrt fun same => ?_
    have square := Real.mul_self_sqrt (Nat.cast_nonneg (α := ℝ) n)
    rw [← same] at square
    simp only [bne_iff_ne] at sticky
    exact sticky (by exact_mod_cast square)
  · have square : n.sqrt * n.sqrt = n := by simpa using sticky
    congr 1
    rw [Real.sqrt_eq_iff_mul_self_eq (Nat.cast_nonneg _) (Nat.cast_nonneg _)]
    exact_mod_cast square.symm

/-- A number given by sign, significand and exponent, rounded to an integer. -/
theorem roundAt_integer (rm : BitVec 2) (neg : Bool) {m : Nat} (e : Int) (nonzero : m ≠ 0) :
    let r := roundAt rm ⟨neg, m, e, false⟩ 0
    RoundsTo rm neg (m * (2 : ℝ) ^ e) r.1 ∧ (r.2 = false ↔ (r.1 : ℝ) = m * (2 : ℝ) ^ e) := by
  have rounds := roundAt_rounds rm ⟨neg, m, e, false⟩ .sgl _ 0 ⟨nonzero, rfl⟩ (by simp)
  simpa using rounds

/-- A number of the format rounded to an integer is one of the format (R839). -/
theorem fpPack_integer (f : FpFmt) (rm : BitVec 2) (neg : Bool) {m : Nat} {e : Int} (nonzero : m ≠ 0)
    (bits : m.log2 ≤ f.fbits) (top : e + m.log2 ≤ f.bias) :
    let n := (roundAt rm ⟨neg, m, e, false⟩ 0).1
    FpHas f (if n = 0 then fpZero f neg else fpPack f neg n 0) neg n := by
  intro n
  have emin : f.emin ≤ 0 := by cases f <;> decide
  have bias : (f.fbits : Int) ≤ f.bias := by cases f <;> decide
  split_ifs with zero
  · simpa [zero] using fpPack_denormal f neg (Nat.zero_le _)
  · have packable : (n.log2 : Int) ≤ f.bias ∧ (n.log2 ≤ f.fbits ∨ 2 ^ (n.log2 - f.fbits) ∣ n) := by
      obtain whole | fraction := le_or_gt 0 e
      · have exact : n = m <<< (e - 0).toNat := congrArg Prod.fst (roundAt_exact rm neg m whole)
        rw [exact, log2_shiftLeft nonzero, Nat.shiftLeft_eq]
        exact ⟨by omega, .inr (Dvd.dvd.mul_left (Nat.pow_dvd_pow 2 (by omega)) m)⟩
      · have below : (m : ℝ) * (2 : ℝ) ^ e < (2 : ℝ) ^ (f.fbits : Int) :=
          (log2_lt_iff_zpow m nonzero e _).1 (by omega)
        have small : n ≤ 2 ^ f.fbits := (roundAt_integer rm neg e nonzero).1.le _ (by exact_mod_cast below)
        have log : n.log2 ≤ f.fbits :=
          Nat.lt_succ_iff.1 ((Nat.log2_lt zero).2 (lt_of_le_of_lt small (Nat.pow_lt_pow_succ one_lt_two)))
        exact ⟨by omega, .inl log⟩
    have has := fpPack_has f neg n 0 zero (by omega) (by rw [if_neg (by omega)]; exact packable.2)
    simpa using has

/-- The magnitude of a number. -/
theorem FpVal.abs_rat (neg : Bool) {m : Nat} (e : Int) :
    |((FpVal.num neg m e).rat : ℝ)| = m * (2 : ℝ) ^ e := by
  have positive : (0 : ℝ) ≤ m * (2 : ℝ) ^ e := by positivity
  cases neg <;> simp [FpVal.rat, abs_mul]

/-- FRND of a number (R839). -/
theorem fpRound_num (sr : Word) {f : FpFmt} {a m : Nat} {neg : Bool} {e : Int} (number : fpIsNan f a = false)
    (value : fpValue f a = .num neg m e) :
    ∃ n bits, RoundsTo (fpRm sr) neg (m * (2 : ℝ) ^ e) n ∧ FpHas f bits neg n ∧
      FpGives (fpRound sr f a) sr bits ((n : ℝ) = m * (2 : ℝ) ^ e) 0#32 0#6 0b000010#6 := by
  obtain ⟨-, nonzero, parts⟩ := fpValue_num value
  have range : f.emin ≤ f.bias := by cases f <;> decide
  obtain ⟨rounds, exact⟩ := roundAt_integer (fpRm sr) neg e nonzero
  refine ⟨_, _, rounds, fpPack_integer f (fpRm sr) neg nonzero (by omega) (by omega), ?_⟩
  have gives := fpInexact_gives sr
    (if (roundAt (fpRm sr) ⟨neg, m, e, false⟩ 0).1 = 0 then fpZero f neg
      else fpPack f neg (roundAt (fpRm sr) ⟨neg, m, e, false⟩ 0).1 0) 0#32 _ _ exact
  rw [ite_self] at gives
  unfold fpRound
  rw [if_neg (by simp [number]), value]
  exact gives

/-- FCNVFX of a number: what fits is given in two's complement (R842, R843). -/
theorem fpToFixed_num (sr : Word) (rm : BitVec 2) {f : FpFmt} (g : FpFmt) {a m : Nat} {neg : Bool} {e : Int}
    (number : fpIsNan f a = false) (value : fpValue f a = .num neg m e) :
    ∃ n : Nat, RoundsTo rm neg (m * (2 : ℝ) ^ e) n ∧
      (n < 2 ^ (g.width - 1) ∨ n = 2 ^ (g.width - 1) ∧ neg = true →
        FpGives (fpToFixed sr rm f g a) sr (if neg ∧ n ≠ 0 then 2 ^ g.width - n else n)
          ((n : ℝ) = m * (2 : ℝ) ^ e) 0#32 0#6 0b000010#6) ∧
      (¬ (n < 2 ^ (g.width - 1) ∨ n = 2 ^ (g.width - 1) ∧ neg = true) →
        fpToFixed sr rm f g a = .unimplemented) := by
  obtain ⟨-, nonzero, -⟩ := fpValue_num value
  obtain ⟨rounds, exact⟩ := roundAt_integer rm neg e nonzero
  unfold fpToFixed
  rw [if_neg (by simp [number]), value]
  dsimp only
  generalize roundAt rm ⟨neg, m, e, false⟩ 0 = r at *
  obtain ⟨n, inexact⟩ := r
  dsimp only at *
  have limit : 0 < 2 ^ (g.width - 1) := by positivity
  have fits : (if neg then 2 ^ (g.width - 1) else 2 ^ (g.width - 1) - 1) < n ↔
      ¬ (n < 2 ^ (g.width - 1) ∨ n = 2 ^ (g.width - 1) ∧ neg = true) := by
    cases neg <;> simp <;> omega
  refine ⟨n, rounds, fun inside => ?_, fun outside => if_pos (fits.2 outside)⟩
  have complement : (if neg then (2 ^ g.width - n) % 2 ^ g.width else n) =
      if neg ∧ n ≠ 0 then 2 ^ g.width - n else n := by
    have whole : 0 < 2 ^ g.width := by positivity
    by_cases zero : n = 0
    · simp [zero]
    · rw [Nat.mod_eq_of_lt (by omega)]
      simp [zero]
  have gives := fpInexact_gives sr (if neg ∧ n ≠ 0 then 2 ^ g.width - n else n) 0#32 inexact _ exact
  rw [ite_self] at gives
  rw [if_neg (mt fits.1 (not_not.2 inside)), complement]
  exact gives

/-- The top bit of a number below a power of two. -/
theorem testBit_top {x k : Nat} (small : x < 2 ^ (k + 1)) : x.testBit k = decide (2 ^ k ≤ x) := by
  by_cases high : 2 ^ k ≤ x
  · simp [high, Nat.testBit_of_two_pow_le_and_two_pow_add_one_gt high small]
  · simp [high, Nat.testBit_lt_two_pow (not_le.1 high)]

/-- FCNVXF of a two's complement number (R841). -/
theorem fpFromFixed_outcomes (sr : Word) {f : FpFmt} (g : FpFmt) {a : Nat} (small : a < 2 ^ f.width) :
    let n : Int := if a < 2 ^ (f.width - 1) then a else a - 2 ^ f.width
    (n = 0 → fpFromFixed sr f g a = fpExactly (fpZero g false)) ∧
    (n ≠ 0 → FpDelivers (fpFromFixed sr f g a) sr g true (decide (n < 0)) |(n : ℝ)|) := by
  have top : f.width - 1 + 1 = f.width := by unfold FpFmt.width; omega
  have sign := testBit_top (x := a) (k := f.width - 1) (by rwa [top])
  have deliver (nonzero : a ≠ 0) : fpFromFixed sr f g a = fpDeliver sr g true
      ⟨a.testBit (f.width - 1), if a.testBit (f.width - 1) then 2 ^ f.width - a else a, 0, false⟩ :=
    if_neg nonzero
  by_cases positive : a < 2 ^ (f.width - 1)
  · simp only [if_pos positive, ne_eq, Int.natCast_eq_zero, Int.cast_natCast, Nat.abs_cast]
    refine ⟨fun zero => if_pos zero, fun nonzero => ?_⟩
    rw [deliver nonzero, sign, decide_eq_false (not_le.2 positive),
      decide_eq_false (not_lt.2 (Int.natCast_nonneg a))]
    exact fpDeliver_delivers sr g true ⟨nonzero, by simp⟩
  · have negative : (a : Int) - 2 ^ f.width < 0 := sub_neg.2 (by exact_mod_cast small)
    simp only [if_neg positive]
    refine ⟨fun zero => absurd zero negative.ne, fun _ => ?_⟩
    have magnitude : |(((a : Int) - 2 ^ f.width : Int) : ℝ)| = (2 ^ f.width - a : Nat) := by
      rw [abs_of_neg (by exact_mod_cast negative), Nat.cast_sub small.le]
      push_cast
      ring
    rw [deliver (ne_zero_of_two_pow_le (not_lt.1 positive)), sign, decide_eq_true (not_lt.1 positive),
      decide_eq_true negative, magnitude]
    exact fpDeliver_delivers sr g true ⟨Nat.sub_ne_zero_of_lt small, by simp⟩

/-! ### What the statement says of each operation -/

theorem fpAddSub_outcomes (sr : Word) (f : FpFmt) {a b : Nat} (ha : fpIsNan f a = false)
    (hb : fpIsNan f b = false) :
    ∀ p ∈ [(fpAdd, fpSign f b, fpRat f a + fpRat f b), (fpSub, !fpSign f b, fpRat f a - fpRat f b)],
      (fpFinite f a → fpFinite f b →
        (p.2.2 ≠ 0 → FpDelivers (p.1 sr f a b) sr f false (decide (p.2.2 < 0)) |(p.2.2 : ℝ)|) ∧
        (p.2.2 = 0 → p.1 sr f a b =
          fpExactly (fpZero f (if fpSign f a = p.2.1 then fpSign f a else decide (fpRm sr = 3#2))))) ∧
      (¬ fpFinite f a → fpFinite f b ∨ fpSign f a = p.2.1 → p.1 sr f a b = fpExactly (fpInf f (fpSign f a))) ∧
      (fpFinite f a → ¬ fpFinite f b → p.1 sr f a b = fpExactly (fpInf f p.2.1)) ∧
      (¬ fpFinite f a → ¬ fpFinite f b → fpSign f a ≠ p.2.1 → p.1 sr f a b = fpInvalidNoNan sr f) := by
  have hx := fpValue_sound f a
  have hy := fpValue_sound f b
  simp only [List.forall_mem_cons, fpAdd_eq sr ha hb, fpSub_eq sr ha hb, fpRat_eq, fpSign_eq, fpFinite_iff]
  refine ⟨⟨fpSum_finite sr f hx hy, fpSum_infinite sr f _ _⟩, ⟨?_, ?_⟩, List.forall_mem_nil _⟩
  · have difference := fpSum_finite sr f (x := fpValue f a) (y := (fpValue f b).negate) hx (by simpa using hy)
    simpa [sub_eq_add_neg] using difference
  · simpa using fpSum_infinite sr f (fpValue f a) (fpValue f b).negate

/-- FSQRT, FRND, FCNVFF and FCNVFX of a zero (R777). -/
theorem unary_zero (sr : Word) {f : FpFmt} (g : FpFmt) {a : Nat} {neg : Bool} (ha : fpIsNan f a = false)
    (value : fpValue f a = .zero neg) :
    fpSqrt sr f a = fpExactly a ∧ fpRound sr f a = fpExactly a ∧
    fpConvert sr f g a = fpExactly (fpZero g neg) ∧ ∀ rm, fpToFixed sr rm f g a = fpExactly 0 := by
  simp [fpSqrt, fpRound, fpConvert, fpToFixed, fpIsSnan, ha, value]

/-- FSQRT, FRND, FCNVFF and FCNVFX of an infinity (R779). -/
theorem unary_inf (sr : Word) {f : FpFmt} (g : FpFmt) {a : Nat} {neg : Bool} (ha : fpIsNan f a = false)
    (value : fpValue f a = .inf neg) :
    fpSqrt sr f a = (if neg then fpInvalidNoNan sr f else fpExactly a) ∧ fpRound sr f a = fpExactly a ∧
    fpConvert sr f g a = fpExactly (fpInf g neg) ∧ ∀ rm, fpToFixed sr rm f g a = .unimplemented := by
  simp [fpSqrt, fpRound, fpConvert, fpToFixed, fpIsSnan, ha, value]

/-- FSQRT of a number (R838). -/
theorem fpSqrt_num (sr : Word) {f : FpFmt} {a m : Nat} {neg : Bool} {e : Int} (ha : fpIsNan f a = false)
    (value : fpValue f a = .num neg m e) :
    (neg = true → fpSqrt sr f a = fpInvalidNoNan sr f) ∧
    (neg = false → FpDelivers (fpSqrt sr f a) sr f false false (Real.sqrt (m * (2 : ℝ) ^ e))) := by
  unfold fpSqrt
  rw [if_neg (by simp [ha]), value]
  refine ⟨fun negative => if_pos negative, fun positive => ?_⟩
  subst positive
  exact fpDeliver_delivers sr f false (sqrtExact_spans f (fpValue_num value).2.1 e)

/-- FCNVFF of a number (R840). -/
theorem fpConvert_num (sr : Word) {f : FpFmt} (g : FpFmt) {a m : Nat} {neg : Bool} {e : Int}
    (ha : fpIsNan f a = false) (value : fpValue f a = .num neg m e) :
    FpDelivers (fpConvert sr f g a) sr g true neg (m * (2 : ℝ) ^ e) := by
  unfold fpConvert
  rw [if_neg (by simp [fpIsSnan, ha]), if_neg (by simp [ha]), value]
  exact fpDeliver_delivers sr g true ⟨(fpValue_num value).2.1, rfl⟩

/-- Settles O48, operation by operation. -/
theorem exactResultsAreDelivered : Obligations.ExactResultsAreDelivered := by
  refine ⟨?_, ?_, ?_, ?_⟩
  · intro sr f conv x neg m e small _ value off
    exact fpDeliver_fpValue sr conv small value off
  · intro sr f a b ha hb
    obtain ⟨mulFinite, mulInf, mulByInf⟩ := fpMul_outcomes sr ha hb
    obtain ⟨divFinite, divInf, divByInf⟩ := fpDiv_outcomes sr ha hb
    refine ⟨fpAddSub_outcomes sr f ha hb, fun fa fb => ?_, fun ia => ?_, fun fa ib => ?_⟩
    · exact ⟨(mulFinite fa fb).1, (mulFinite fa fb).2, divFinite fa fb⟩
    · exact ⟨(mulInf ia).1, (mulInf ia).2, divInf ia⟩
    · exact ⟨(mulByInf fa ib).1, (mulByInf fa ib).2, divByInf fa ib⟩
  · intro sr f g a ha
    rw [fpRat_eq, fpFinite_iff, fpSign_eq]
    cases value : fpValue f a with
    | zero neg =>
      exact ⟨fun _ _ => unary_zero sr g ha value, fun _ nonzero => absurd rfl nonzero,
        fun inf => absurd trivial inf⟩
    | inf neg =>
      exact ⟨False.elim, False.elim, fun _ => unary_inf sr g ha value⟩
    | num neg m e =>
      have nonzero : (FpVal.num neg m e).rat ≠ 0 := FpVal.rat_ne_zero (fpValue_num value).2.1
      obtain ⟨invalid, root⟩ := fpSqrt_num sr ha value
      refine ⟨fun _ zero => absurd zero nonzero, fun _ _ => ?_, fun inf => absurd trivial inf⟩
      rw [FpVal.abs_rat]
      refine ⟨invalid, fun positive => ?_, fpConvert_num sr g ha value, fpRound_num sr ha value,
        fun rm => fpToFixed_num sr rm g ha value⟩
      have magnitude : ((FpVal.num neg m e).rat : ℝ) = m * (2 : ℝ) ^ e := by
        rw [show neg = false from positive]
        simp [FpVal.rat]
      rw [magnitude]
      exact root positive
  · intro sr f g a small
    exact fpFromFixed_outcomes sr g small

end Sys2Proof.Machine
end

/-! ### The completion of a floating-point operation -/

section
namespace Sys2Proof.Machine

/-- Floating-point registers and free values are not read by the completion of an instruction. -/
theorem KeepsCommon.fprs {s u v : State} (keeps : KeepsCommon s u)
    (frame : v = { u with fprs := v.fprs, draws := v.draws }) : KeepsCommon s v := by
  rw [frame]
  exact ⟨keeps.grs, keeps.psw, keeps.iaoqBack, keeps.iasqBack⟩

theorem endIdentify_keeps (s : State) : KeepsCommon s s.endIdentify := by
  rw [endIdentify_frame]
  exact ⟨rfl, rfl, rfl, rfl⟩

@[simp] theorem endIdentify_cfg (s : State) : s.endIdentify.cfg = s.cfg := by rw [endIdentify_frame]

@[simp] theorem endIdentify_iword (s : State) : s.endIdentify.iword = s.iword := by rw [endIdentify_frame]

theorem fpRecord_frame (s : State) (code : BitVec 6) :
    s.fpRecord code = { s with fprs := (s.fpRecord code).fprs } := rfl

/-- What an operation leaves is in the floating-point registers (R792, R793). -/
theorem fpFinish_frame (s : State) (unimp : BitVec 6) (src : List (Reg × Bool)) (t : FpReg) (f : FpFmt)
    (o : FpOutcome) :
    s.fpFinish unimp src t f o = { s with
      fprs := (s.fpFinish unimp src t f o).fprs, draws := (s.fpFinish unimp src t f o).draws } := by
  have lost (code : BitVec 6) : (s.fpLose src (fpWords t f)).fpRecord code = { s with
      fprs := ((s.fpLose src (fpWords t f)).fpRecord code).fprs
      draws := ((s.fpLose src (fpWords t f)).fpRecord code).draws } := by
    rw [fpRecord_frame, fpLose_frame]
  cases o with
  | result bits flags code =>
    rw [fpFinish_result, fpPut_frame]
    split <;> rfl
  | preserved code => exact lost code
  | unimplemented => exact lost unimp

/-- An operation that completes with the state it leaves. -/
theorem KeepsCommon.fpRuns {s u : State} (keeps : KeepsCommon s u) : FpRuns (done s u) s u :=
  keeps.completes_base false

/-- With the coprocessor ready an instruction that is no load or store acts (R770, R784, R823). -/
theorem FpReady.start {s : State} (ready : FpReady s) (act : Out) : fpStart s act = act := by
  obtain ⟨on0, on1, clear, empty⟩ := ready
  simp [fpStart, fpEnable, on0, on1, clear, empty]

theorem FpReady.operation {s : State} (ready : FpReady s) (act : State → Out) :
    fpOperation s act = act s.endIdentify := ready.start _

theorem fpMissing_iff (s : State) (op : FpOp) (f : FpFmt) :
    s.fpMissing op f = true ↔ (op, f) ∈ s.cfg.fpUnimplemented := List.contains_iff_mem

/-! ### One-operand instructions -/

/-- A one-operand operation of formats and registers that it may name (R821). -/
theorem fpUnary_runs {s : State} (ready : FpReady s) (op : FpOp) (unimp : BitVec 6) {r t : FpReg}
    {sf df : FpFmt} (compute : Word → FpFmt → FpFmt → Nat → FpOutcome) {sf' df' : Option FpFmt}
    (source : sf' = some sf) (dest : df' = some df) (sourceOk : fpSourceOk r sf = true)
    (destOk : fpDestOk t df = true) :
    FpRuns (fpUnary s op unimp sf' df' r t compute) s
      (s.endIdentify.fpFinish unimp (fpWords r sf) t df
        (if (op, sf) ∈ s.cfg.fpUnimplemented ∨ (op, df) ∈ s.cfg.fpUnimplemented then .unimplemented
        else compute s.endIdentify.fpsr sf df (s.endIdentify.fpRead r sf))) := by
  subst source dest
  rw [fpUnary, ready.operation]
  simp only [sourceOk, destOk, Bool.and_self, if_true, Bool.or_eq_true, fpMissing_iff, endIdentify_cfg]
  exact ((endIdentify_keeps s).fprs (fpFinish_frame _ _ _ _ _ _)).fpRuns

/-- A word written with what it holds. -/
theorem State.setFpHalf_self (s : State) (n : Reg) (h : Bool) : s.setFpHalf n h (s.fpHalf n h) = s := by
  have whole : s.setFpr n (s.fpHalf n false ++ s.fpHalf n true) = s := by
    rw [State.setFpr, ← readReg_fprs, writeReg, readReg, Vector.set_getElem_self]
  cases h <;> exact whole

/-- The identify format ends as COPR,0,0 found it between two doubleword stores of register 0 (R835). -/
theorem endIdentify_bracketed {s : State}
    (bracketed : s.fpIdentifyValid = false ∨ s.fpBracketed = true ∧ s.fpZeroStored = true) :
    s.endIdentify = { s with fpIdentifyValid := false, fpZeroStored := false } := by
  refine if_neg ?_
  rcases bracketed with invalid | ⟨began, stored⟩ <;> simp [*]

/-- The end of the identify format writes the Status Register, and keeps T (U27). -/
theorem endIdentify_status (s : State) :
    ∃ sr, s.endIdentify = { s.setFpsr sr with
        fpIdentifyValid := false, fpZeroStored := false, draws := s.endIdentify.draws } ∧
      mbit sr 25 = mbit s.fpsr 25 := by
  unfold State.endIdentify
  split
  · refine ⟨setMbit s.drawWord.1 fpTBit s.fpT, rfl, ?_⟩
    rw [mbit_setMbit _ _ _ _ (by decide) (by decide)]
    rfl
  · refine ⟨s.fpsr, ?_, rfl⟩
    rw [State.setFpsr, State.fpsr, State.setFpHalf_self]

/-- FABS clears the sign (R837). -/
theorem fpAbsolute_clears_sign (sr : Word) (f : FpFmt) {a : Nat} (small : a < 2 ^ f.width) :
    ∃ b, fpAbsolute sr f f a = .result b 0#32 0#6 ∧ b < 2 ^ f.width ∧
      ∀ i, b.testBit i = (a.testBit i && decide (i ≠ f.width - 1)) := by
  refine ⟨a % 2 ^ (f.width - 1), rfl, lt_of_le_of_lt (Nat.mod_le _ _) small, fun i => ?_⟩
  rw [Nat.testBit_mod_two_pow]
  by_cases inside : i < f.width
  · have below : i < f.width - 1 ↔ i ≠ f.width - 1 := by omega
    simp [below, Bool.and_comm]
  · simp [testBit_eq_false small (Nat.le_of_not_lt inside)]

/-- Settles O53: every operation is the one of `fpUnary_runs`. -/
theorem fpUnaryInstructions : Obligations.FpUnaryInstructions := by
  intro s r t x y rh th sf df ready
  refine ⟨?_, endIdentify_bracketed, endIdentify_status s,
    fun sr f a small => ⟨rfl, fpAbsolute_clears_sign sr f small⟩, ?_⟩
  · have runs : exec .copr00 s = _ := ready.start _
    rw [runs]
    exact KeepsCommon.fpRuns ⟨rfl, rfl, rfl, rfl⟩
  · intro sqrt round toFixed toFixedT all0C all0E
    constructor
    · simp only [all0C, List.forall_mem_cons]
      have runs (op : FpOp) {sf' df' : Option FpFmt}
          (compute : Word → FpFmt → FpFmt → Nat → FpOutcome) :=
        fpUnary_runs ready op fpUnimp0C (r := .left r) (t := .left t) (sf := sf) (df := df) (sf' := sf')
          (df' := df') compute
      exact ⟨runs .fcpy fpCopy, runs .fabs fpAbsolute, runs .fsqrt sqrt, runs .frnd round,
        runs .fcnvff fpConvert, runs .fcnvxf fpFromFixed, runs .fcnvfx toFixed, runs .fcnvfxt toFixedT,
        List.forall_mem_nil _⟩
    · simp only [all0E, List.forall_mem_cons]
      have runs (op : FpOp) {sf' df' : Option FpFmt}
          (compute : Word → FpFmt → FpFmt → Nat → FpOutcome) :=
        fpUnary_runs ready op fpUnimp0E (r := .select r rh) (t := .select t th) (sf := sf) (df := df)
          (sf' := sf') (df' := df') compute
      exact ⟨runs .fcpy fpCopy, runs .fabs fpAbsolute, runs .fsqrt sqrt, runs .frnd round,
        runs .fcnvff fpConvert, runs .fcnvxf fpFromFixed, runs .fcnvfx toFixed, runs .fcnvfxt toFixedT,
        List.forall_mem_nil _⟩

end Sys2Proof.Machine
end

/-! ### Two-operand floating-point instructions -/

section
namespace Sys2Proof.Machine

/-- A two-operand operation of a format and registers that it may name (R821). -/
theorem fpBinary_runs {s : State} (ready : FpReady s) (op : FpOp) (unimp : BitVec 6) {r1 r2 t : FpReg}
    {f : FpFmt} (compute : Word → FpFmt → Nat → Nat → FpOutcome) {fmt : Option FpFmt}
    (format : fmt = some f) (ok1 : fpSourceOk r1 f = true) (ok2 : fpSourceOk r2 f = true)
    (destOk : fpDestOk t f = true) :
    FpRuns (fpBinary s op unimp fmt r1 r2 t compute) s
      (s.endIdentify.fpFinish unimp (fpWords r1 f ++ fpWords r2 f) t f
        (if (op, f) ∈ s.cfg.fpUnimplemented then .unimplemented
        else compute s.endIdentify.fpsr f (s.endIdentify.fpRead r1 f) (s.endIdentify.fpRead r2 f))) := by
  subst format
  rw [fpBinary, ready.operation]
  simp only [ok1, ok2, destOk, Bool.and_self, if_true, fpMissing_iff, endIdentify_cfg]
  exact ((endIdentify_keeps s).fprs (fpFinish_frame _ _ _ _ _ _)).fpRuns

/-- The format codes of opcode 0E, classes 2 and 3 (R773). -/
theorem fpFmtF_eq_some {g h : BitVec 1} {f : FpFmt}
    (format : if g = 0#1 then f = .sgl else f = .dbl ∧ h = 0#1) : fpFmtF g h = some f := by
  unfold fpFmtF isOne
  by_cases single : g = 0#1
  · rw [if_pos single] at format
    simp [single, format]
  · rw [if_neg single] at format
    obtain ⟨rfl, rfl⟩ := format
    simp [show g = 1#1 by bv_omega]

/-- XMPYU (R855). -/
theorem execXmpyu_runs {s : State} (ready : FpReady s) (r1 r2 t : Reg) (h1 h2 : BitVec 1)
    (ok1 : fpSourceOk (.select r1 h1) .sgl = true) (ok2 : fpSourceOk (.select r2 h2) .sgl = true)
    (destOk : fpDestOk (.left t) .dbl = true) :
    FpRuns (execXmpyu r1 r2 h2 h1 t s) s (s.endIdentify.fpFinish fpUnimp0E
      (fpWords (.select r1 h1) .sgl ++ fpWords (.select r2 h2) .sgl) (.left t) .dbl
      (if (FpOp.xmpyu, FpFmt.sgl) ∈ s.cfg.fpUnimplemented then .unimplemented
      else .result (s.endIdentify.fpRead (.select r1 h1) .sgl
        * s.endIdentify.fpRead (.select r2 h2) .sgl) 0#32 0#6)) := by
  unfold execXmpyu
  rw [ready.operation]
  simp only [ok1, ok2, destOk, Bool.and_self, if_true, fpMissing_iff, endIdentify_cfg]
  exact ((endIdentify_keeps s).fprs (fpFinish_frame _ _ _ _ _ _)).fpRuns

/-- Settles O54: every operation but XMPYU is the one of `fpBinary_runs`. -/
theorem fpBinaryInstructions : Obligations.FpBinaryInstructions := by
  intro s r1 r2 t x g h1 h2 th f ready
  refine ⟨?_, ?_, execXmpyu_runs ready r1 r2 t h1 h2⟩
  · have runs (op : FpOp) (compute : Word → FpFmt → Nat → Nat → FpOutcome) :=
      fpBinary_runs ready op fpUnimp0C (r1 := .left r1) (r2 := .left r2) (t := .left t) (f := f)
        (fmt := fpFmt0C x) compute
    simp only [List.forall_mem_cons]
    exact ⟨runs .fadd _, runs .fsub _, runs .fmpy _, runs .fdiv _, List.forall_mem_nil _⟩
  · have runs (op : FpOp) (compute : Word → FpFmt → Nat → Nat → FpOutcome)
        (format : if g = 0#1 then f = .sgl else f = .dbl ∧ h2 = 0#1) :=
      fpBinary_runs ready op fpUnimp0E (r1 := .select r1 h1) (r2 := .select r2 h2) (t := .select t th)
        compute (fpFmtF_eq_some format)
    simp only [List.forall_mem_cons]
    exact ⟨runs .fadd _, runs .fsub _, runs .fmpy _, runs .fdiv _, List.forall_mem_nil _⟩

end Sys2Proof.Machine
end

/-! ### Floating-point compare -/

section
namespace Sys2Proof.Machine

/-- The Status Register after a comparison, bit by bit (R762). -/
theorem mbit_fpPushC (sr : Word) (r : Bool) {i : Nat} (hi : i < 32) :
    mbit (fpPushC sr r) i = if i = 5 then r else if i = 10 then mbit sr 5
      else if 10 < i ∧ i ≤ 20 then mbit sr (i - 1) else mbit sr i := by
  rw [fpPushC, show fpCBit = 5 from rfl, show fpCqLo = 10 from rfl, mbit_setMbit _ _ _ _ (by decide) hi,
    mbit_setField _ _ _ _ _ (by decide) hi, BitVec.getLsbD_append]
  congr 1
  by_cases first : i = 10
  · subst first
    cases mbit sr 5 <;> rfl
  rw [if_neg first]
  by_cases queue : 10 < i ∧ i ≤ 20
  · rw [if_pos queue, if_pos (by omega), if_pos (by omega),
      getLsbD_field _ _ _ _ (by decide) (by omega)]
    congr 1
    omega
  · rw [if_neg queue, if_neg (by omega)]

/-- The Status Register after a comparison, in the words of R844, R845: C is the relation, the old C enters
the queue, and V is set by an invalid operation. -/
def ComparedTo (old new : Word) (invalid relation : Bool) : Prop :=
  mbit new 0 = (mbit old 0 || invalid) ∧ mbit new 5 = relation ∧ mbit new 10 = mbit old 5 ∧
    (∀ i, 10 < i → i ≤ 20 → mbit new i = mbit old (i - 1)) ∧
    ∀ i, i < 32 → 1 ≤ i ∧ i < 5 ∨ 5 < i ∧ i < 10 ∨ 20 < i → mbit new i = mbit old i

theorem mbit_or_fpFlag_zero (sr : Word) {i : Nat} (hi : i < 32) :
    mbit (sr ||| fpFlag 0) i = (mbit sr i || i == 0) := by
  unfold mbit fpFlag
  rw [BitVec.getLsbD_or]
  congr 1
  interval_cases i <;> decide

/-- A comparison that does not trap (R762, R844, R845). -/
theorem fpPushC_compared (sr : Word) (invalid relation : Bool) :
    ComparedTo sr (fpPushC (if invalid then sr ||| fpFlag 0 else sr) relation) invalid relation := by
  have flagged {i : Nat} (hi : i < 32) :
      mbit (if invalid then sr ||| fpFlag 0 else sr) i = (mbit sr i || (invalid && i == 0)) := by
    cases invalid
    · simp
    · simpa using mbit_or_fpFlag_zero sr hi
  refine ⟨?_, ?_, ?_, fun i low high => ?_, fun i hi range => ?_⟩
  · rw [mbit_fpPushC _ _ (by decide)]
    simpa using flagged (i := 0) (by decide)
  · rw [mbit_fpPushC _ _ (by decide), if_pos rfl]
  · rw [mbit_fpPushC _ _ (by decide)]
    simpa using flagged (i := 5) (by decide)
  · rw [mbit_fpPushC _ _ (by omega), if_neg (by omega), if_neg (by omega), if_pos ⟨low, high⟩,
      flagged (by omega)]
    simp [show i - 1 ≠ 0 by omega]
  · rw [mbit_fpPushC _ _ hi, if_neg (by omega), if_neg (by omega), if_neg (by omega), flagged hi]
    simp [show i ≠ 0 by omega]

/-- FCMP of these operands is an invalid operation: a NaN is signaling, or the condition asks for the
exception (R845). -/
def fpCompareInvalid (f : FpFmt) (c : BitVec 5) (a b : Nat) : Bool :=
  (fpIsNan f a || fpIsNan f b) && (c.getLsbD 0 || fpIsSnan f a || fpIsSnan f b)

/-- The relation that FCMP puts into C; a NaN is unordered (R844). -/
def fpCompareRelation (f : FpFmt) (c : BitVec 5) (a b : Nat) : Bool :=
  if fpIsNan f a || fpIsNan f b then c.getLsbD 1
  else match fpCompare (fpValue f a) (fpValue f b) with
    | .gt => c.getLsbD 4 | .lt => c.getLsbD 3 | .eq => c.getLsbD 2

/-- A comparison records its invalid operation, or leaves the relation in the Status Register (R845). -/
theorem fpComparison_eq (s : State) (f : FpFmt) (c : BitVec 5) (a b : Nat) :
    s.fpComparison f c a b =
      if fpCompareInvalid f c a b && fpEnabled s.fpsr 0 then s.fpRecord 0b100000#6
      else s.setFpsr (fpPushC (if fpCompareInvalid f c a b then s.fpsr ||| fpFlag 0 else s.fpsr)
        (fpCompareRelation f c a b)) := by
  unfold State.fpComparison fpCompareInvalid fpCompareRelation fpRelation
  cases fpIsNan f a || fpIsNan f b
  · cases fpCompare (fpValue f a) (fpValue f b) <;> simp
  · cases c.getLsbD 0 || fpIsSnan f a || fpIsSnan f b <;> simp

/-- A recorded exception sets T and nothing else of the Status Register (R780, R791). -/
theorem fpRecord_runs {s : State} (code : BitVec 6) :
    ∃ e sr, FpRuns (done s (s.endIdentify.fpRecord code)) s
        ((s.endIdentify.setFpHalf 0#5 true e).setFpsr sr) ∧
      e = code ++ field s.iword 6 26 ∧
      ∀ i, i < 32 → mbit sr i = (mbit s.endIdentify.fpsr i || i == 25) := by
  refine ⟨_, _, ((endIdentify_keeps s).fprs (fpRecord_frame _ code)).fpRuns, ?_,
    fun i hi => mbit_setMbit_T _ hi⟩
  rw [endIdentify_iword]

/-- FCMP of a format and registers that it may name, with any operands (R844, R845). -/
theorem fpCompareOp_outcomes {s : State} (ready : FpReady s) (unimp : BitVec 6) {r1 r2 : FpReg}
    {f : FpFmt} {fmt : Option FpFmt} (c : BitVec 5) (format : fmt = some f)
    (ok1 : fpSourceOk r1 f = true) (ok2 : fpSourceOk r2 f = true) :
    let o := fpCompareOp s unimp fmt r1 r2 c
    let u := s.endIdentify
    let a := u.fpRead r1 f
    let b := u.fpRead r2 f
    let invalid := fpCompareInvalid f c a b
    let trapped := invalid && fpEnabled u.fpsr 0
    ((FpOp.fcmp, f) ∈ s.cfg.fpUnimplemented ∨ trapped = true →
      ∃ e sr, FpRuns o s ((u.setFpHalf 0#5 true e).setFpsr sr) ∧
        e = (if (FpOp.fcmp, f) ∈ s.cfg.fpUnimplemented then unimp else 0b100000#6)
          ++ field s.iword 6 26 ∧
        ∀ i, i < 32 → mbit sr i = (mbit u.fpsr i || i == 25)) ∧
    ((FpOp.fcmp, f) ∉ s.cfg.fpUnimplemented → trapped = false →
      ∃ sr, FpRuns o s (u.setFpsr sr) ∧ ComparedTo u.fpsr sr invalid (fpCompareRelation f c a b)) := by
  intro o u a b invalid trapped
  subst format
  have run : o = done s (if (FpOp.fcmp, f) ∈ s.cfg.fpUnimplemented then u.fpRecord unimp
      else u.fpComparison f c a b) := by
    simp only [o, fpCompareOp, ready.operation, ok1, ok2, Bool.and_self, if_true, fpMissing_iff,
      endIdentify_cfg]
    rfl
  have compared : u.fpComparison f c a b = if trapped then u.fpRecord 0b100000#6
      else u.setFpsr (fpPushC (if invalid then u.fpsr ||| fpFlag 0 else u.fpsr)
        (fpCompareRelation f c a b)) :=
    fpComparison_eq u f c a b
  constructor
  · intro traps
    have recorded : o = done s (u.fpRecord
        (if (FpOp.fcmp, f) ∈ s.cfg.fpUnimplemented then unimp else 0b100000#6)) := by
      by_cases missing : (FpOp.fcmp, f) ∈ s.cfg.fpUnimplemented
      · rw [run, if_pos missing, if_pos missing]
      · rw [run, if_neg missing, if_neg missing, compared, if_pos (traps.resolve_left missing)]
    rw [recorded]
    exact fpRecord_runs _
  · intro present quiet
    rw [run, if_neg present, compared, if_neg (ne_true_of_eq_false quiet)]
    exact ⟨_, ((endIdentify_keeps s).fprs rfl).fpRuns, fpPushC_compared _ _ _⟩

/-! ### The order of the operands -/

/-- Numbers given by sign, significand and exponent are compared as numbers. -/
theorem compare_fpScaled (s t : Bool) (m n : Nat) (e d : Int) :
    compare (fpScaled s m e (min e d)) (fpScaled t n d (min e d)) =
      compare (FpVal.num s m e).rat (FpVal.num t n d).rat := by
  have unit : (0 : ℚ) < 2 ^ min e d := by positivity
  have scaledX : (FpVal.num s m e).rat = _ := (fpScaled_rat s m (min_le_left e d)).symm
  have scaledY : (FpVal.num t n d).rat = _ := (fpScaled_rat t n (min_le_right e d)).symm
  rw [scaledX, scaledY]
  generalize fpScaled s m e (min e d) = x
  generalize fpScaled t n d (min e d) = y
  rcases lt_trichotomy x y with less | rfl | greater
  · rw [compare_lt_iff_lt.2 less, compare_lt_iff_lt.2 (by gcongr)]
  · rw [compare_eq_iff_eq.2 rfl, compare_eq_iff_eq.2 rfl]
  · rw [compare_gt_iff_gt.2 greater, compare_gt_iff_gt.2 (by gcongr)]

/-- A number other than zero is on the side of zero that its sign says. -/
theorem compare_rat_zero (neg : Bool) {m : Nat} (e : Int) (nonzero : m ≠ 0) :
    compare (FpVal.num neg m e).rat 0 = if neg then .lt else .gt := by
  have positive : (0 : ℚ) < m * 2 ^ e := by positivity
  cases neg
  · exact compare_gt_iff_gt.2 (by simpa [FpVal.rat] using positive)
  · exact compare_lt_iff_lt.2 (by simpa [FpVal.rat] using positive)

theorem compare_zero_rat (neg : Bool) {m : Nat} (e : Int) (nonzero : m ≠ 0) :
    compare 0 (FpVal.num neg m e).rat = if neg then .gt else .lt := by
  have positive : (0 : ℚ) < m * 2 ^ e := by positivity
  cases neg
  · exact compare_lt_iff_lt.2 (by simpa [FpVal.rat] using positive)
  · exact compare_gt_iff_gt.2 (by simpa [FpVal.rat] using positive)

/-- Numbers and zeros are compared as numbers. -/
theorem fpCompare_finite {x y : FpVal} (hx : x.sound) (hy : y.sound) (fx : x.finite) (fy : y.finite) :
    fpCompare x y = compare x.rat y.rat := by
  cases x with
  | inf s => exact absurd fx (FpVal.finite_inf s)
  | zero s =>
    cases y with
    | inf t => exact absurd fy (FpVal.finite_inf t)
    | zero t => rfl
    | num t n d =>
      rw [FpVal.rat_zero, compare_zero_rat t d hy]
      cases t <;> rfl
  | num s m e =>
    cases y with
    | inf t => exact absurd fy (FpVal.finite_inf t)
    | zero t =>
      rw [FpVal.rat_zero, compare_rat_zero s e hx]
      cases s <;> rfl
    | num t n d => exact compare_fpScaled s t m n e d

theorem fpCompare_inf_finite (s : Bool) {y : FpVal} (fy : y.finite) :
    fpCompare (.inf s) y = if s then .lt else .gt := by
  cases y with
  | inf t => exact absurd fy (FpVal.finite_inf t)
  | zero t => cases s <;> rfl
  | num t n d => cases s <;> cases t <;> rfl

theorem fpCompare_finite_inf {x : FpVal} (fx : x.finite) (t : Bool) :
    fpCompare x (.inf t) = if t then .gt else .lt := by
  cases x with
  | inf s => exact absurd fx (FpVal.finite_inf s)
  | zero s => cases t <;> rfl
  | num s m e => cases s <;> cases t <;> rfl

theorem fpCompare_inf_inf (s t : Bool) :
    fpCompare (.inf s) (.inf t) = if s = t then .eq else if s then .lt else .gt := by
  cases s <;> cases t <;> rfl

theorem FpVal.eq_inf_of_not_finite {x : FpVal} (infinite : ¬ x.finite) : x = .inf x.sign := by
  cases x with
  | inf s => rfl
  | zero s => exact absurd (FpVal.finite_zero s) infinite
  | num s m e => exact absurd (FpVal.finite_num s m e) infinite

/-- The infinities are at the ends. -/
theorem fpCompare_infinite (x y : FpVal) :
    (¬ x.finite → y.finite → fpCompare x y = if x.sign then .lt else .gt) ∧
    (x.finite → ¬ y.finite → fpCompare x y = if y.sign then .gt else .lt) ∧
    (¬ x.finite → ¬ y.finite →
      fpCompare x y = if x.sign = y.sign then .eq else if x.sign then .lt else .gt) := by
  refine ⟨fun ix fy => ?_, fun fx iy => ?_, fun ix iy => ?_⟩
  · rw [FpVal.eq_inf_of_not_finite ix]
    exact fpCompare_inf_finite x.sign fy
  · rw [FpVal.eq_inf_of_not_finite iy]
    exact fpCompare_finite_inf fx y.sign
  · rw [FpVal.eq_inf_of_not_finite ix, FpVal.eq_inf_of_not_finite iy]
    exact fpCompare_inf_inf x.sign y.sign

/-! ### The tests of FTEST -/

/-- FTEST completes, nullifying by the test or, where Table 6-14 has none, by a free value (R846). -/
theorem execFtest_completes {s : State} (ready : FpReady s) (t : BitVec 5) :
    ∃ n w, Completes (execFtest t s) s s.endIdentify w [] n none s.pswCB s.pswV ∧
      ∀ b, fpTest t s.endIdentify.fpsr = some b → n = b := by
  have keeps := endIdentify_keeps s
  unfold execFtest
  rw [ready.operation]
  cases fpTest t s.endIdentify.fpsr with
  | some b =>
    obtain ⟨w, completes⟩ := keeps.completes_base b
    exact ⟨b, w, completes, fun _ same => Option.some.inj same⟩
  | none =>
    obtain ⟨w, completes⟩ := keeps.completes (u := s.endIdentify.drawBit.2) rfl
      (grsAre_congr keeps.grs (grsAre_refl s)) s.endIdentify.drawBit.1
    exact ⟨_, w, completes, fun _ listed => nomatch listed⟩

/-- C and the first `k` entries of the queue are all 0. -/
theorem queue_clear_iff (c : Bool) (q : Nat → Bool) (k : Nat) :
    (!c && (List.range k).all fun i => !q i) = true ↔ c = false ∧ ∀ i, i < k → q i = false := by
  simp

/-- C and an entry of the queue, or two entries at the same distance, are both 1. -/
theorem queue_pair_iff (c : Bool) (q : Nat → Bool) (k : Nat) :
    (c && q k || (List.range k).any fun i => q i && q (i + (k + 1))) = true ↔
      c = true ∧ q k = true ∨ ∃ i, i < k ∧ q i = true ∧ q (i + (k + 1)) = true := by
  simp

/-- The tests of Table 6-14 that look for a pair (R846). -/
theorem fpTest_pair (sr : Word) :
    let test (k : Nat) := mbit sr 5 && mbit sr (10 + k) ||
      (List.range k).any fun i => mbit sr (10 + i) && mbit sr (10 + (i + (k + 1)))
    fpTest 2#5 sr = some (test 5) ∧ fpTest 6#5 sr = some (test 3) := by
  simp [fpTest, fpCBit, fpCqLo, List.range_succ, Bool.or_assoc]

/-- Settles O55: both forms of FCMP are one operation, the order is that of the values, and FTEST completes
with what its test answers. -/
theorem fpCompareAndTest : Obligations.FpCompareAndTest := by
  refine ⟨fun s r1 r2 x g h1 h2 c f ready => ?_, fun f a b => ?_, fun s t ready => ?_⟩
  · simp only [List.forall_mem_cons]
    exact ⟨fpCompareOp_outcomes ready fpUnimp0C c, fpCompareOp_outcomes ready fpUnimp0E c,
      List.forall_mem_nil _⟩
  · rw [fpFinite_iff, fpFinite_iff, fpRat_eq, fpRat_eq, fpSign_eq, fpSign_eq]
    exact ⟨fpCompare_finite (fpValue_sound f a) (fpValue_sound f b), fpCompare_infinite _ _⟩
  · intro c q
    obtain ⟨n, w, completes, listed⟩ := execFtest_completes ready t
    refine ⟨n, w, completes, ?_, ?_, ?_, ?_⟩
    · rintro rfl
      exact listed c rfl
    · simp only [List.forall_mem_cons]
      have clear (k : Nat) (test : fpTest t s.endIdentify.fpsr =
          some (!c && (List.range k).all fun i => !q i)) :
          n = true ↔ c = false ∧ ∀ i, i < k → q i = false := by
        rw [listed _ test, queue_clear_iff]
      refine ⟨?_, ?_, ?_, ?_, ?_, List.forall_mem_nil _⟩
      all_goals
        rintro rfl
        exact clear _ rfl
    · rintro rfl
      rw [listed _ (fpTest_pair _).1]
      exact queue_pair_iff c q 5
    · rintro rfl
      rw [listed _ (fpTest_pair _).2]
      exact queue_pair_iff c q 3

end Sys2Proof.Machine
end

/-! ### Floating-point multiple operations -/

section
namespace Sys2Proof.Machine

theorem KeepsCommon.fpWrite {s u : State} (keeps : KeepsCommon s u) (t : FpReg) (f : FpFmt) (v : Nat) :
    KeepsCommon s (u.fpWrite t f v) := by
  rw [fpWrite_frame]
  exact keeps.fprs rfl

/-- FMPYADD and FMPYSUB of operands that do not overlap: both results, or the unimplemented exception of the
whole (R782, R860, R861). -/
theorem fpMultiple_outcomes {s : State} (ready : FpReady s) (op : FpOp) (unimp : BitVec 6)
    {m1 m2 ta ra tm : Reg} {g : BitVec 1} (second : Word → FpFmt → Nat → Nat → FpOutcome)
    (apart : ¬ (ra = 0#5 ∨ ra = tm ∨ ta = m1 ∨ ta = m2 ∨ ta = tm)) {f : FpFmt}
    (format : (if isOne g then .sgl else .dbl) = f)
    (ok1 : fpSourceOk (fpMulti f m1) f = true) (ok2 : fpSourceOk (fpMulti f m2) f = true)
    (okM : fpDestOk (fpMulti f tm) f = true) (okR : fpSourceOk (fpMulti f ra) f = true)
    (okA : fpDestOk (fpMulti f ta) f = true) :
    let o := fpMultiple s op unimp m1 m2 ta ra g tm second
    let u := s.endIdentify
    let o1 := fpMul u.fpsr f (u.fpRead (fpMulti f m1) f) (u.fpRead (fpMulti f m2) f)
    let o2 := second u.fpsr f (u.fpRead (fpMulti f ta) f) (u.fpRead (fpMulti f ra) f)
    ((op, f) ∉ s.cfg.fpUnimplemented →
      ∀ b1 g1 b2 g2, o1 = .result b1 g1 0#6 → o2 = .result b2 g2 0#6 →
      FpRuns o s
        (((u.fpWrite (fpMulti f tm) f b1).fpWrite (fpMulti f ta) f b2).setFpsr (u.fpsr ||| g1 ||| g2))) ∧
    ((op, f) ∈ s.cfg.fpUnimplemented ∨ (∀ b1 g1, o1 ≠ .result b1 g1 0#6) ∨
        (∀ b2 g2, o2 ≠ .result b2 g2 0#6) →
      FpRuns o s
        ((u.fpLose (fpWords (fpMulti f m1) f ++ fpWords (fpMulti f m2) f ++ fpWords (fpMulti f ra) f
          ++ fpWords (fpMulti f ta) f) (fpWords (fpMulti f tm) f)).fpRecord unimp)) := by
  intro o u o1 o2
  have keeps : KeepsCommon s u := endIdentify_keeps s
  constructor
  · intro present b1 g1 b2 g2 r1 r2
    have both : o = done s
        (((u.fpWrite (fpMulti f tm) f b1).fpWrite (fpMulti f ta) f b2).setFpsr (u.fpsr ||| g1 ||| g2)) := by
      dsimp only [o1, o2, u] at r1 r2
      simp only [o, fpMultiple, format, ready.operation, if_neg apart, ok1, ok2, okM, okR, okA,
        Bool.and_self, if_true, fpMissing_iff, endIdentify_cfg, if_neg present, r1, r2]
      rfl
    have written : KeepsCommon s ((u.fpWrite (fpMulti f tm) f b1).fpWrite (fpMulti f ta) f b2) :=
      (keeps.fpWrite _ _ _).fpWrite _ _ _
    rw [both]
    exact (written.fprs rfl).fpRuns
  · intro traps
    have whole : o = done s ((u.fpLose (fpWords (fpMulti f m1) f ++ fpWords (fpMulti f m2) f
        ++ fpWords (fpMulti f ra) f ++ fpWords (fpMulti f ta) f) (fpWords (fpMulti f tm) f)).fpRecord
        unimp) := by
      simp only [o, fpMultiple, format, ready.operation, if_neg apart, ok1, ok2, okM, okR, okA,
        Bool.and_self, if_true, fpMissing_iff, endIdentify_cfg]
      split
      · rfl
      next present =>
        split
        next r1 r2 =>
          rcases traps.resolve_left present with trap1 | trap2
          · exact absurd r1 (trap1 _ _)
          · exact absurd r2 (trap2 _ _)
        · rfl
    rw [whole]
    exact ((keeps.fprs (fpLose_frame u _ _)).fprs (fpRecord_frame _ _)).fpRuns

/-- Settles O56: both instructions are the operation of `fpMultiple_outcomes`. -/
theorem fpMultipleInstructions : Obligations.FpMultipleInstructions := by
  intro s m1 m2 ta ra tm g ready hra hratm htam1 htam2 htatm f u ok1 ok2 okM okR okA
  have apart : ¬ (ra = 0#5 ∨ ra = tm ∨ ta = m1 ∨ ta = m2 ∨ ta = tm) := by tauto
  have format : (if isOne g then FpFmt.sgl else .dbl) = f := by simp [f, isOne]
  simp only [List.forall_mem_cons]
  exact ⟨fpMultiple_outcomes ready .fmpyadd _ fpAdd apart format ok1 ok2 okM okR okA,
    fpMultiple_outcomes ready .fmpysub _ fpSub apart format ok1 ok2 okM okR okA,
    List.forall_mem_nil _⟩

end Sys2Proof.Machine
end

/-! ### Floating-point loads and stores -/

section
namespace Sys2Proof.Machine

theorem KeepsCommon.trans {s u v : State} (h : KeepsCommon s u) (k : KeepsCommon u v) :
    KeepsCommon s v :=
  ⟨k.grs.trans h.grs, k.psw.trans h.psw, k.iaoqBack.trans h.iaoqBack, k.iasqBack.trans h.iasqBack⟩

/-- The checks of a reference leave the fields that a completion reads. -/
theorem SameButTlb.keeps {s s' : State} (h : SameButTlb s s') : KeepsCommon s s' := by
  obtain ⟨grs, psw, iaoqBack, iasqBack, -⟩ := h.fields
  exact ⟨grs, psw, iaoqBack, iasqBack⟩

theorem SameButTlb.endIdentify_keeps {s s' : State} (h : SameButTlb s s') :
    KeepsCommon s s'.endIdentify := h.keeps.trans (Machine.endIdentify_keeps s')

theorem SameButTlb.fprs {s s' : State} (h : SameButTlb s s') : s'.fprs = s.fprs := by
  obtain ⟨_, _, _, _, rfl⟩ := h.exists
  rfl

@[simp] theorem endIdentify_mem (s : State) : s.endIdentify.mem = s.mem := by rw [endIdentify_frame]

/-! The beginning of a reference -/

/-- With CCR bits 0 and 1 both 0, the assist emulation trap after the checks of the reference (R700). -/
theorem fpReference_disabled {s : State} (off0 : s.ccrBit 0#3 = false) (off1 : s.ccrBit 1#3 = false)
    (ref : DataRef) (ea : Ea) (armed refuse : Bool) (k : State → Nat → Out) :
    fpReference s ref ea armed refuse k = emulateReference s ref ea.space ea.offset := by
  simp [fpReference, fpEnable, off0, off1]

/-- With both 1: T, then the undefined registers, then the checks of the reference (R823). -/
theorem fpReference_enabled {s : State} (on0 : s.ccrBit 0#3 = true) (on1 : s.ccrBit 1#3 = true)
    (ref : DataRef) (ea : Ea) (armed refuse : Bool) (k : State → Nat → Out) :
    fpReference s ref ea armed refuse k =
      if armed then trapInstr 14 s
      else if refuse then .refused .fpSingleWord
      else s.access ref ea.space ea.offset k := by
  simp [fpReference, fpEnable, on0, on1]

/-- A reference that passes its checks goes on. -/
theorem fpReference_checked {s s' : State} {addr : Nat} (on0 : s.ccrBit 0#3 = true)
    (on1 : s.ccrBit 1#3 = true) {ref : DataRef} {ea : Ea} {armed refuse : Bool} (spared : armed = false)
    (named : refuse = false) (checked : s.dataCheck ref ea.space ea.offset = .ok (s', addr))
    (k : State → Nat → Out) : fpReference s ref ea armed refuse k = k s' addr := by
  rw [fpReference_enabled on0 on1, spared, named]
  exact access_ok checked k

/-- How a load or store of the register `r` begins: T traps, but for a doubleword store of register 0, and
a word access may name no exception register (R803, R824). -/
def FpBegins (o : Out) (s : State) (ref : DataRef) (ea : Ea) (r : FpReg) : Prop :=
  ∃ armed refuse k, o = fpReference s ref ea armed refuse k ∧
    (armed = true ↔ s.fpT = true ∧ (ref = .coprocessor .store 8 → r.n ≠ 0#5)) ∧
    (refuse = true ↔ ref.size = 4 ∧ fpNoWord r = true)

theorem fpLoadWord_begins (s : State) (ea : Ea) (b : Reg) (t : FpReg) :
    FpBegins (fpLoadWord s ea b t) s (.coprocessor .load 4) ea t :=
  ⟨_, _, _, rfl, by simp [DataRef.coprocessor], by simp [DataRef.coprocessor]⟩

theorem fpStoreWord_begins (s : State) (ea : Ea) (b : Reg) (r : FpReg) :
    FpBegins (fpStoreWord s ea b r) s (.coprocessor .store 4) ea r :=
  ⟨_, _, _, rfl, by simp [DataRef.coprocessor], by simp [DataRef.coprocessor]⟩

theorem fpLoadDword_begins (s : State) (ea : Ea) (b : Reg) (t : FpReg) :
    FpBegins (fpLoadDword s ea b t.n) s (.coprocessor .load 8) ea t :=
  ⟨_, _, _, rfl, by simp [DataRef.coprocessor], by simp [DataRef.coprocessor]⟩

theorem fpStoreDword_begins (s : State) (ea : Ea) (b : Reg) (r : FpReg) :
    FpBegins (fpStoreDword s ea b r.n) s (.coprocessor .store 8) ea r :=
  ⟨_, _, _, rfl, by simp, by simp [DataRef.coprocessor]⟩

/-- With the coprocessor disabled (R700, R893). -/
theorem FpBegins.disabled {o : Out} {s : State} {ref : DataRef} {ea : Ea} {r : FpReg}
    (begins : FpBegins o s ref ea r) (off0 : s.ccrBit 0#3 = false) (off1 : s.ccrBit 1#3 = false) :
    o = emulateReference s ref ea.space ea.offset := by
  obtain ⟨armed, refuse, k, rfl, -⟩ := begins
  exact fpReference_disabled off0 off1 ref ea armed refuse k

/-- With T = 1 (R823). -/
theorem FpBegins.armed {o : Out} {s : State} {ref : DataRef} {ea : Ea} {r : FpReg}
    (begins : FpBegins o s ref ea r) (on0 : s.ccrBit 0#3 = true) (on1 : s.ccrBit 1#3 = true)
    (t : s.fpT = true) (trapping : ref = .coprocessor .store 8 → r.n ≠ 0#5) : Traps o s 14 := by
  obtain ⟨armed, refuse, k, rfl, arms, -⟩ := begins
  rw [fpReference_enabled on0 on1]
  exact if_pos (arms.2 ⟨t, trapping⟩)

/-- A word access to an exception register (R824 (a), U30). -/
theorem FpBegins.undefined {o : Out} {s : State} {ref : DataRef} {ea : Ea} {r : FpReg}
    (begins : FpBegins o s ref ea r) (on0 : s.ccrBit 0#3 = true) (on1 : s.ccrBit 1#3 = true)
    (clear : s.fpT = false) (size : ref.size = 4) (unnamed : fpNoWord r = true) :
    o = .refused .fpSingleWord := by
  obtain ⟨armed, refuse, k, rfl, arms, refuses⟩ := begins
  have quiet : ¬ armed = true := fun armed => absurd (arms.1 armed).1 (ne_true_of_eq_false clear)
  rw [fpReference_enabled on0 on1, if_neg quiet]
  exact if_pos (refuses.2 ⟨size, unnamed⟩)

/-- A reference that is interrupted has no effect but its interruption. -/
theorem FpBegins.interrupted {o : Out} {s : State} {ref : DataRef} {ea : Ea} {r : FpReg}
    (begins : FpBegins o s ref ea r) (on0 : s.ccrBit 0#3 = true) (on1 : s.ccrBit 1#3 = true)
    (spared : s.fpT = false ∨ ref = .coprocessor .store 8 ∧ r.n = 0#5)
    (named : ref.size = 4 → fpNoWord r = false) {n : Nat}
    (trapped : s.dataCheck ref ea.space ea.offset = .trap n) :
    TrapsRef o s n ref ea.space ea.offset ea.offset := by
  obtain ⟨armed, refuse, k, rfl, arms, refuses⟩ := begins
  have quiet : ¬ armed = true := by
    rw [arms]
    rintro ⟨t, trapping⟩
    rcases spared with clear | ⟨store, zero⟩
    · exact absurd t (ne_true_of_eq_false clear)
    · exact trapping store zero
  have defined : ¬ refuse = true := by
    rw [refuses]
    rintro ⟨size, unnamed⟩
    exact absurd unnamed (ne_true_of_eq_false (named size))
  rw [fpReference_enabled on0 on1, if_neg quiet, if_neg defined]
  exact access_trap trapped k

/-- The registers that a word access may name (R824 (a)). -/
theorem fpNoWord_select (r : Reg) (h : BitVec 1) :
    fpNoWord (.select r h) = false ↔ 3 < r.toNat ∨ r = 0#5 ∧ h = 0#1 := by
  have half : h = 0#1 ↔ ¬ h = 1#1 := by bv_omega
  show (decide (r.toNat ≤ 3) && !(r == 0#5 && !(h == 1#1))) = false ↔ _
  by_cases high : 3 < r.toNat
  · simp [high]
  · simp [high, half, Nat.le_of_not_lt high]

/-! Loads -/

/-- A word load of a register that it may name, with a reference that passes its checks (R824). -/
theorem fpLoadWord_outcomes {s s' : State} {addr : Nat} (on0 : s.ccrBit 0#3 = true)
    (on1 : s.ccrBit 1#3 = true) (clear : s.fpT = false) {t : FpReg} (named : fpNoWord t = false)
    (ea : Ea) (b : Reg)
    (checked : s.dataCheck (.coprocessor .load 4) ea.space ea.offset = .ok (s', addr)) :
    (t.n = 0#5 → mbit (s'.loadWord addr) 25 = true → fpLoadWord s ea b t = .refused .fpSingleWord) ∧
    (t.n ≠ 0#5 ∨ mbit (s'.loadWord addr) 25 = false →
      Writes (fpLoadWord s ea b t) s (s'.endIdentify.setFpHalf t.n t.half (s'.loadWord addr))
        (ea.base.map fun v => (b, v)).toList) := by
  have run : fpLoadWord s ea b t = if t.n = 0#5 ∧ mbit (s'.loadWord addr) 25 = true
      then .refused .fpSingleWord
      else done s ((s'.endIdentify.setFpHalf t.n t.half (s'.loadWord addr)).modifyBase b ea.base) := by
    rw [fpLoadWord, fpReference_checked on0 on1 clear named checked]
    rfl
  refine ⟨fun zero sets => run.trans (if_pos ⟨zero, sets⟩), fun defined => ?_⟩
  rw [run, if_neg (not_and_or.2 (defined.imp_right ne_true_of_eq_false))]
  exact ((dataCheck_frame checked).endIdentify_keeps.fprs rfl).modifyBase_writes b ea.base

/-- A doubleword load (R826, R830). -/
theorem fpLoadDword_writes {s s' : State} {addr : Nat} (on0 : s.ccrBit 0#3 = true)
    (on1 : s.ccrBit 1#3 = true) (clear : s.fpT = false) (ea : Ea) (b t : Reg)
    (checked : s.dataCheck (.coprocessor .load 8) ea.space ea.offset = .ok (s', addr)) :
    Writes (fpLoadDword s ea b t) s (s'.endIdentify.setFpr t (s'.loadDword addr))
      (ea.base.map fun v => (b, v)).toList := by
  rw [fpLoadDword, fpReference_checked on0 on1 clear rfl checked]
  exact ((dataCheck_frame checked).endIdentify_keeps.fprs rfl).modifyBase_writes b ea.base

/-! Stores -/

/-- A store that ends the identify format. -/
theorem endIdentify_stores {s s' : State} (frame : SameButTlb s s') (wf : s.mem.wf = true) (b : Reg)
    (x : Option Word) (addr : Nat) (bytes : List Byte) :
    Stores (done s ((s'.endIdentify.storeBytes addr bytes).modifyBase b x)) s s'.endIdentify b x addr
      bytes := by
  obtain ⟨-, -, -, -, mem⟩ := frame.fields
  exact frame.endIdentify_keeps.storeBytes_stores ((endIdentify_mem s').trans mem) wf b x addr bytes

/-- A word store (R827, R831). -/
theorem fpStoreWord_stores {s s' : State} {addr : Nat} (on0 : s.ccrBit 0#3 = true)
    (on1 : s.ccrBit 1#3 = true) (clear : s.fpT = false) {r : FpReg} (named : fpNoWord r = false)
    (wf : s.mem.wf = true) (ea : Ea) (b : Reg)
    (checked : s.dataCheck (.coprocessor .store 4) ea.space ea.offset = .ok (s', addr)) :
    Stores (fpStoreWord s ea b r) s s'.endIdentify b ea.base addr
      (wordBytes s.pswE (s'.endIdentify.fpHalf r.n r.half)) := by
  rw [fpStoreWord, fpReference_checked on0 on1 clear named checked]
  exact endIdentify_stores (dataCheck_frame checked) wf b ea.base addr _

/-- A doubleword store of a register other than 0 (R828, R832). -/
theorem fpStoreDword_stores {s s' : State} {addr : Nat} (on0 : s.ccrBit 0#3 = true)
    (on1 : s.ccrBit 1#3 = true) (clear : s.fpT = false) {r : Reg} (other : r ≠ 0#5)
    (wf : s.mem.wf = true) (ea : Ea) (b : Reg)
    (checked : s.dataCheck (.coprocessor .store 8) ea.space ea.offset = .ok (s', addr)) :
    Stores (fpStoreDword s ea b r) s s'.endIdentify b ea.base addr
      (dwordBytes s.pswE (readReg s.fprs r)) := by
  have frame := dataCheck_frame checked
  rw [fpStoreDword, fpReference_checked on0 on1 (by simp [clear]) rfl checked, if_neg other, frame.fprs]
  exact endIdentify_stores frame wf b ea.base addr _

/-! The doubleword store of register 0 -/

theorem field_setField (w : Word) (i n : Nat) (v : BitVec n) (within : i + n ≤ 32) :
    field (setField w i n v) i n = v := by
  refine BitVec.eq_of_getLsbD_eq fun k hk => ?_
  rw [getLsbD_field _ _ _ _ within hk, mbit_setField _ _ _ _ _ within (by omega), if_pos (by omega)]
  congr 1
  omega

theorem field_setField_apart (w : Word) {i n j m : Nat} (v : BitVec n) (within : i + n ≤ 32)
    (within' : j + m ≤ 32) (apart : j + m ≤ i ∨ i + n ≤ j) :
    field (setField w i n v) j m = field w j m := by
  refine BitVec.eq_of_getLsbD_eq fun k hk => ?_
  rw [getLsbD_field _ _ _ _ within' hk, getLsbD_field _ _ _ _ within' hk,
    mbit_setField _ _ _ _ _ within (by omega), if_neg (by omega)]

/-- The identify format holds the model and the revision (R756). -/
theorem fpIdentity_fields (s : State) :
    field s.fpIdentity 5 5 = s.cfg.fpModel ∧ field s.fpIdentity 10 11 = s.cfg.fpRevision := by
  unfold State.fpIdentity
  constructor
  · rw [field_setField_apart _ _ (by decide) (by decide) (by decide), field_setField _ _ _ _ (by decide)]
  · exact field_setField _ _ _ _ (by decide)

/-- The counter of free values is no effect of an instruction. -/
theorem Completes.of_draws {o : Out} {s base w : State} {draws : Nat} {regs : List (Reg × Word)}
    {nullify : Bool} {target : Option Target} {cb : BitVec 8} {v : Bool}
    (h : Completes o s { base with draws := draws } w regs nullify target cb v) :
    Completes o s base w regs nullify target cb v :=
  ⟨h.outcome, h.calm, h.grs, h.psw, h.iaoqFront, h.iaoqBack, h.iasqFront, h.iasqBack, h.rctr, h.rest⟩

theorem SameBut.fpT {base w : State} (h : SameBut base w) : w.fpT = base.fpT := by
  obtain ⟨_, _, _, _, _, _, _, _, rfl⟩ := h.exists
  rfl

/-- What a doubleword store of register 0 stores for the Status Register (R756, R803). -/
def State.fpStoredStatus (s : State) : Word := if s.fpIdentifyValid then s.fpIdentity else s.fpsr

theorem fpStoreZero_mem (s : State) (a : Nat) :
    (s.fpStoreZero a).mem =
      s.mem.setBytes a (dwordBytes s.pswE (s.fpStoredStatus ++ s.fpHalf 0#5 true)) := rfl

theorem fpStoreZero_keeps (s : State) (a : Nat) : KeepsCommon s (s.fpStoreZero a) := by
  unfold State.fpStoreZero
  constructor <;> simp

/-- The doubleword store clears T (R803). -/
theorem fpStoreZero_fpT (s : State) (a : Nat) : (s.fpStoreZero a).fpT = false := by
  have status : (s.fpStoreZero a).fpsr = setMbit s.fpsr fpTBit false := State.fpsr_setFpsr _ _
  rw [State.fpT, status, mbit_setMbit _ _ _ _ (by decide) (by decide), if_pos rfl]

/-- The checks of a reference leave what a doubleword store of register 0 depends on. -/
theorem SameButTlb.fpStatus {s s' : State} (h : SameButTlb s s') :
    s'.fpsr = s.fpsr ∧ s'.fpHalf 0#5 true = s.fpHalf 0#5 true ∧
      s'.fpIdentifyValid = s.fpIdentifyValid ∧ s'.cfg = s.cfg := by
  obtain ⟨_, _, _, _, rfl⟩ := h.exists
  exact ⟨rfl, rfl, rfl, rfl⟩

/-- A doubleword store of register 0: it stores the Status Register or the identify format, and Exception
Register 1, and clears T (R803, R828). -/
theorem fpStoreDword_zero {s s' : State} {addr : Nat} (on0 : s.ccrBit 0#3 = true)
    (on1 : s.ccrBit 1#3 = true) (wf : s.mem.wf = true) (ea : Ea) (b : Reg)
    (checked : s.dataCheck (.coprocessor .store 8) ea.space ea.offset = .ok (s', addr)) :
    ∃ sr w, Completes (fpStoreDword s ea b 0#5) s
        { s'.setFpsr (setMbit s.fpsr 25 false) with fpZeroStored := true, mem := w.mem } w
        (ea.base.map fun v => (b, v)).toList false none s.pswCB s.pswV ∧
      StoresAt s w addr (dwordBytes s.pswE (sr ++ s.fpHalf 0#5 true)) ∧ w.fpT = false ∧
      (s.fpIdentifyValid = false → sr = s.fpsr) ∧
      (s.fpIdentifyValid = true →
        field sr 5 5 = s.cfg.fpModel ∧ field sr 10 11 = s.cfg.fpRevision) := by
  have frame := dataCheck_frame checked
  obtain ⟨-, -, -, -, mem⟩ := frame.fields
  obtain ⟨status, exception, identifies, cfg⟩ := frame.fpStatus
  rw [fpStoreDword, fpReference_checked on0 on1 (by simp) rfl checked, if_pos rfl]
  obtain ⟨w, completes⟩ :=
    (frame.keeps.trans (fpStoreZero_keeps s' addr)).modifyBase_writes b ea.base
  have written : w.mem = (s'.fpStoreZero addr).mem := completes.rest.mem
  refine ⟨s'.fpStoredStatus, w, ?_, ?_, ?_, fun invalid => ?_, fun valid => ?_⟩
  · rw [written, ← status]
    exact completes.of_draws
  · rw [fpStoreZero_mem, frame.pswE, exception, mem] at written
    exact storesAt_setBytes wf written
  · exact completes.rest.fpT.trans (fpStoreZero_fpT s' addr)
  · rw [State.fpStoredStatus, identifies, if_neg (ne_true_of_eq_false invalid), status]
  · rw [State.fpStoredStatus, identifies, if_pos valid, ← cfg]
    exact fpIdentity_fields s'

/-- Settles O57: all eight instructions begin in one way, and go on as one of four loads and stores. -/
theorem fpLoadsAndStores : Obligations.FpLoadsAndStores := by
  intro s s' addr b x r sf i5 u m a h cc base loadsW loadsD storesW storesD word ref all
  have nameable : word → fpNoWord (.select r h) = false := (fpNoWord_select r h).2
  have begins : ∀ p ∈ all, FpBegins (exec p.1.1 s) s p.2 p.1.2 (.select r h) := by
    have loadW (ea : Ea) := fpLoadWord_begins s ea b (.select r h)
    have loadD (ea : Ea) := fpLoadDword_begins s ea b (.select r h)
    have storeW (ea : Ea) := fpStoreWord_begins s ea b (.select r h)
    have storeD (ea : Ea) := fpStoreDword_begins s ea b (.select r h)
    simp only [all, loadsW, loadsD, storesW, storesD, List.map_cons, List.map_nil, List.cons_append,
      List.nil_append, List.forall_mem_cons]
    exact ⟨loadW _, loadW _, loadD _, loadD _, storeW _, storeW _, storeD _, storeD _,
      List.forall_mem_nil _⟩
  refine ⟨fun off0 off1 p hp => ?_, fun on0 on1 => ⟨fun armed p hp => (begins p hp).armed on0 on1 armed,
    fun p hp spared named n => (begins p hp).interrupted on0 on1 spared fun size => nameable (named size),
    fun clear => ⟨fun unnameable => ?_, fun named => ?_, ?_, fun named wf => ?_, fun other wf => ?_⟩,
    fun zero wf => ?_⟩⟩
  · rw [(begins p hp).disabled off0 off1]
    exact emulateReference_outcomes s s' addr p.2 p.1.2.space p.1.2.offset
  · have unnamed : fpNoWord (.select r h) = true := by
      by_contra named
      exact unnameable ((fpNoWord_select r h).1 (eq_false_of_ne_true named))
    have load (ea : Ea) :=
      (fpLoadWord_begins s ea b (.select r h)).undefined on0 on1 clear rfl unnamed
    have store (ea : Ea) :=
      (fpStoreWord_begins s ea b (.select r h)).undefined on0 on1 clear rfl unnamed
    simp only [loadsW, storesW, List.cons_append, List.nil_append, List.forall_mem_cons]
    exact ⟨load _, load _, store _, store _, List.forall_mem_nil _⟩
  · have load (ea : Ea) := fpLoadWord_outcomes (s' := s') (addr := addr) on0 on1 clear (nameable named) ea b
    simp only [loadsW, List.forall_mem_cons]
    exact ⟨load _, load _, List.forall_mem_nil _⟩
  · have load (ea : Ea) := fpLoadDword_writes (s' := s') (addr := addr) on0 on1 clear ea b r
    simp only [loadsD, List.forall_mem_cons]
    exact ⟨load _, load _, List.forall_mem_nil _⟩
  · have store (ea : Ea) :=
      fpStoreWord_stores (s' := s') (addr := addr) on0 on1 clear (nameable named) wf ea b
    simp only [storesW, List.forall_mem_cons]
    exact ⟨store _, store _, List.forall_mem_nil _⟩
  · have store (ea : Ea) := fpStoreDword_stores (s' := s') (addr := addr) on0 on1 clear other wf ea b
    simp only [storesD, List.forall_mem_cons]
    exact ⟨store _, store _, List.forall_mem_nil _⟩
  · subst zero
    have store (ea : Ea) := fpStoreDword_zero (s' := s') (addr := addr) on0 on1 wf ea b
    simp only [storesD, List.forall_mem_cons]
    exact ⟨store _, store _, List.forall_mem_nil _⟩

end Sys2Proof.Machine
end

/-! ### The performance monitor and the registers of the debug unit -/

section
namespace Sys2Proof.Machine

theorem perfmon_writes {s : State} (on : s.ccrBit 2#3 = true) (enabled : Bool) :
    Writes (perfmon s enabled) s { s with measurementEnabled := enabled } [] := by
  rw [perfmon, if_pos on]
  exact done_base_writes rfl rfl rfl rfl

theorem perfmon_disabled {s : State} (off : s.ccrBit 2#3 = false) (enabled : Bool) :
    Traps (perfmon s enabled) s 22 :=
  if_neg (ne_true_of_eq_false off)

theorem debugUnit_enabled {s : State} (on : s.scrBit 1#3 = true) (act : Out) : debugUnit s act = act :=
  if_pos on

theorem debugUnit_disabled {s : State} (off : s.scrBit 1#3 = false) (act : Out) :
    Traps (debugUnit s act) s 22 :=
  if_neg (ne_true_of_eq_false off)

theorem execDebugid_writes {s : State} (on : s.scrBit 1#3 = true) (t : Reg) :
    Writes (execDebugid t s) s s [(t, debugId s.cfg)] := by
  rw [execDebugid, debugUnit_enabled on]
  exact done_writes s t _

/-- A move from a file of which `count` registers exist (R896 to R899). -/
theorem fromDebug_outcomes {s : State} (on : s.scrBit 1#3 = true) (count r : BitVec 5)
    (file : Vector Word 32) (t : Reg) :
    (r < count → Writes (fromDebug s count r file t) s s [(t, readReg file r)]) ∧
    (count ≤ r → fromDebug s count r file t = .refused .debugRegister) := by
  rw [fromDebug, debugUnit_enabled on]
  refine ⟨fun present => ?_, fun absent => if_neg (Nat.not_lt.2 absent)⟩
  rw [if_pos (show r.toNat < count.toNat from present)]
  exact done_writes s t _

/-- A move to a file of which `count` registers exist (R900 to R903). -/
theorem toDebug_outcomes {s act : State} (on : s.scrBit 1#3 = true) (keeps : KeepsCommon s act)
    (count t : BitVec 5) (reserved value : Word) :
    (t < count → value &&& reserved ≠ 0#32 →
      toDebug s count t reserved value act = .refused .reservedBits) ∧
    (t < count → value &&& reserved = 0#32 → Writes (toDebug s count t reserved value act) s act []) ∧
    (count ≤ t → toDebug s count t reserved value act = .refused .debugRegister) := by
  rw [toDebug, debugUnit_enabled on]
  have exists_of (present : t < count) : ¬ count.toNat ≤ t.toNat := Nat.not_le.2 present
  refine ⟨fun present ones => ?_, fun present zeros => ?_, fun absent => if_pos absent⟩
  · rw [if_neg (exists_of present), if_pos ones]
  · rw [if_neg (exists_of present), if_neg (not_not.2 zeros)]
    exact keeps.completes_base false

end Sys2Proof.Machine
end

/-! ### Breakpoints -/

section
namespace Sys2Proof.Machine

/-- Two words have no common bit, with the bits counted from the right. -/
theorem and_eq_zero_iff_getLsbD (v m : Word) :
    v &&& m = 0#32 ↔ ∀ j, m.getLsbD j = true → v.getLsbD j = false := by
  rw [and_eq_zero_iff_mbit]
  refine ⟨fun apart j set => ?_, fun apart i _ => apart (31 - i)⟩
  have place : 31 - (31 - j) = j := Nat.sub_sub_self (Nat.le_of_lt_succ (BitVec.lt_of_getLsbD set))
  have clear := apart (31 - j) (by omega)
  rw [mbit, mbit, place] at clear
  exact clear set

/-- The address bit `j`, counted from the right, that a mask register excludes (R890). -/
def DebugMasked (c : Config) (amr : Word) (j : Nat) : Prop :=
  j < c.dbgMask.toNat ∧ amr.getLsbD j = true

theorem getLsbD_dbgMaskOf (c : Config) (amr : Word) (j : Nat) :
    (dbgMaskOf c amr).getLsbD j = true ↔ DebugMasked c amr j := by
  rw [dbgMaskOf, BitVec.getLsbD_and, BitVec.getLsbD_ofNat, Nat.testBit_two_pow_sub_one]
  simp only [Bool.and_eq_true, decide_eq_true_eq]
  constructor
  · rintro ⟨set, -, inside⟩
    exact ⟨inside, set⟩
  · rintro ⟨inside, set⟩
    exact ⟨set, inside.trans c.dbgMask.isLt, inside⟩

/-- A pair is defined where its offset register has no 1 under its mask (R890, U32). -/
theorem and_dbgMaskOf_eq_zero_iff (c : Config) (aor amr : Word) :
    aor &&& dbgMaskOf c amr = 0#32 ↔ ∀ j, DebugMasked c amr j → aor.getLsbD j = false := by
  simp only [and_eq_zero_iff_getLsbD, getLsbD_dbgMaskOf]

/-- A pair matches where the bits that its mask does not exclude agree (R890). -/
theorem dbgMatch_iff (c : Config) (addr aor amr : Word) :
    dbgMatch c addr aor amr = true ↔
      ∀ j, ¬ DebugMasked c amr j → addr.getLsbD j = aor.getLsbD j := by
  rw [dbgMatch, beq_iff_eq, and_eq_zero_iff_getLsbD]
  simp only [← getLsbD_dbgMaskOf, BitVec.getLsbD_not, BitVec.getLsbD_xor, Bool.and_eq_true,
    decide_eq_true_eq, Bool.not_eq_true', Bool.not_eq_true, bne_eq_false_iff_eq]
  refine ⟨fun agree j compared => ?_, fun agree j inside => agree j inside.2⟩
  by_cases inside : j < 32
  · exact agree j ⟨inside, compared⟩
  · rw [BitVec.getLsbD_of_ge _ _ (Nat.not_lt.1 inside), BitVec.getLsbD_of_ge _ _ (Nat.not_lt.1 inside)]

/-- With every enabled pair defined, the evaluation asks whether an enabled pair matches (R892, R893). -/
theorem evalBreakpoints_defined {c : Config} (addr : Word) {pairs : List (Bool × Word × Word)}
    (defined : ∀ p ∈ pairs, p.1 = true → p.2.1 &&& dbgMaskOf c p.2.2 = 0#32) :
    evalBreakpoints c addr pairs =
      if ∃ p ∈ pairs, p.1 = true ∧ dbgMatch c addr p.2.1 p.2.2 = true then .hit else .none := by
  induction pairs with
  | nil => simp [evalBreakpoints]
  | cons p rest ih =>
    obtain ⟨on, aor, amr⟩ := p
    obtain ⟨head, tail⟩ := List.forall_mem_cons.1 defined
    rw [evalBreakpoints, ih tail]
    cases on with
    | false => simp
    | true =>
      rw [if_pos rfl, if_neg (not_not.2 (head rfl))]
      by_cases hit : dbgMatch c addr aor amr = true <;> simp [hit]

/-- The pairs of two register files of which `count` exist. -/
theorem mem_take_zip_iff (count : BitVec 5) (aors amrs : Vector Word 32) (p : Word × Word) :
    p ∈ (aors.toList.zip amrs.toList).take count.toNat ↔
      ∃ r : Reg, r < count ∧ (readReg aors r, readReg amrs r) = p := by
  have within := count.isLt
  simp only [List.mem_take_iff_getElem, List.length_zip, Vector.length_toList, List.getElem_zip,
    Vector.getElem_toList]
  constructor
  · rintro ⟨j, present, rfl⟩
    have small : j < 32 := by omega
    refine ⟨BitVec.ofNatLT j small, ?_, rfl⟩
    show j < count.toNat
    omega
  · rintro ⟨r, present, rfl⟩
    have below : r.toNat < count.toNat := present
    exact ⟨r.toNat, by omega, rfl⟩

/-- The pairs that the checks evaluate: the first `count` of two files, of which a pair is enabled when
`enabled` says so of its mask register (R892, R893). -/
def debugPairs (count : BitVec 5) (aors amrs : Vector Word 32) (enabled : Word → Bool) :
    List (Bool × Word × Word) :=
  ((aors.toList.zip amrs.toList).take count.toNat).map fun p => (enabled p.2, p.1, p.2)

theorem mem_debugPairs_iff {count : BitVec 5} {aors amrs : Vector Word 32} {enabled : Word → Bool}
    {p : Bool × Word × Word} :
    p ∈ debugPairs count aors amrs enabled ↔
      ∃ r : Reg, r < count ∧ (enabled (readReg amrs r), readReg aors r, readReg amrs r) = p := by
  simp only [debugPairs, List.mem_map, mem_take_zip_iff]
  constructor
  · rintro ⟨_, ⟨r, present, rfl⟩, rfl⟩
    exact ⟨r, present, rfl⟩
  · rintro ⟨r, present, rfl⟩
    exact ⟨_, ⟨r, present, rfl⟩, rfl⟩

/-- What the breakpoints of two files give for an address, where no pair in use (`live`) is undefined. -/
def BreakpointIs (c : Config) (addr : Word) (aors amrs : Vector Word 32) (live : Reg → Prop)
    (o : Breakpoint) : Prop :=
  (∀ r, live r → ∀ j, DebugMasked c (readReg amrs r) j → (readReg aors r).getLsbD j = false) →
    ((∃ r, live r ∧ ∀ j, ¬ DebugMasked c (readReg amrs r) j →
      addr.getLsbD j = (readReg aors r).getLsbD j) → o = .hit) ∧
    ((∀ r, live r → ¬ ∀ j, ¬ DebugMasked c (readReg amrs r) j →
      addr.getLsbD j = (readReg aors r).getLsbD j) → o = .none)

theorem evalBreakpoints_debugPairs (c : Config) (addr : Word) (count : BitVec 5)
    (aors amrs : Vector Word 32) (enabled : Word → Bool) {live : Reg → Prop}
    (used : ∀ r, live r ↔ r < count ∧ enabled (readReg amrs r) = true) :
    BreakpointIs c addr aors amrs live
      (evalBreakpoints c addr (debugPairs count aors amrs enabled)) := by
  intro good
  have defined : ∀ p ∈ debugPairs count aors amrs enabled, p.1 = true →
      p.2.1 &&& dbgMaskOf c p.2.2 = 0#32 := by
    intro p pair on
    obtain ⟨r, present, rfl⟩ := mem_debugPairs_iff.1 pair
    exact (and_dbgMaskOf_eq_zero_iff ..).2 (good r ((used r).2 ⟨present, on⟩))
  rw [evalBreakpoints_defined addr defined]
  simp only [← dbgMatch_iff]
  constructor
  · rintro ⟨r, use, hits⟩
    obtain ⟨present, on⟩ := (used r).1 use
    exact if_pos ⟨_, mem_debugPairs_iff.2 ⟨r, present, rfl⟩, on, hits⟩
  · intro misses
    refine if_neg ?_
    rintro ⟨p, pair, on, hits⟩
    obtain ⟨r, present, rfl⟩ := mem_debugPairs_iff.1 pair
    exact misses r ((used r).2 ⟨present, on⟩) hits

/-- The data breakpoints are off without the unit, without PSW G and with PSW Y (R893). -/
theorem dataBreakpoint_off {s : State} (off : s.hasDebug = false ∨ s.pswG = false ∨ s.pswY = true)
    (k : Access) (addr : Word) : s.dataBreakpoint k addr = .none := by
  refine if_neg ?_
  rintro ⟨unit, g, y⟩
  rcases off with h | h | h <;> simp [h] at unit g y

/-- The instruction breakpoints are off without the unit, without PSW G and with PSW Z (R892). -/
theorem instrBreakpoint_off {s : State} (off : s.hasDebug = false ∨ s.pswG = false ∨ s.pswZ = true) :
    s.instrBreakpoint = .none := by
  refine if_neg ?_
  rintro ⟨unit, g, z⟩
  rcases off with h | h | h <;> simp [h] at unit g z

/-- A data breakpoint pair is in use when it is enabled for the access (R888). -/
theorem dataBreakpoint_on {s : State} (unit : s.hasDebug = true) (g : s.pswG = true)
    (y : s.pswY = false) (k : Access) (addr : Word) :
    BreakpointIs s.cfg addr s.dbaor s.dbamr
      (fun r => r < s.cfg.dbgDreg ∧ (mbit (readReg s.dbamr r) 0 = true ∧ k ≠ .store ∨
        mbit (readReg s.dbamr r) 1 = true ∧ k ≠ .load))
      (s.dataBreakpoint k addr) := by
  rw [State.dataBreakpoint, if_pos ⟨unit, g, by simp [y]⟩]
  exact evalBreakpoints_debugPairs s.cfg addr s.cfg.dbgDreg s.dbaor s.dbamr
    (fun amr => (mbit amr 0 && k != .store) || (mbit amr 1 && k != .load)) fun r => by simp

/-- An instruction breakpoint pair is in use when it is enabled (R889). -/
theorem instrBreakpoint_on {s : State} (unit : s.hasDebug = true) (g : s.pswG = true)
    (z : s.pswZ = false) :
    BreakpointIs s.cfg s.iaoqFront s.ibaor s.ibamr
      (fun r => r < s.cfg.dbgIreg ∧ mbit (readReg s.ibamr r) 0 = true) s.instrBreakpoint := by
  rw [State.instrBreakpoint, if_pos ⟨unit, g, by simp [z]⟩]
  exact evalBreakpoints_debugPairs s.cfg s.iaoqFront s.cfg.dbgIreg s.ibaor s.ibamr (fun amr => mbit amr 0)
    fun r => Iff.rfl

/-- Settles O60: one rule for each kind of move, and one for the breakpoints of a file. -/
theorem monitorAndDebugUnit : Obligations.MonitorAndDebugUnit := by
  refine ⟨fun s => ⟨fun on => ⟨perfmon_writes on true, perfmon_writes on false⟩,
      fun off => ⟨perfmon_disabled off true, perfmon_disabled off false⟩⟩,
    fun s r t off => ?_, fun s r t on => ⟨?_, ?_, ?_⟩, fun s k addr => ?_⟩
  · have traps (act : Out) := debugUnit_disabled off act
    simp only [List.forall_mem_cons]
    exact ⟨traps _, traps _, traps _, traps _, traps _, traps _, traps _, traps _, traps _,
      List.forall_mem_nil _⟩
  · exact execDebugid_writes on t
  · have moves (count : BitVec 5) (file : Vector Word 32) := fromDebug_outcomes on count r file t
    simp only [List.forall_mem_cons]
    exact ⟨moves _ _, moves _ _, moves _ _, moves _ _, List.forall_mem_nil _⟩
  · have moves {act : State} (keeps : KeepsCommon s act) (count : BitVec 5) (reserved : Word) :=
      toDebug_outcomes on keeps count t reserved (s.gr r)
    simp only [List.forall_mem_cons]
    refine ⟨moves ?_ _ _, moves ?_ _ _, moves ?_ _ _, moves ?_ _ _, List.forall_mem_nil _⟩
    all_goals exact ⟨rfl, rfl, rfl, rfl⟩
  · exact ⟨fun off => dataBreakpoint_off off k addr, instrBreakpoint_off,
      fun unit g y => dataBreakpoint_on unit g y k addr, instrBreakpoint_on⟩

end Sys2Proof.Machine
end

/-! ### The round trip of every instruction -/

section
namespace Sys2Proof.Laws.Roundtrip

/-- Every instruction makes the round trip: the recursor takes the lemma of each constructor, in the order in
which `Instr` declares them. -/
theorem statement_of_instr : ∀ i : Instr, Statement i :=
  @Instr.rec Statement
    ldw ldh ldb ldwm stw sth stb stwm ldwx ldhx ldbx ldcwx ldwax ldws ldhs ldbs ldcws ldwas stws stbys
    sths stbs stwas ldo ldil addil bl gate blr bv be ble movb combt combf addbt addbf movib comibt
    comibf addibt addibf bvb bb add addl addo addc addco sh1add sh1addl sh1addo sh2add sh2addl sh2addo
    sh3add sh3addl sh3addo sub subo subb subbo subt subto ds comclr or xor and andcm uxor uaddcm uaddcmt
    dcor idcor addi addio addit addito subi subio comiclr vshd shd vextru vextrs extru extrs zvdep vdep
    zdep dep zvdepi vdepi zdepi depi breakTrap sync syncdma rfi rfir ssm rsm mtsm ldsid mtsp mfsp mtctl
    mfctl idtlba idtlbp pdtlb pdtlbe fdc fdce pdc prober proberi probew probewi lpa lci iitlba iitlbp
    pitlb pitlbe fic fice diag spop0 spop1 spop2 spop3 copr cldwx clddx cstwx cstdx cldws cldds cstws
    cstds fldwx fstwx flddx fstdx fldws fstws fldds fstds copr00 fcpy fcpy0E fabs fabs0E fsqrt fsqrt0E
    frnd frnd0E fcnvff fcnvff0E fcnvxf fcnvxf0E fcnvfx fcnvfx0E fcnvfxt fcnvfxt0E fcmp fcmp0E ftest fadd
    fadd0E fsub fsub0E fmpy fmpy0E fdiv fdiv0E xmpyu fmpyadd fmpysub pmdis pmenb debugid mfdbao mfdbam
    mfibao mfibam mtdbao mtdbam mtibao mtibam

end Sys2Proof.Laws.Roundtrip
end

/-! ### What the decoder answers -/

section
namespace Sys2Proof.Machine

/-- Settles O1: the round trip of each constructor. -/
theorem encodeThenDecode : Obligations.EncodeThenDecode := Laws.Roundtrip.statement_of_instr

/-- Settles O3: the decoder evaluates on each word. -/
theorem decodeWords : Obligations.DecodeWords := ⟨rfl, rfl, rfl, rfl, rfl, rfl⟩

/-- A field of a field. -/
theorem extractLsb'_field (w : Word) {i n k m : Nat} (within : k + m ≤ n) (inside : i + n ≤ 32) :
    (field w i n).extractLsb' k m = field w (i + n - k - m) m := by
  rw [field, extractLsb'_extractLsb' w within, field]
  congr 1
  omega

/-- A field is zero exactly when its left and its right part are. -/
theorem field_add_eq_zero_iff (w : Word) {i n m : Nat} (inside : i + n + m ≤ 32) :
    field w i (n + m) = 0#(n + m) ↔ field w i n = 0#n ∧ field w (i + n) m = 0#m := by
  have right : 32 - i - n = 32 - i - (n + m) + m := by omega
  have end_ : 32 - (i + n) - m = 32 - i - (n + m) := by omega
  rw [field_eq_zero_iff, field_eq_zero_iff, field_eq_zero_iff, right, end_, pow_add 2 (32 - i - (n + m)),
    ← Nat.div_div_eq_div_mul, Nat.add_comm n m, pow_add, Nat.mod_mul]
  simp [and_comm]

/-- Bit 18 tells the debug SFU's moves, codes 4 to 7, from the other codes of bits 18 to 20. -/
theorem field_eighteen_iff (w : Word) : field w 18 1 = 1#1 ↔ 4 ≤ (field w 18 3).toNat := by
  rw [← extractLsb'_field w (i := 18) (n := 3) (k := 2) (m := 1) (by omega) (by omega)]
  generalize field w 18 3 = x
  revert x
  decide

/-- The words of major opcode 04, format 1, that the debug SFU leaves to SPOP1, by the fields that the decoder
reads (R354). -/
theorem takenByDebug1_eq_false_iff (w : Word) (sfu : BitVec 3) (n : BitVec 1) :
    takenByDebug1 (field w 6 15) sfu n = false ↔
      (sfu = 1#3 ∧ n = 0#1 → ¬ (field w 6 12 = 0#12 ∧ field w 18 3 = 0#3) ∧ (field w 18 3).toNat < 4) := by
  have zero : field w 6 15 = 0#15 ↔ field w 6 12 = 0#12 ∧ field w 18 3 = 0#3 :=
    field_add_eq_zero_iff w (i := 6) (n := 12) (m := 3) (by omega)
  have taken : takenByDebug1 (field w 6 15) sfu n = true ↔ (sfu = 1#3 ∧ n = 0#1) ∧
      (field w 6 12 = 0#12 ∧ field w 18 3 = 0#3 ∨ 4 ≤ (field w 18 3).toNat) := by
    simp [takenByDebug1, extractLsb'_field, zero, field_eighteen_iff]
  rw [← Bool.not_eq_true, taken, not_and, not_or, Nat.not_le]

/-- The words of format 2 that it leaves to SPOP2. -/
theorem takenByDebug2_eq_false_iff (w : Word) (sfu : BitVec 3) (n : BitVec 1) :
    takenByDebug2 (field w 11 10) sfu n = false ↔
      (sfu = 1#3 ∧ n = 0#1 → (field w 18 3).toNat < 4) := by
  have taken : takenByDebug2 (field w 11 10) sfu n = true ↔
      (sfu = 1#3 ∧ n = 0#1) ∧ 4 ≤ (field w 18 3).toNat := by
    simp [takenByDebug2, extractLsb'_field, field_eighteen_iff]
  rw [← Bool.not_eq_true, taken, not_and, Nat.not_le]

/-- The values of a two-bit and of a three-bit field. -/
theorem bits2_cases : ∀ x : BitVec 2, x = 0#2 ∨ x = 1#2 ∨ x = 2#2 ∨ x = 3#2 := by decide

theorem bits3_cases : ∀ x : BitVec 3,
    x = 0#3 ∨ x = 1#3 ∨ x = 2#3 ∨ x = 3#3 ∨ x = 4#3 ∨ x = 5#3 ∨ x = 6#3 ∨ x = 7#3 := by decide

/-- The words of major opcode 0C that the floating-point rows leave to COPR: class by class (bits 21 and 22),
and in each class sub-operation by sub-operation (R350). -/
theorem takenByFloat_eq_false_iff (w : Word) :
    takenByFloat (field w 6 17) (field w 26 1) (field w 27 5) = false ↔ decodeFloat0C w = none := by
  have zero : field w 6 17 = 0#17 ↔
      ((field w 6 10 = 0#10 ∧ field w 16 3 = 0#3) ∧ field w 19 2 = 0#2) ∧ field w 21 2 = 0#2 := by
    rw [field_add_eq_zero_iff w (i := 6) (n := 15) (m := 2) (by omega),
      field_add_eq_zero_iff w (i := 6) (n := 13) (m := 2) (by omega),
      field_add_eq_zero_iff w (i := 6) (n := 10) (m := 3) (by omega)]
  rcases bits2_cases (field w 21 2) with cl | cl | cl | cl
  · rcases bits3_cases (field w 16 3) with sub | sub | sub | sub | sub | sub | sub | sub
    all_goals simp [decodeFloat0C, takenByFloat, extractLsb'_field, cl, sub, zero]
    all_goals tauto
  · rcases bits2_cases (field w 15 2) with sub | sub | sub | sub
    all_goals simp [decodeFloat0C, takenByFloat, extractLsb'_field, cl, sub]
    all_goals tauto
  · rcases bits3_cases (field w 16 3) with sub | sub | sub | sub | sub | sub | sub | sub
    all_goals simp [decodeFloat0C, takenByFloat, extractLsb'_field, cl, sub]
    all_goals tauto
  · rcases bits3_cases (field w 16 3) with sub | sub | sub | sub | sub | sub | sub | sub
    all_goals simp [decodeFloat0C, takenByFloat, extractLsb'_field, cl, sub]

/-- Every instruction that a decoder may answer is well formed. -/
def DecodesWf (o : Option Instr) : Prop := ∀ i, o = some i → i.wf = true

@[simp] theorem decodesWf_none : DecodesWf none := nofun

@[simp] theorem decodesWf_some (i : Instr) : DecodesWf (some i) ↔ i.wf = true :=
  ⟨fun h => h i rfl, fun h _ e => Option.some.inj e ▸ h⟩

/-- The tables of the decoder whose instructions are well formed whatever their operands are: each is split
into its rows. -/
theorem decodesWf_plain_tables (w : Word) :
    ∀ o ∈ [decodeSystem w, decodeMemMgmt w, decodeArith w, decodeIndexMem w, decodeComiclr w, decodeSubi w,
      decodeAddit w, decodeAddi w, decodeExtract w, decodeDeposit w, decodeBranch w, decodeFloat0C w,
      decodeFloat0E w], DecodesWf o := by
  unfold decodeSystem decodeMemMgmt decodeArith decodeIndexMem decodeComiclr decodeSubi decodeAddit decodeAddi
    decodeExtract decodeDeposit decodeBranch decodeFloat0C decodeFloat0E
  simp only [List.forall_mem_cons]
  refine ⟨?_, ?_, ?_, ?_, ?_, ?_, ?_, ?_, ?_, ?_, ?_, ?_, ?_, List.forall_mem_nil _⟩
  all_goals
    repeat' split
    all_goals simp [Instr.wf]

/-- The words of major opcode 04: by their format (bits 21 and 22), and in the formats 1 and 2 of the debug
SFU by bits 18 to 20 (R349, R354). -/
theorem decodesWf_decodeSpop (w : Word) : DecodesWf (decodeSpop w) := by
  rcases bits2_cases (field w 21 2) with form | form | form | form
  · simp [decodeSpop, form, Instr.wf]
  · by_cases debug : field w 23 3 = 1#3 ∧ field w 26 1 = 0#1
    · by_cases zero : field w 6 12 = 0#12
      all_goals
        rcases bits3_cases (field w 18 3) with code | code | code | code | code | code | code | code
        all_goals simp [decodeSpop, form, debug, zero, code, Instr.wf, takenByDebug1_eq_false_iff]
    · simp [decodeSpop, form, debug, Instr.wf, takenByDebug1_eq_false_iff]
  · by_cases debug : field w 23 3 = 1#3 ∧ field w 26 1 = 0#1
    · rcases bits3_cases (field w 18 3) with code | code | code | code | code | code | code | code
      all_goals simp [decodeSpop, form, debug, code, Instr.wf, takenByDebug2_eq_false_iff]
    · simp [decodeSpop, form, debug, Instr.wf, takenByDebug2_eq_false_iff]
  · simp [decodeSpop, form, Instr.wf]

/-- The units 0 and 1 are those with bits 23 and 24 zero (R348). -/
theorem field_unit_iff (w : Word) : field w 23 2 = 0#2 ↔ field w 23 3 = 0#3 ∨ field w 23 3 = 1#3 := by
  rw [← extractLsb'_field w (i := 23) (n := 3) (k := 1) (m := 2) (by omega) (by omega)]
  generalize field w 23 3 = x
  revert x
  decide

/-- The general rows of major opcode 09 come after the floating-point ones, which take the units 0 and 1. -/
theorem decodesWf_decodeCoprWord (w : Word) : DecodesWf (decodeCoprWord w) := by
  unfold decodeCoprWord
  repeat' split
  all_goals simp_all [Instr.wf, field_unit_iff]

/-- Those of major opcode 0B come after the ones that take the unit 0. -/
theorem decodesWf_decodeCoprDword (w : Word) : DecodesWf (decodeCoprDword w) := by
  unfold decodeCoprDword
  repeat' split
  all_goals simp_all [Instr.wf]

/-- COPR comes after the floating-point rows of unit 0 and the performance monitor's of unit 2 (R350, R353). -/
theorem decodesWf_decodeCopr (w : Word) : DecodesWf (decodeCopr w) := by
  have float : DecodesWf (decodeFloat0C w) := decodesWf_plain_tables w _ (by simp)
  rcases bits3_cases (field w 23 3) with uid | uid | uid | uid | uid | uid | uid | uid
  case inl =>
    cases row : decodeFloat0C w with
    | some i => simpa [decodeCopr, uid, row] using float
    | none => simp [decodeCopr, uid, row, Instr.wf, takenByFloat_eq_false_iff]
  case inr.inr.inl =>
    by_cases dis : field w 18 5 = 1#5 ∧ field w 26 1 = 0#1
    · simp [decodeCopr, uid, dis, Instr.wf]
    · by_cases enb : field w 18 5 = 3#5 ∧ field w 26 1 = 0#1
      · simp [decodeCopr, uid, enb, Instr.wf]
      · simp [decodeCopr, uid, dis, enb, Instr.wf, takenByPerfmon, extractLsb'_field]
        tauto
  all_goals simp [decodeCopr, uid, Instr.wf]

/-- The major opcodes: a table, or one instruction that is well formed whatever its operands are. -/
theorem decodesWf_decode (w : Word) : DecodesWf (decode w) := by
  have plain := decodesWf_plain_tables w
  simp only [List.forall_mem_cons] at plain
  unfold decode
  split
  all_goals simp [plain, decodesWf_decodeSpop, decodesWf_decodeCoprWord, decodesWf_decodeCoprDword,
    decodesWf_decodeCopr, Instr.wf]

/-- Settles O2: a decoded instruction is well formed, so it makes the round trip. -/
theorem decodedIsWellFormed : Obligations.DecodedIsWellFormed := by
  intro w i decoded
  have wf := decodesWf_decode w i decoded
  exact ⟨wf, encodeThenDecode i wf⟩

end Sys2Proof.Machine
end

/-! ### The step: pending interruptions, the instruction, the traps of group 4 -/

section
namespace Sys2Proof.Machine

/-- A step at whose boundary nothing is pending runs the instruction that is not nullified (R915). -/
theorem step_running {s : State} (running : machineCheckStop s.takeInput = false)
    (idle : pendingInterruption s.takeInput = none) (kept : s.takeInput.pswN = false) :
    step s = elapse (runInstruction s.takeInput) := by
  unfold step cycle act
  rw [running, idle]
  simp only [kept]
  rfl

/-- A fetched word is executed (R915 step 3b). -/
theorem runInstruction_fetched {s s' : State} {w : Word} (fetched : s.fetch = .ok (s', w)) :
    runInstruction s = runWord s' w := by
  simp only [runInstruction, fetched]

theorem runWord_some {s : State} {w : Word} {i : Instr} (decoded : decode w = some i) :
    runWord s w = exec i { s with iword := w } := by
  simp only [runWord, decoded]

/-- A word that is no instruction, outside major opcode 0E (R19, R301). -/
theorem runWord_none {s : State} {w : Word} (undecoded : decode w = none)
    (outside : field w 0 6 ≠ 0x0E#6) :
    runWord s w = .next (take 8 (.instr w) { s with iword := w, relied := none }) := by
  simp only [runWord, undecoded, undefinedWord, if_neg outside]
  rfl

/-- Settles O4: the step runs the fetched word, then the timer. -/
theorem stepRunsDecoded : Obligations.StepRunsDecoded := by
  intro s s' w running idle kept fetched
  have stepped : step s = elapse (runWord s' w) := by
    rw [step_running running idle kept, runInstruction_fetched fetched]
  refine ⟨fun i decoded => ?_, fun undecoded outside => ?_⟩
  · rw [stepped, runWord_some decoded]
    refine ⟨rfl, fun t next => ?_⟩
    rw [next, elapse]
  · rw [stepped, runWord_none undecoded outside, elapse]

/-- Settles O6: the interruptions of the groups 1 and 2 are an ordered chain of tests, each looked at where
the tests before it fail. -/
theorem pendingInterruptionsInOrder : Obligations.PendingInterruptionsInOrder := by
  intro s
  refine ⟨fun m hpmc => ?_, fun unstopped n pending => ?_, fun m hpmc => ?_, fun no1 => ?_⟩
  · simp [step, cycle, machineCheckStop, m, hpmc]
  · have running : machineCheckStop s.takeInput = false := Bool.and_eq_false_iff.2 unstopped
    simp only [step, cycle, act, running, pending, elapse, Bool.false_eq_true, if_false]
  · simp [pendingInterruption, m, hpmc]
  · have no1 : (!s.pswM && s.pendHpmc) = false :=
      Bool.and_eq_false_iff.2 (no1.imp_left (congrArg not))
    refine ⟨fun i power => by simp [pendingInterruption, no1, i, power], fun no2 => ?_⟩
    have no2 : (s.pswI && s.pendPowerFail) = false := Bool.and_eq_false_iff.2 no2
    refine ⟨fun r minus => by simp [pendingInterruption, no1, no2, r, minus], fun no3 => ?_⟩
    have no3 : (s.pswR && mbit s.rctr 0) = false := Bool.and_eq_false_iff.2 no3
    have no2I : s.pswI = true → s.pendPowerFail = false := fun i => by simpa [i] using no2
    refine ⟨fun i external => by simp [pendingInterruption, no1, no2I i, no3, i, external],
      fun i none4 lpmc => by simp [pendingInterruption, no1, no2I i, no3, i, none4, lpmc], fun no45 => ?_⟩
    have no4 : (s.pswI && s.eirr &&& s.eiem != 0#32) = false := by
      rcases no45 with i | ⟨external, -⟩ <;> simp [*]
    have no5 : (s.pswI && s.pendLpmc) = false := by
      rcases no45 with i | ⟨-, lpmc⟩ <;> simp [*]
    refine ⟨fun f perfmon => by simp [pendingInterruption, no1, no2, no3, no4, no5, f, perfmon],
      fun no29 => ?_⟩
    have no29 : (s.pswF && s.pendPerfmon) = false := Bool.and_eq_false_iff.2 no29
    simp [pendingInterruption, no1, no2, no3, no4, no5, no29]

/-- Settles O8: each trap of group 4 is looked at where the ones before it are not taken. -/
theorem transferTraps : Obligations.TransferTraps := by
  intro s w lower taken
  refine ⟨fun down l low => if_pos ⟨down, l, low⟩, fun up h => ?_, fun lowerOff higherOff => ?_⟩
  · exact (if_neg fun ⟨down, _⟩ => Nat.lt_asymm down up).trans (if_pos ⟨up, h⟩)
  · have no24 : ¬ (s.rank s.priv < s.rank w.priv ∧ s.pswL = true ∧ lower = true) := by
      rintro ⟨down, l, low⟩
      simpa [l, low] using lowerOff down
    have no23 : ¬ (s.rank w.priv < s.rank s.priv ∧ s.pswH = true) := by
      rintro ⟨up, h⟩
      simpa [h] using higherOff up
    have taken25 : group4 s w lower taken = if taken ∧ s.pswT then take 25 .none w else w :=
      (if_neg no24).trans (if_neg no23)
    refine ⟨fun branch t => taken25.trans (if_pos ⟨branch, t⟩), fun off => taken25.trans (if_neg ?_)⟩
    rintro ⟨branch, t⟩
    simp [branch, t] at off

end Sys2Proof.Machine
end

/-! ### Taking an interruption, and the return from it -/

section
namespace Sys2Proof.Machine

/-- The PSW at entry, bit by bit (R930). -/
theorem mbit_entryPsw (s : State) (n i : Nat) (hi : i < 32) :
    mbit (entryPsw s n) i = ((i == 5 && s.cfg.hasPswE && s.defaultEndian) || (i == 15 && n == 1)) := by
  have zero : mbit 0#32 i = false := BitVec.getLsbD_zero
  rw [entryPsw, mbit_setMbit _ _ _ _ (by omega) hi, mbit_setMbit _ _ _ _ (by omega) hi, zero]
  by_cases h15 : i = 15
  · subst h15
    rfl
  · by_cases h5 : i = 5
    · subst h5
      simp
    · simp [h5, h15]

/-- A handler starts at privilege level 0 (R930): the handlers are 32 bytes apart, and the low bits of IVA are
not used. -/
theorem privOf_vector (iva : Word) (n : Nat) : privOf (vector iva n) = 0#2 := by
  have table : (field iva 0 21 ++ 0#11 : Word).toNat = (field iva 0 21).toNat * 2 ^ 11 := by
    rw [BitVec.toNat_append, BitVec.toNat_ofNat, Nat.zero_mod, Nat.or_zero, Nat.shiftLeft_eq]
  rw [privOf, field_eq_zero_iff, vector, BitVec.toNat_add, table, BitVec.toNat_ofNat]
  omega

/-- Where the reserved bits of IVA are 0 the handlers lie from IVA on (R91, R931). -/
theorem vector_of_aligned {iva : Word} (aligned : iva &&& 0x7FF#32 = 0#32) (n : Nat) :
    vector iva n = iva + BitVec.ofNat 32 (32 * n) := by
  have low : field iva 21 11 = 0#11 := (field_low_eleven_iff iva).2 aligned
  have whole : field iva 0 21 ++ field iva 21 11 = iva := extractLsb'_append_self (n := 21) (m := 11) iva
  rw [low] at whole
  rw [vector, whole]

/-- The interruption registers after an interruption taken while PSW Q is 1 (R930). -/
theorem take_interruption_registers {s : State} (q : s.pswQ = true) (n : Nat) (p : IntParams) :
    let t := take n p s
    t.iiaoqFront = s.iaoqFront ∧ t.iiaoqBack = s.iaoqBack ∧
      (∀ x, p.iir = some x → t.iir = x) ∧ (∀ x, p.ior = some x → t.ior = x) ∧
      (s.level0 = false → ∀ x, p.isr = some x → t.isr = x) ∧
      (s.pswC = true → t.iiasqFront = s.iasqFront ∧ t.iiasqBack = s.iasqBack) := by
  refine ⟨?_, ?_, fun x iir => ?_, fun x ior => ?_, fun level x isr => ?_, fun c => ?_⟩
  · simp [take, q]
  · simp [take, q]
  · simp [take, q, iir]
  · simp [take, q, ior]
  · simp [take, q, level, isr]
  · simp [take, q, c, level0_of_pswC c]

/-- Settles O13: the PSW at entry and the handler's address are `entryPsw` and `vector`; the rest is the
record that `take` writes. -/
theorem takeSavesAndVectors : Obligations.TakeSavesAndVectors := by
  intro n p s _ aligned
  refine ⟨rfl, mbit_entryPsw s n, privOf_vector s.iva n, vector_of_aligned aligned n, rfl, rfl,
    fun q => take_interruption_registers q n p, fun q => ?_, rfl⟩
  simp [take, q]

/-- A PSW bit that entry clears (R930): all but E and M. -/
theorem mbit_take_psw (n : Nat) (p : IntParams) (s : State) {i : Nat} (hi : i < 32) (notE : i ≠ 5)
    (notM : i ≠ 15) : mbit (take n p s).psw i = false := by
  show mbit (entryPsw s n) i = false
  rw [mbit_entryPsw s n i hi]
  simp [notE, notM]

/-- The traps of group 4 are off in a handler (R930). -/
theorem take_calm (n : Nat) (p : IntParams) (s : State) : (take n p s).calm :=
  ⟨mbit_take_psw n p s (i := 8) (by omega) (by omega) (by omega),
    mbit_take_psw n p s (i := 9) (by omega) (by omega) (by omega),
    mbit_take_psw n p s (i := 7) (by omega) (by omega) (by omega)⟩

/-- Settles O15: RFI in the handler's first state is a return with PSW Q 0 at privilege level 0, IPSW Q being
the Q-bit that was saved. -/
theorem takeThenRfiReturns : Obligations.TakeThenRfiReturns := by
  intro n p s q
  have entryQ : (take n p s).pswQ = false := mbit_take_psw n p s (i := 28) (by omega) (by omega) (by omega)
  have entryR : (take n p s).pswR = false := mbit_take_psw n p s (i := 27) (by omega) (by omega) (by omega)
  obtain ⟨w, -, next, psw, front, back, spaces, -, rctr, frame, -⟩ :=
    returnFromInterruption_holds.1 (take n p s) (privOf_vector s.iva n) entryQ
  obtain ⟨savedFront, savedBack, -, -, -, savedSpaces⟩ := take_interruption_registers q n p
  have kept := frame q
  rw [entryR] at rctr
  refine ⟨w, next (take_calm n p s), psw, front.trans savedFront, back.trans savedBack, fun c => ?_, ?_, ?_,
    ?_, rctr, ?_⟩
  · have above : s.level0 = false := level0_of_pswC c
    obtain ⟨spaceFront, spaceBack⟩ := spaces above
    obtain ⟨savedFront, savedBack⟩ := savedSpaces c
    exact ⟨spaceFront.trans savedFront, spaceBack.trans savedBack⟩
  all_goals
    rw [kept]
    rfl

end Sys2Proof.Machine
end

/-! ### Reading control registers back -/

section
namespace Sys2Proof.Machine

/-- What MTCTL writes, field by field: the shape of `State.setCr` that reading back needs (R643). -/
theorem setCr_eq (s : State) {n : Nat} (hn : n < 32) (v : Word) : s.setCr n v = { s with
    rctr := if n = 0 then v else s.rctr
    pid1 := if n = 8 then v &&& pidMask s.cfg else s.pid1
    pid2 := if n = 9 then v &&& pidMask s.cfg else s.pid2
    scr := if n = 10 then field v 16 8 &&& scrPresent s.cfg else s.scr
    ccr := if n = 10 then field v 24 8 &&& ccrPresent s.cfg else s.ccr
    sar := if n = 11 then field v 27 5 else s.sar
    pid3 := if n = 12 then v &&& pidMask s.cfg else s.pid3
    pid4 := if n = 13 then v &&& pidMask s.cfg else s.pid4
    iva := if n = 14 then v else s.iva
    eiem := if n = 15 then v else s.eiem
    itmrCmp := if n = 16 then v else s.itmrCmp
    iiasqFront := if n = 17 then s.iiasqBack else s.iiasqFront
    iiasqBack := if n = 17 then v else s.iiasqBack
    iiaoqFront := if n = 18 then s.iiaoqBack else s.iiaoqFront
    iiaoqBack := if n = 18 then v else s.iiaoqBack
    ipsw := if n = 22 then v else s.ipsw
    eirr := if n = 23 then s.eirr &&& ~~~v else s.eirr
    trs := if 24 ≤ n then writeReg8 s.trs (BitVec.ofNat 3 n) v else s.trs } := by
  interval_cases n <;> rfl

/-- The temporary registers (R98). -/
theorem cr_temporary (s : State) {k : Nat} (low : 24 ≤ k) (hk : k < 32) :
    s.cr k = readReg8 s.trs (BitVec.ofNat 3 k) := by
  interval_cases k <;> rfl

/-- The numbers of two temporary registers are told apart by their last three bits. -/
theorem temporary_ne {n k : Nat} (hn : 24 ≤ n ∧ n < 32) (hk : 24 ≤ k ∧ k < 32) (other : k ≠ n) :
    BitVec.ofNat 3 k ≠ BitVec.ofNat 3 n := by
  intro same
  have := congrArg BitVec.toNat same
  simp only [BitVec.toNat_ofNat] at this
  omega

/-- A write of a control register leaves the others as they read. -/
theorem cr_setCr_of_ne (s : State) {n k : Nat} (hn : n < 32) (hk : k < 32) (other : k ≠ n) (v : Word) :
    (s.setCr n v).cr k = s.cr k := by
  rw [setCr_eq s hn]
  rcases Nat.lt_or_ge k 24 with below | temporary
  · interval_cases k
    all_goals simp [State.cr, other.symm]
  · rw [cr_temporary _ temporary hk, cr_temporary s temporary hk]
    dsimp only
    split
    next low => rw [readReg8_writeReg8, if_neg (temporary_ne ⟨low, hn⟩ ⟨temporary, hk⟩ other)]
    next => rfl

/-- The registers that keep all 32 bits (R86, R91 to R98). -/
theorem cr_setCr_whole (s : State) {n : Nat} (whole : n ∈ [0, 14, 15, 22, 24, 25, 26, 27, 28, 29, 30, 31])
    (v : Word) : (s.setCr n v).cr n = v := by
  rcases Nat.lt_or_ge n 24 with below | temporary
  · have : n = 0 ∨ n = 14 ∨ n = 15 ∨ n = 22 := by simp at whole; omega
    rcases this with rfl | rfl | rfl | rfl <;> rfl
  · have hn : n < 32 := by simp at whole; omega
    rw [setCr_eq s hn, cr_temporary _ temporary hn]
    dsimp only
    rw [if_pos temporary, readReg8_writeReg8, if_pos rfl]

/-- CR 10 keeps the bits of the units that exist (R88, R89). -/
theorem cr_setCr_ten (s : State) (v : Word) :
    (s.setCr 10 v).cr 10 = v &&& (0#16 ++ scrPresent s.cfg ++ ccrPresent s.cfg : Word) := by
  have left : field v 0 16 ++ field v 16 8 = v.extractLsb' 8 24 :=
    BitVec.extractLsb'_append_extractLsb'_eq_extractLsb' (by omega)
  have parts : field v 0 16 ++ field v 16 8 ++ field v 24 8 = v := by
    rw [left]
    exact extractLsb'_append_self (n := 24) (m := 8) v
  show 0#16 ++ (field v 16 8 &&& scrPresent s.cfg) ++ (field v 24 8 &&& ccrPresent s.cfg) = _
  conv_rhs => rw [← parts, BitVec.and_append, BitVec.and_append, BitVec.and_zero]

/-- CR 11 keeps five bits (R90). -/
theorem cr_setCr_eleven (s : State) (v : Word) : (s.setCr 11 v).cr 11 = v &&& 0x1F#32 := by
  apply BitVec.eq_of_toNat_eq
  rw [BitVec.toNat_and]
  show (zeroExt (field v 27 5)).toNat = v.toNat &&& (2 ^ 5 - 1)
  rw [Nat.and_two_pow_sub_one_eq_mod]
  simp [zeroExt, field]
  omega

/-- Settles O42: each register reads back as what its write kept. -/
theorem controlRegistersReadBack : Obligations.ControlRegistersReadBack := by
  intro s n k v w hn hk
  refine ⟨fun whole => cr_setCr_whole s whole v, fun pid => ?_, ?_, ?_, rfl, rfl, rfl, rfl, rfl, rfl, rfl,
    fun other => cr_setCr_of_ne s hn hk other v⟩
  · simp only [List.mem_cons, List.not_mem_nil, or_false] at pid
    rcases pid with rfl | rfl | rfl | rfl <;> rfl
  · exact cr_setCr_ten s v
  · exact cr_setCr_eleven s v

end Sys2Proof.Machine
end

/-! ### Shift, extract and deposit as numbers and bits -/

section
namespace Sys2Proof.Machine

/-- The doubleword that SHD shifts, as a number (R603). -/
theorem toNat_shiftDouble (a b : Word) (sa : Nat) :
    (shiftDouble a b sa).toNat = (a.toNat % 2 ^ 31 * 2 ^ 32 + b.toNat) / 2 ^ sa % 2 ^ 32 := by
  have left : (field a 1 31).toNat = a.toNat % 2 ^ 31 := by simp [field]
  rw [shiftDouble, BitVec.toNat_setWidth, BitVec.toNat_ushiftRight, BitVec.toNat_append, left,
    ← Nat.shiftLeft_add_eq_or_of_lt b.isLt, Nat.shiftLeft_eq, Nat.shiftRight_eq_div_pow]

theorem toNat_lowMask {len : Nat} (le : len ≤ 32) : (lowMask len).toNat = 2 ^ len - 1 := by
  have bound := Nat.pow_le_pow_right (n := 2) (by omega) le
  rw [lowMask, BitVec.toNat_ofNat, Nat.mod_eq_of_lt (by omega)]

theorem getLsbD_lowMask {len : Nat} (le : len ≤ 32) (j : Nat) :
    (lowMask len).getLsbD j = decide (j < len) := by
  rw [← BitVec.testBit_toNat, toNat_lowMask le, Nat.testBit_two_pow_sub_one]

/-- An extracted field is the quotient's remainder (R605). -/
theorem toNat_extractUnsigned (v : Word) (pos : Nat) {len : Nat} (le : len ≤ 32) :
    (extractUnsigned v pos len).toNat = v.toNat / 2 ^ (31 - pos) % 2 ^ len := by
  rw [extractUnsigned, BitVec.toNat_and, toNat_lowMask le, Nat.and_two_pow_sub_one_eq_mod,
    BitVec.toNat_ushiftRight, Nat.shiftRight_eq_div_pow]

/-- The low bits of a word moved to its left edge and back: they are read as a signed number. -/
theorem toInt_shiftLeft_sshiftRight (x : Word) {len : Nat} (one : 1 ≤ len) (le : len ≤ 32) :
    ((x <<< (32 - len)).sshiftRight (32 - len)).toInt = x.toInt.bmod (2 ^ len) := by
  have width : 2 ^ 32 = 2 ^ (32 - len) * 2 ^ len := by rw [← pow_add, Nat.sub_add_cancel le]
  have positive : 0 < 2 ^ (32 - len) := by positivity
  have even : 2 ∣ 2 ^ len := dvd_pow_self 2 (by omega)
  have unsigned : x.toInt.bmod (2 ^ len) = (x.toNat : Int).bmod (2 ^ len) := by
    rw [BitVec.toInt_eq_toNat_bmod, Int.bmod_bmod_of_dvd (pow_dvd_pow 2 le)]
  rw [BitVec.toInt_sshiftRight, BitVec.toInt_shiftLeft, Int.shiftRight_eq_div_pow, Nat.shiftLeft_eq,
    Nat.mul_comm, Nat.cast_mul, width, Int.mod_bmod_mul_of_pos _ _ positive even, unsigned]
  exact Int.mul_ediv_cancel_left _ (by exact_mod_cast positive.ne')

/-- A sign extended field is the shifted signed number, read in `len` bits (R606). -/
theorem toInt_extractSigned (v : Word) (pos : Nat) {len : Nat} (one : 1 ≤ len) (le : len ≤ 32) :
    (extractSigned v pos len).toInt = (v.toInt / 2 ^ (31 - pos)).bmod (2 ^ len) := by
  rw [extractSigned, toInt_shiftLeft_sshiftRight _ one le, BitVec.toInt_sshiftRight,
    Int.shiftRight_eq_div_pow]
  norm_cast

/-- A field inside the word does not see its sign (R606). -/
theorem toInt_extractSigned_inside (v : Word) {pos len : Nat} (hp : pos < 32) (one : 1 ≤ len)
    (inside : len - 1 ≤ pos) :
    (extractSigned v pos len).toInt = Int.bmod (v.toNat / 2 ^ (31 - pos)) (2 ^ len) := by
  have width : (2 : Int) ^ 32 = 2 ^ (31 - pos) * (2 ^ len * 2 ^ (pos + 1 - len)) := by
    rw [← pow_add, ← pow_add]
    congr 1
    omega
  rw [toInt_extractSigned v pos one (by omega), BitVec.toInt_eq_toNat_cond]
  split
  · rfl
  · rw [Nat.cast_pow, Nat.cast_ofNat, width, Int.sub_mul_ediv_left _ _ (by positivity)]
    have drop := Int.sub_mul_bmod_self_left (v.toNat / 2 ^ (31 - pos)) (2 ^ len) (2 ^ (pos + 1 - len))
    rwa [Nat.cast_pow, Nat.cast_ofNat] at drop

/-- A field that runs past the left edge is the shifted signed number (R606). -/
theorem toInt_extractSigned_outside (v : Word) {pos len : Nat} (hp : pos < 32) (le : len ≤ 32)
    (outside : pos < len - 1) : (extractSigned v pos len).toInt = v.toInt / 2 ^ (31 - pos) := by
  have width : (2 : Int) ^ 31 = 2 ^ pos * 2 ^ (31 - pos) := by
    rw [← pow_add]
    congr 1
    omega
  have room : (2 : Int) ^ pos * 2 ≤ 2 ^ len := by
    rw [← pow_succ]
    exact pow_le_pow_right₀ (by omega) (by omega)
  have low : -(2 : Int) ^ pos ≤ v.toInt / 2 ^ (31 - pos) := by
    rw [Int.le_ediv_iff_mul_le (by positivity), neg_mul, ← width]
    exact v.le_toInt
  have high : v.toInt / 2 ^ (31 - pos) < (2 : Int) ^ pos := by
    rw [Int.ediv_lt_iff_lt_mul (by positivity), ← width]
    exact v.toInt_lt
  rw [toInt_extractSigned v pos (by omega) le]
  apply Int.bmod_eq_of_le_mul_two <;> push_cast <;> linarith

/-- The bits that a deposit replaces (R609). -/
theorem getLsbD_depositMask {pos len i : Nat} (hp : pos < 32) (le : len ≤ 32) (hi : i < 32) :
    (depositMask pos len).getLsbD (31 - i) = decide (i ≤ pos ∧ pos < i + len) := by
  rw [depositMask, BitVec.getLsbD_shiftLeft, getLsbD_lowMask le, decide_eq_true (by omega : 31 - i < 32),
    Bool.true_and, Bool.eq_iff_iff]
  simp only [Bool.and_eq_true, Bool.not_eq_true', decide_eq_false_iff_not, decide_eq_true_eq]
  omega

/-- A deposit, bit by bit (R609 to R616). -/
theorem mbit_deposit (a b : Word) {pos len i : Nat} (hp : pos < 32) (le : len ≤ 32) (hi : i < 32) :
    mbit (deposit a b pos len) i =
      if i ≤ pos ∧ pos < i + len then mbit b (31 - (pos - i)) else mbit a i := by
  rw [deposit, mbit, BitVec.getLsbD_or, BitVec.getLsbD_and, BitVec.getLsbD_and, BitVec.getLsbD_not,
    getLsbD_depositMask hp le hi]
  by_cases inside : i ≤ pos ∧ pos < i + len
  · have moved : 31 - i - (31 - pos) = 31 - (31 - (pos - i)) := by omega
    rw [if_pos inside, decide_eq_true inside, BitVec.getLsbD_shiftLeft, moved,
      decide_eq_true (by omega : 31 - i < 32), decide_eq_false (by omega : ¬ 31 - i < 31 - pos)]
    simp [mbit]
  · rw [if_neg inside, decide_eq_false inside]
    simp [mbit, show 31 - i < 32 by omega]

/-- Settles O24: the fields as numbers, and a deposit by its mask. -/
theorem fieldOperations : Obligations.FieldOperations := fun a b pos _ sa hp one le _ =>
  ⟨toNat_shiftDouble a b sa, toNat_extractUnsigned a pos le,
    fun inside => toInt_extractSigned_inside a hp one inside,
    fun outside => toInt_extractSigned_outside a hp le outside, fun _ hi => mbit_deposit a b hp le hi⟩

end Sys2Proof.Machine
end
